-- ==== Sys2Proof/Word.lean ====
section
/-! DEFINITION. Bytes, and the two fixed banks the part is made of: four like things (lanes, groups) and sixteen
like things (channels, slots, bands). -/

namespace Sys2Proof

/-- One byte of a frame. -/
abbrev Byte := BitVec 8

/-- Lanes are numbered 0 to 3 (00_scope, 4.3). -/
abbrev Lane := Fin 4
/-- Detector channels are numbered 0 to 15. -/
abbrev Chan := Fin 16
/-- Plan slots are numbered 0 to 15. -/
abbrev Slot := Fin 16
/-- Map bands are numbered 0 to 15. -/
abbrev Band := Fin 16

/-- Four like things, one for each number 0 to 3. -/
structure Quad (α : Type) where
  q0 : α
  q1 : α
  q2 : α
  q3 : α
  deriving DecidableEq, Repr

def Quad.get {α : Type} (q : Quad α) (i : Fin 4) : α :=
  match i with
  | 0 => q.q0
  | 1 => q.q1
  | 2 => q.q2
  | 3 => q.q3

def Quad.set {α : Type} (q : Quad α) (i : Fin 4) (a : α) : Quad α :=
  match i with
  | 0 => { q with q0 := a }
  | 1 => { q with q1 := a }
  | 2 => { q with q2 := a }
  | 3 => { q with q3 := a }

def Quad.map {α β : Type} (f : α → β) (q : Quad α) : Quad β := ⟨f q.q0, f q.q1, f q.q2, f q.q3⟩

def Quad.all {α : Type} (a : α) : Quad α := ⟨a, a, a, a⟩

def Quad.toList {α : Type} (q : Quad α) : List α := [q.q0, q.q1, q.q2, q.q3]

def Quad.modify {α : Type} (q : Quad α) (i : Fin 4) (f : α → α) : Quad α := q.set i (f (q.get i))

/-- Build four things from their numbers. -/
def Quad.tab {α : Type} (f : Fin 4 → α) : Quad α := ⟨f 0, f 1, f 2, f 3⟩

/-- Sixteen like things, held as four groups of four: number `c` is in group `c / 4`, place `c % 4`. -/
abbrev Bank (α : Type) := Quad (Quad α)

/-- The group of four that number `c` lies in (the protection groups of R120 are these groups). -/
def groupOf (c : Fin 16) : Fin 4 := ⟨c.val / 4, by omega⟩

/-- The place of number `c` within its group. -/
def placeOf (c : Fin 16) : Fin 4 := ⟨c.val % 4, by omega⟩

def Bank.at {α : Type} (b : Bank α) (c : Fin 16) : α := (Quad.get b (groupOf c)).get (placeOf c)

def Bank.put {α : Type} (b : Bank α) (c : Fin 16) (a : α) : Bank α :=
  Quad.set b (groupOf c) ((Quad.get b (groupOf c)).set (placeOf c) a)

def Bank.mapAll {α β : Type} (f : α → β) (b : Bank α) : Bank β := Quad.map (Quad.map f) b

def Bank.fill {α : Type} (a : α) : Bank α := Quad.all (Quad.all a)

def Bank.list {α : Type} (b : Bank α) : List α :=
  b.q0.toList ++ b.q1.toList ++ b.q2.toList ++ b.q3.toList

def Bank.modify {α : Type} (b : Bank α) (c : Fin 16) (f : α → α) : Bank α := Bank.put b c (f (Bank.at b c))

/-- The four lanes in number order. -/
def allLanes : List Lane := [0, 1, 2, 3]

/-- The sixteen numbers of a bank in order. -/
def allSixteen : List (Fin 16) := [0, 1, 2, 3, 4, 5, 6, 7, 8, 9, 10, 11, 12, 13, 14, 15]

/-- Counting up to a largest value and staying there (00_scope 4.5, saturating). -/
def satAdd (limit a k : Nat) : Nat := min limit (a + k)

end Sys2Proof
end

