-- ==== Sys2Proof/Config.lean ====
section
/-! DEFINITION. The free values: what the spec leaves open and the part still produces. No proof can see them. -/

namespace Sys2Proof.Config

/-- The two bytes READ-ARBITER gives for the open release's grant number while no release is open: R114 lists the
field and states no value for it then. The argument counts the uses (`State.freeCount`). DESIGN CHOICE, log 14. -/
opaque freeGrantBytes : Nat → BitVec 16

/-- Which of the events that arrive together is taken first, on an empty queue: the spec lets either come first
(R105 and others). The argument counts the uses (`State.freeCount`). DESIGN CHOICE, log 5. -/
opaque freePick : Nat → Nat

end Sys2Proof.Config
end

