-- ==== Sys2Proof/Syntax.lean ====
section
/-! DEFINITION. The commands of the block: one constructor of `Instr` for each row of opcode_table.json. -/

namespace Sys2Proof

/-- The three lamps of a signal head (00_scope 4.3). -/
inductive Colour where
  | red
  | amber
  | green
  deriving DecidableEq, Repr

/-- The kinds of an override entry (R129). -/
inductive OvKind where
  | fixed
  | flush
  | close
  | clearout
  deriving DecidableEq, Repr

/-- The sources of an override entry; a QUEUE source includes its lane (R129). -/
inductive OvSource where
  | link
  | preempt
  | queue (l : Lane)
  | spill
  deriving DecidableEq, Repr

/-- The commands of the block. A host frame carries its argument bytes as they stand in the frame, after CODE
(11_host_link, 11.6), so that a wrong length or an argument out of range can be sent too. -/
inductive Instr where
  -- resets
  | powerOn
  | resetInputAsserted
  | resetInputReleased
  -- host command frames
  | beginCmd (args : List Byte)
  | getStatus (args : List Byte)
  | takeNotice (args : List Byte)
  | setNoticeMask (args : List Byte)
  | siteReset (args : List Byte)
  | setTime (args : List Byte)
  | pfxLane (args : List Byte)
  | pfxPlan (args : List Byte)
  | pfxChannel (args : List Byte)
  | setLane (args : List Byte)
  | setPriorityLane (args : List Byte)
  | setChannel (args : List Byte)
  | setTiming (args : List Byte)
  | readConfig (args : List Byte)
  | readChannel (args : List Byte)
  | resetChannel (args : List Byte)
  | startMetering (args : List Byte)
  | stopMetering (args : List Byte)
  | clearFailsafe (args : List Byte)
  | readLamps (args : List Byte)
  | clearAmberFault (args : List Byte)
  | writePlan (args : List Byte)
  | readPlan (args : List Byte)
  | erasePlan (args : List Byte)
  | selectPlan (args : List Byte)
  | protectGroup (args : List Byte)
  | unprotectGroup (args : List Byte)
  | pushOverride (args : List Byte)
  | removeOverride (args : List Byte)
  | readOverrides (args : List Byte)
  | mapFrom (args : List Byte)
  | mapTo (args : List Byte)
  | mapSkip (args : List Byte)
  | mapAssign (args : List Byte)
  | readMap (args : List Byte)
  | streamLog (args : List Byte)
  | stopStream (args : List Byte)
  | readLogState (args : List Byte)
  | readCounts (args : List Byte)
  | clearCounts (args : List Byte)
  | readArbiter (args : List Byte)
  -- other events of the link
  | undefinedCodeFrame (code : Byte) (args : List Byte)
  | badCheckFrame
  | frameGapTimeout
  | lenOutOfRange (len : Byte)
  | frameOverrun
  | prefixHoldExpiry
  | linkLossExpiry
  | recordFrameCompletion
  -- detector monitor
  | detectorInputChange (c : Chan) (occupied : Bool)
  | actuation (c : Chan)
  | clearing (c : Chan)
  | stuckOnExpiry (c : Chan)
  | stuckOffExpiry (c : Chan)
  | noShowClaim (l : Lane)
  | mergeSettleExpiry
  | queueOnReached (l : Lane)
  | queueOffReached (l : Lane)
  | spillOnReached
  | spillOffReached
  | occupancyPeriodClose
  -- override stack
  | preemptionInputChange (asserted : Bool)
  | preemptionAssertion
  | preemptionRelease
  | overrideLimitExpiry (kind : OvKind) (source : OvSource)
  | arbiterGoverningChange
  | laneGoverningChange (l : Lane)
  -- site controller
  | lampTestExpiry
  | warningExpiry
  | stopFlushExpiry
  | lampFailureReport
  -- lamp monitor
  | lampSenseChange (l : Lane) (col : Colour) (on : Bool)
  | provingWindowEnd (l : Lane) (col : Colour)
  | flashOnPhaseEnd (l : Lane) (col : Colour)
  | strayMeasureExpiry (l : Lane) (col : Colour)
  | lossOfProof (l : Lane) (col : Colour)
  -- lane sequencers
  | minGreenElapsed (l : Lane)
  | greenDurationElapsed (l : Lane)
  | amberTimeElapsed (l : Lane)
  | minRedElapsed (l : Lane)
  | redGraceExpiry (l : Lane)
  | releaseCut (l : Lane)
  -- merge arbiter
  | releaseEnd (l : Lane)
  | request (l : Lane)
  | withdrawal (l : Lane)
  | mergeMonitorChange
  | intervalExpiry
  | grant
  | advanceActuation
  | reservationExpiry
  -- transmit line
  | replyFrameTransmitted
  deriving DecidableEq, Repr

/-- The codes of the command table (11_host_link, 11.6). -/
inductive Cmd where
  | beginCmd | getStatus | takeNotice | setNoticeMask | siteReset | setTime
  | pfxLane | pfxPlan | pfxChannel
  | setLane | setPriorityLane | setChannel | setTiming | readConfig | readChannel | resetChannel
  | startMetering | stopMetering | clearFailsafe | readLamps | clearAmberFault
  | writePlan | readPlan | erasePlan | selectPlan | protectGroup | unprotectGroup
  | pushOverride | removeOverride | readOverrides
  | mapFrom | mapTo | mapSkip | mapAssign | readMap
  | streamLog | stopStream | readLogState | readCounts | clearCounts | readArbiter
  deriving DecidableEq, Repr

end Sys2Proof
end

