-- ==== Sys2Proof/Decode.lean ====
section
/-! DEFINITION. The command table of the host link (11_host_link, 11.6), the frame check (R164), the byte receiver
(R163) and the command a complete frame spells. The rows of opcode_table.json give no bits, so `decodeTableWord`
answers none. -/

namespace Sys2Proof

/-- The code byte of a command (command table, 11.6). -/
def Cmd.code : Cmd → Byte
  | .beginCmd => 0x01
  | .getStatus => 0x02
  | .takeNotice => 0x03
  | .setNoticeMask => 0x04
  | .siteReset => 0x05
  | .setTime => 0x06
  | .pfxLane => 0x10
  | .pfxPlan => 0x11
  | .pfxChannel => 0x12
  | .setLane => 0x20
  | .setPriorityLane => 0x21
  | .setChannel => 0x22
  | .setTiming => 0x23
  | .readConfig => 0x24
  | .readChannel => 0x25
  | .resetChannel => 0x26
  | .startMetering => 0x30
  | .stopMetering => 0x31
  | .clearFailsafe => 0x32
  | .readLamps => 0x33
  | .clearAmberFault => 0x34
  | .writePlan => 0x40
  | .readPlan => 0x41
  | .erasePlan => 0x42
  | .selectPlan => 0x43
  | .protectGroup => 0x44
  | .unprotectGroup => 0x45
  | .pushOverride => 0x50
  | .removeOverride => 0x51
  | .readOverrides => 0x52
  | .mapFrom => 0x60
  | .mapTo => 0x61
  | .mapSkip => 0x62
  | .mapAssign => 0x63
  | .readMap => 0x64
  | .streamLog => 0x70
  | .stopStream => 0x71
  | .readLogState => 0x72
  | .readCounts => 0x73
  | .clearCounts => 0x74
  | .readArbiter => 0x75

/-- The argument bytes the command table gives the code: LEN minus 1. -/
def Cmd.argBytes : Cmd → Nat
  | .beginCmd => 0
  | .getStatus => 0
  | .takeNotice => 0
  | .setNoticeMask => 1
  | .siteReset => 0
  | .setTime => 3
  | .pfxLane => 1
  | .pfxPlan => 1
  | .pfxChannel => 1
  | .setLane => 1
  | .setPriorityLane => 1
  | .setChannel => 6
  | .setTiming => 3
  | .readConfig => 0
  | .readChannel => 0
  | .resetChannel => 0
  | .startMetering => 0
  | .stopMetering => 0
  | .clearFailsafe => 0
  | .readLamps => 0
  | .clearAmberFault => 0
  | .writePlan => 10
  | .readPlan => 0
  | .erasePlan => 0
  | .selectPlan => 0
  | .protectGroup => 1
  | .unprotectGroup => 1
  | .pushOverride => 5
  | .removeOverride => 1
  | .readOverrides => 0
  | .mapFrom => 1
  | .mapTo => 1
  | .mapSkip => 1
  | .mapAssign => 1
  | .readMap => 0
  | .streamLog => 1
  | .stopStream => 0
  | .readLogState => 0
  | .readCounts => 0
  | .clearCounts => 0
  | .readArbiter => 0

/-- Does the code accept a held LANE prefix (command table, column Prefixes)? -/
def Cmd.acceptsLane : Cmd → Bool
  | .beginCmd => false
  | .getStatus => false
  | .takeNotice => false
  | .setNoticeMask => false
  | .siteReset => false
  | .setTime => false
  | .pfxLane => false
  | .pfxPlan => false
  | .pfxChannel => false
  | .setLane => true
  | .setPriorityLane => false
  | .setChannel => true
  | .setTiming => false
  | .readConfig => false
  | .readChannel => false
  | .resetChannel => false
  | .startMetering => false
  | .stopMetering => false
  | .clearFailsafe => false
  | .readLamps => true
  | .clearAmberFault => true
  | .writePlan => false
  | .readPlan => false
  | .erasePlan => false
  | .selectPlan => false
  | .protectGroup => false
  | .unprotectGroup => false
  | .pushOverride => true
  | .removeOverride => false
  | .readOverrides => false
  | .mapFrom => false
  | .mapTo => false
  | .mapSkip => false
  | .mapAssign => false
  | .readMap => false
  | .streamLog => false
  | .stopStream => false
  | .readLogState => false
  | .readCounts => true
  | .clearCounts => true
  | .readArbiter => false

/-- Does the code accept a held PLAN prefix? -/
def Cmd.acceptsPlan : Cmd → Bool
  | .beginCmd => false
  | .getStatus => false
  | .takeNotice => false
  | .setNoticeMask => false
  | .siteReset => false
  | .setTime => false
  | .pfxLane => false
  | .pfxPlan => false
  | .pfxChannel => false
  | .setLane => false
  | .setPriorityLane => false
  | .setChannel => false
  | .setTiming => false
  | .readConfig => false
  | .readChannel => false
  | .resetChannel => false
  | .startMetering => false
  | .stopMetering => false
  | .clearFailsafe => false
  | .readLamps => false
  | .clearAmberFault => false
  | .writePlan => true
  | .readPlan => true
  | .erasePlan => true
  | .selectPlan => true
  | .protectGroup => false
  | .unprotectGroup => false
  | .pushOverride => false
  | .removeOverride => false
  | .readOverrides => false
  | .mapFrom => false
  | .mapTo => false
  | .mapSkip => false
  | .mapAssign => false
  | .readMap => false
  | .streamLog => false
  | .stopStream => false
  | .readLogState => false
  | .readCounts => false
  | .clearCounts => false
  | .readArbiter => false

/-- Does the code accept a held CHANNEL prefix? -/
def Cmd.acceptsChannel : Cmd → Bool
  | .beginCmd => false
  | .getStatus => false
  | .takeNotice => false
  | .setNoticeMask => false
  | .siteReset => false
  | .setTime => false
  | .pfxLane => false
  | .pfxPlan => false
  | .pfxChannel => false
  | .setLane => false
  | .setPriorityLane => false
  | .setChannel => true
  | .setTiming => false
  | .readConfig => false
  | .readChannel => true
  | .resetChannel => true
  | .startMetering => false
  | .stopMetering => false
  | .clearFailsafe => false
  | .readLamps => false
  | .clearAmberFault => false
  | .writePlan => false
  | .readPlan => false
  | .erasePlan => false
  | .selectPlan => false
  | .protectGroup => false
  | .unprotectGroup => false
  | .pushOverride => false
  | .removeOverride => false
  | .readOverrides => false
  | .mapFrom => false
  | .mapTo => false
  | .mapSkip => false
  | .mapAssign => false
  | .readMap => false
  | .streamLog => false
  | .stopStream => false
  | .readLogState => false
  | .readCounts => false
  | .clearCounts => false
  | .readArbiter => false

/-- Is the code taken in START and LAMPTEST (marked start in the command table; R165 check 5)? -/
def Cmd.atStart : Cmd → Bool
  | .beginCmd => true
  | .getStatus => true
  | _ => false

/-- The map commands and READ-MAP: they do not end a map selection by being unrelated (R151, R165). -/
def Cmd.isMap : Cmd → Bool
  | .mapFrom => true
  | .mapTo => true
  | .mapSkip => true
  | .mapAssign => true
  | .readMap => true
  | _ => false

/-- The prefix codes (R167). -/
def Cmd.isPrefix : Cmd → Bool
  | .pfxLane => true
  | .pfxPlan => true
  | .pfxChannel => true
  | _ => false

/-- The codes a map selection stands through until their own rule ends it: GET-STATUS, the prefix frames, the map
commands and READ-MAP (R151, R165). -/
def Cmd.keepsSelection (c : Cmd) : Bool := c == .getStatus || c.isPrefix || c.isMap

/-- Every command of the table. -/
def Cmd.all : List Cmd :=
  [.beginCmd, .getStatus, .takeNotice, .setNoticeMask, .siteReset, .setTime, .pfxLane, .pfxPlan, .pfxChannel, .setLane, .setPriorityLane, .setChannel, .setTiming, .readConfig,
   .readChannel, .resetChannel, .startMetering, .stopMetering, .clearFailsafe, .readLamps, .clearAmberFault, .writePlan, .readPlan, .erasePlan, .selectPlan, .protectGroup, .unprotectGroup, .pushOverride,
   .removeOverride, .readOverrides, .mapFrom, .mapTo, .mapSkip, .mapAssign, .readMap, .streamLog, .stopStream, .readLogState, .readCounts, .clearCounts, .readArbiter]

/-- The command a code byte names, if it is in the command table (R165 check 2). -/
def Cmd.ofCode (b : Byte) : Option Cmd := Cmd.all.find? (fun c => c.code == b)

/-- The command as a row of the table, with its argument bytes. -/
def Cmd.instr (args : List Byte) : Cmd → Instr
  | .beginCmd => .beginCmd args
  | .getStatus => .getStatus args
  | .takeNotice => .takeNotice args
  | .setNoticeMask => .setNoticeMask args
  | .siteReset => .siteReset args
  | .setTime => .setTime args
  | .pfxLane => .pfxLane args
  | .pfxPlan => .pfxPlan args
  | .pfxChannel => .pfxChannel args
  | .setLane => .setLane args
  | .setPriorityLane => .setPriorityLane args
  | .setChannel => .setChannel args
  | .setTiming => .setTiming args
  | .readConfig => .readConfig args
  | .readChannel => .readChannel args
  | .resetChannel => .resetChannel args
  | .startMetering => .startMetering args
  | .stopMetering => .stopMetering args
  | .clearFailsafe => .clearFailsafe args
  | .readLamps => .readLamps args
  | .clearAmberFault => .clearAmberFault args
  | .writePlan => .writePlan args
  | .readPlan => .readPlan args
  | .erasePlan => .erasePlan args
  | .selectPlan => .selectPlan args
  | .protectGroup => .protectGroup args
  | .unprotectGroup => .unprotectGroup args
  | .pushOverride => .pushOverride args
  | .removeOverride => .removeOverride args
  | .readOverrides => .readOverrides args
  | .mapFrom => .mapFrom args
  | .mapTo => .mapTo args
  | .mapSkip => .mapSkip args
  | .mapAssign => .mapAssign args
  | .readMap => .readMap args
  | .streamLog => .streamLog args
  | .stopStream => .stopStream args
  | .readLogState => .readLogState args
  | .readCounts => .readCounts args
  | .clearCounts => .clearCounts args
  | .readArbiter => .readArbiter args

/-- One shift of the CRC register, generator x^8 + x^2 + x + 1, most significant bit first (R164). -/
def crcShift (r : Byte) : Byte := if r.msb then (r <<< 1) ^^^ 0x07 else r <<< 1

/-- One byte into the CRC register (R164). -/
def crcByte (r b : Byte) : Byte :=
  crcShift (crcShift (crcShift (crcShift (crcShift (crcShift (crcShift (crcShift (r ^^^ b))))))))

/-- The CRC register after a run of bytes, from 0 (R164). -/
def crc8 (bs : List Byte) : Byte := bs.foldl crcByte 0

/-- The states of the frame receiver (R163). In BODY the bytes from LEN on are kept, in order of arrival. -/
inductive Receiver where
  | hunting
  | length
  | body (len : Byte) (got : List Byte)
  deriving DecidableEq, Repr

/-- What one received byte brings about, beside the receiver's new state (R163). -/
inductive Received where
  | nothing
  | badLength (len : Byte)
  | frame (len : Byte) (body : List Byte)
  deriving DecidableEq, Repr

/-- Is the LEN byte in range, 1 to 48 (R163)? -/
def lenInRange (b : Byte) : Bool := decide (1 ≤ b.toNat ∧ b.toNat ≤ 48)

/-- A byte examined as in HUNTING: only SYNC, 0xD5, starts a frame (R163). -/
def hunt (b : Byte) : Receiver := if b = 0xD5 then .length else .hunting

/-- The receiver's table (R163). A frame's body is LEN bytes and the CHECK byte. -/
def receiveByte (r : Receiver) (b : Byte) : Receiver × Received :=
  match r with
  | .hunting => (hunt b, .nothing)
  | .length => if lenInRange b then (.body b [], .nothing) else (hunt b, .badLength b)
  | .body len got =>
    if got.length < len.toNat then (.body len (got ++ [b]), .nothing)
    else (.hunting, .frame len (got ++ [b]))

/-- The command that a complete frame spells: `body` is CODE, the arguments and CHECK (R165 checks 1 and 2). -/
def frameInstr (len : Byte) (body : List Byte) : Instr :=
  if crc8 (len :: body) ≠ 0 then .badCheckFrame
  else
    match body.dropLast with
    | [] => .badCheckFrame
    | code :: args =>
      match Cmd.ofCode code with
      | some c => c.instr args
      | none => .undefinedCodeFrame code args

/-- The bytes of a command frame: SYNC, LEN, CODE, arguments, CHECK (R163, R174). -/
def frameBytes (code : Byte) (args : List Byte) : List Byte :=
  let covered := BitVec.ofNat 8 (args.length + 1) :: code :: args
  0xD5 :: covered ++ [crc8 covered]

/-- The receiver over a run of bytes: its state at the end, and what each byte brought about that was not nothing. -/
def receiveBytes (r : Receiver) : List Byte → Receiver × List Received
  | [] => (r, [])
  | b :: bs =>
    let one := receiveByte r b
    let rest := receiveBytes one.1 bs
    (rest.1, (if one.2 = .nothing then [] else [one.2]) ++ rest.2)

/-- No row of opcode_table.json gives bits: no word spells a command. -/
def decodeTableWord (_nbits _w : Nat) : Option Instr := none

/-- Two bytes of a frame as a number, most significant byte first (00_scope 4.6). -/
def be16 (hi lo : Byte) : Nat := hi.toNat * 256 + lo.toNat

/-- A number as two bytes of a frame, most significant byte first (R174). -/
def bytes16 (n : Nat) : List Byte := [BitVec.ofNat 8 (n / 256), BitVec.ofNat 8 n]

/-- A number as one byte of a frame. -/
def byte1 (n : Nat) : Byte := BitVec.ofNat 8 n

/-- A flag as a byte: 0 for clear, 1 for set (R174). -/
def flagByte (b : Bool) : Byte := if b then 1 else 0

/-- A lane, slot or channel number as a byte, 0xFF when absent (R174). -/
def optByte {n : Nat} (o : Option (Fin n)) : Byte :=
  match o with
  | some i => byte1 i.val
  | none => 0xFF

end Sys2Proof
end

