-- ==== Sys2Proof/Machine/Params.lean ====
section
/-! DEFINITION. The site timing record: its twenty-two parameters, their numbers, ranges and defaults
(01_site_description, 1.4). -/

namespace Sys2Proof.Machine

/-- The parameters of the site timing record, in number order (01_site_description, table of 1.4). -/
inductive Param where
  | warnTime
  | minGreen
  | greenUnit
  | amberTime
  | minRed
  | redGrace
  | mergeSettle
  | stopFlush
  | reserveLimit
  | lampProve
  | lampRetries
  | amberFaultAction
  | queueOn
  | queueOff
  | spillOn
  | spillOff
  | flushLimit
  | noShowLimit
  | prefixHold
  | linkLoss
  | occupancyPeriod
  | localAction
  deriving DecidableEq, Repr

/-- The parameter of a number 1 to 22; 0 and above 22 name none (R7). -/
def Param.ofNumber (n : Nat) : Option Param :=
  match n with
  | 1 => some .warnTime
  | 2 => some .minGreen
  | 3 => some .greenUnit
  | 4 => some .amberTime
  | 5 => some .minRed
  | 6 => some .redGrace
  | 7 => some .mergeSettle
  | 8 => some .stopFlush
  | 9 => some .reserveLimit
  | 10 => some .lampProve
  | 11 => some .lampRetries
  | 12 => some .amberFaultAction
  | 13 => some .queueOn
  | 14 => some .queueOff
  | 15 => some .spillOn
  | 16 => some .spillOff
  | 17 => some .flushLimit
  | 18 => some .noShowLimit
  | 19 => some .prefixHold
  | 20 => some .linkLoss
  | 21 => some .occupancyPeriod
  | 22 => some .localAction
  | _ => none

/-- The lower and upper ends of a parameter's range (table of 1.4). -/
def Param.bounds : Param → Nat × Nat
  | .warnTime => (30, 600)
  | .minGreen => (5, 30)
  | .greenUnit => (5, 40)
  | .amberTime => (20, 50)
  | .minRed => (10, 100)
  | .redGrace => (0, 10)
  | .mergeSettle => (0, 50)
  | .stopFlush => (0, 600)
  | .reserveLimit => (20, 300)
  | .lampProve => (1, 10)
  | .lampRetries => (0, 7)
  | .amberFaultAction => (0, 1)
  | .queueOn => (10, 600)
  | .queueOff => (10, 600)
  | .spillOn => (10, 600)
  | .spillOff => (10, 600)
  | .flushLimit => (100, 3000)
  | .noShowLimit => (1, 7)
  | .prefixHold => (2, 50)
  | .linkLoss => (50, 6000)
  | .occupancyPeriod => (100, 1200)
  | .localAction => (0, 1)

/-- Is the value in the parameter's range (R7)? link_loss also takes 0, which turns detection off. The settings
amber_fault_action and local_action take 0 or 1. -/
def Param.inRange (p : Param) (v : Nat) : Bool :=
  (decide (p.bounds.1 ≤ v) && decide (v ≤ p.bounds.2)) || (decide (p = .linkLoss) && decide (v = 0))

/-- The site timing record. Durations are in tenths; no_show_limit and lamp_retries are counts;
amber_fault_action is RECORD 0 or FAILSAFE 1, local_action is KEEP 0 or MAP 1. -/
structure Timing where
  warnTime : Nat
  minGreen : Nat
  greenUnit : Nat
  amberTime : Nat
  minRed : Nat
  redGrace : Nat
  mergeSettle : Nat
  stopFlush : Nat
  reserveLimit : Nat
  lampProve : Nat
  lampRetries : Nat
  amberFaultAction : Nat
  queueOn : Nat
  queueOff : Nat
  spillOn : Nat
  spillOff : Nat
  flushLimit : Nat
  noShowLimit : Nat
  prefixHold : Nat
  linkLoss : Nat
  occupancyPeriod : Nat
  localAction : Nat
  deriving DecidableEq, Repr

def Timing.get (t : Timing) : Param → Nat
  | .warnTime => t.warnTime
  | .minGreen => t.minGreen
  | .greenUnit => t.greenUnit
  | .amberTime => t.amberTime
  | .minRed => t.minRed
  | .redGrace => t.redGrace
  | .mergeSettle => t.mergeSettle
  | .stopFlush => t.stopFlush
  | .reserveLimit => t.reserveLimit
  | .lampProve => t.lampProve
  | .lampRetries => t.lampRetries
  | .amberFaultAction => t.amberFaultAction
  | .queueOn => t.queueOn
  | .queueOff => t.queueOff
  | .spillOn => t.spillOn
  | .spillOff => t.spillOff
  | .flushLimit => t.flushLimit
  | .noShowLimit => t.noShowLimit
  | .prefixHold => t.prefixHold
  | .linkLoss => t.linkLoss
  | .occupancyPeriod => t.occupancyPeriod
  | .localAction => t.localAction

def Timing.set (t : Timing) (p : Param) (v : Nat) : Timing :=
  match p with
  | .warnTime => { t with warnTime := v }
  | .minGreen => { t with minGreen := v }
  | .greenUnit => { t with greenUnit := v }
  | .amberTime => { t with amberTime := v }
  | .minRed => { t with minRed := v }
  | .redGrace => { t with redGrace := v }
  | .mergeSettle => { t with mergeSettle := v }
  | .stopFlush => { t with stopFlush := v }
  | .reserveLimit => { t with reserveLimit := v }
  | .lampProve => { t with lampProve := v }
  | .lampRetries => { t with lampRetries := v }
  | .amberFaultAction => { t with amberFaultAction := v }
  | .queueOn => { t with queueOn := v }
  | .queueOff => { t with queueOff := v }
  | .spillOn => { t with spillOn := v }
  | .spillOff => { t with spillOff := v }
  | .flushLimit => { t with flushLimit := v }
  | .noShowLimit => { t with noShowLimit := v }
  | .prefixHold => { t with prefixHold := v }
  | .linkLoss => { t with linkLoss := v }
  | .occupancyPeriod => { t with occupancyPeriod := v }
  | .localAction => { t with localAction := v }

/-- The defaults of the table of 1.4 (R17). -/
def Timing.default : Timing where
  warnTime := 100
  minGreen := 10
  greenUnit := 15
  amberTime := 30
  minRed := 20
  redGrace := 5
  mergeSettle := 15
  stopFlush := 150
  reserveLimit := 150
  lampProve := 3
  lampRetries := 2
  amberFaultAction := 1
  queueOn := 100
  queueOff := 50
  spillOn := 50
  spillOff := 100
  flushLimit := 1200
  noShowLimit := 3
  prefixHold := 10
  linkLoss := 600
  occupancyPeriod := 300
  localAction := 0

/-- Every parameter, in number order (R16). -/
def Param.all : List Param :=
  [.warnTime, .minGreen, .greenUnit, .amberTime, .minRed, .redGrace, .mergeSettle, .stopFlush,
   .reserveLimit, .lampProve, .lampRetries, .amberFaultAction, .queueOn, .queueOff, .spillOn, .spillOff,
   .flushLimit, .noShowLimit, .prefixHold, .linkLoss, .occupancyPeriod, .localAction]

end Sys2Proof.Machine
end

