-- ==== Sys2Proof/Machine/State.lean ====
section
/-! DEFINITION. The state of the part: every piece the spec names, block by block, and the state after reset.
Moments (`Nat`) are read on the clock `State.now`, which counts tenths from the reset (log 9). -/

namespace Sys2Proof.Machine

/-- The site state (R37). -/
inductive SiteState where
  | start
  | lamptest
  | dark
  | starting
  | metering
  | stopping
  | failsafe
  deriving DecidableEq, Repr

/-- The site controller: the site state and its three timers, each the moment it expires while it runs (R38). -/
structure SiteCtl where
  state : SiteState
  lampTestAt : Option Nat
  warningAt : Option Nat
  stopFlushAt : Option Nat
  deriving DecidableEq, Repr

/-- Lane modes (R1). -/
inductive LaneMode where
  | unused
  | counted
  | metered
  | timed
  deriving DecidableEq, Repr

/-- The site description (R1, R4, section 1.4). -/
structure SiteDesc where
  modes : Quad LaneMode
  priority : Option Lane
  timing : Timing
  deriving DecidableEq, Repr

/-- Roles of a detector channel (R18). -/
inductive Role where
  | none
  | stop
  | demand
  | queue
  | spill
  | merge
  | mainline
  | advance
  deriving DecidableEq, Repr

inductive Health where
  | good
  | stuckOn
  | stuckOff
  deriving DecidableEq, Repr

inductive Cause where
  | noActuation
  | continuous
  | noShow
  deriving DecidableEq, Repr

/-- The channel record of R18, with the input's level and the filter's pending change (R22). `true` is OCCUPIED. -/
structure Channel where
  role : Role
  lane : Option Lane
  filter : Nat
  onLimit : Nat
  offLimit : Nat
  occupied : Bool
  health : Health
  cause : Option Cause
  count : BitVec 16
  contOccupied : Nat
  sinceActuation : Nat
  occupiedPeriod : Nat
  input : Bool
  changeFrom : Option Nat
  deriving DecidableEq, Repr

inductive MergeState where
  | clear
  | settling
  | busy
  deriving DecidableEq, Repr

/-- The merge monitor: its state and the moment the settle time started (R31). -/
structure MergeMon where
  state : MergeState
  settleFrom : Option Nat
  deriving DecidableEq, Repr

inductive MonState where
  | watching
  | triggered
  | spent
  deriving DecidableEq, Repr

/-- An unbroken spell of a reading: its level and the moment it started (R32). -/
structure Spell where
  occupied : Bool
  since : Nat
  deriving DecidableEq, Repr

/-- A queue monitor, or the spill monitor (R32, R34). -/
structure Monitor where
  state : MonState
  spell : Option Spell
  deriving DecidableEq, Repr

/-- The detector monitor (R18, R31, R32, R34, R35). `occupancy` is absent for UNKNOWN. -/
structure Detectors where
  chans : Bank Channel
  merge : MergeMon
  queue : Quad Monitor
  spill : Monitor
  occupancy : Option Nat
  periodFrom : Nat
  deriving DecidableEq, Repr

/-- A governing entry as the stack hands it to the other blocks: the entry without its limit (R130). -/
structure Gov where
  kind : OvKind
  source : OvSource
  lanes : Option Lane
  fixed : Option Nat
  deriving DecidableEq, Repr

/-- Aspect states of a lane (R52). -/
inductive LaneState where
  | off
  | warning
  | red
  | green
  | amber
  | opened
  deriving DecidableEq, Repr

/-- The lane record (R52). `entryAt` and `onsetAt` are moments of `State.now`; `State.entryTime` and
`State.onsetTime` read them as site times. `gov` is the governing entry the lane last took (R66, log 7). -/
structure LaneRec where
  state : LaneState
  entryAt : Nat
  onsetAt : Option Nat
  minRed : Bool
  grant : Option (BitVec 16)
  size : Option Nat
  greenFor : Option Nat
  passages : Nat
  cut : Bool
  noShows : Nat
  inQueue : Bool
  gov : Option Gov
  deriving DecidableEq, Repr

/-- What a lamp, or the sign, is commanded to (R75). -/
inductive LampCmd where
  | off
  | on
  | flash
  deriving DecidableEq, Repr

inductive LampOut where
  | dark
  | driven
  | held
  deriving DecidableEq, Repr

inductive Proving where
  | proven
  | proving
  | unproven
  deriving DecidableEq, Repr

inductive LampFault where
  | none
  | failedOn
  | failedOff
  deriving DecidableEq, Repr

/-- The lamp channel record (R75). `phaseEnd` is the end of the on-phase now judged, for a lamp commanded FLASH,
and `phaseSeen` says that its sense has read ON in that on-phase (R79); `lostFrom` is the moment a PROVEN ON lamp's
sense went OFF (R81). -/
structure LampRec where
  commanded : LampCmd
  output : LampOut
  sensed : Bool
  proving : Proving
  retries : Nat
  window : Option Nat
  fault : LampFault
  noticeOnly : Bool
  phaseEnd : Option Nat
  phaseSeen : Bool
  lostFrom : Option Nat
  deriving DecidableEq, Repr

/-- The three lamps of a lane's signal head. -/
structure Head where
  red : LampRec
  amber : LampRec
  green : LampRec
  deriving DecidableEq, Repr

/-- The lamp monitor: twelve records, the commanded state of the sign and the moment it was commanded (R75). -/
structure LampMon where
  heads : Quad Head
  sign : LampCmd
  signFrom : Nat
  deriving DecidableEq, Repr

/-- Ownership states (R92). -/
inductive Ownership where
  | shut
  | free
  | yielding
  | releasing
  | held
  deriving DecidableEq, Repr

inductive HoldCause where
  | none
  | flush
  | reserve
  deriving DecidableEq, Repr

inductive Reservation where
  | none
  | pending
  | granted
  deriving DecidableEq, Repr

/-- The merge arbiter (R91). `gov` is the governing entry it last took (R112, log 7). -/
structure Arbiter where
  own : Ownership
  owner : Option Lane
  holdCause : HoldCause
  holdLane : Option Lane
  queue : List Lane
  prioWaiting : Bool
  armed : Option Nat
  elapsed : Nat
  expired : Bool
  openRelease : Option (Lane × BitVec 16)
  credit : Quad Nat
  prioCount : Nat
  reservation : Reservation
  reserveLeft : Nat
  grantNo : BitVec 16
  gov : Option Gov
  deriving DecidableEq, Repr

/-- The plan record (R116). -/
structure Plan where
  interval : Nat
  flushInterval : Nat
  size : Nat
  weights : Quad Nat
  prioEvery : Nat
  deriving DecidableEq, Repr

/-- The plan store (chapter 7). An EMPTY slot is absent. -/
structure PlanStore where
  slots : Bank (Option Plan)
  guarded : Quad Bool
  active : Option Slot
  staged : Option Slot
  deriving DecidableEq, Repr

/-- An override entry (R129). `lanes` is absent for ALL, `limit` for no limit. -/
structure Entry where
  kind : OvKind
  source : OvSource
  lanes : Option Lane
  limit : Option Nat
  fixed : Option Nat
  deriving DecidableEq, Repr

/-- The override stack, top first, and the pre-emption input filter (R131, R134). `true` is ASSERTED. -/
structure Overrides where
  entries : List Entry
  preInput : Bool
  preLevel : Bool
  preFrom : Option Nat
  deriving DecidableEq, Repr

/-- The map selection (R149). -/
inductive MapSel where
  | none
  | fromHeld (b : Band)
  | rangeHeld (f t : Band) (skips : Bank Bool)
  deriving DecidableEq, Repr

/-- The local selector (chapter 9). A map entry NONE is absent. -/
structure Selector where
  map : Bank (Option Slot)
  lastBand : Option Band
  sel : MapSel
  deriving DecidableEq, Repr

inductive RecKind where
  | released
  | late
  | violation
  | noShow
  | cut
  | unmetered
  deriving DecidableEq, Repr

/-- The passage record (R154). -/
structure PassRec where
  time : BitVec 24
  lane : Lane
  kind : RecKind
  plan : Option Slot
  grant : Option (BitVec 16)
  shortfall : Option Nat
  deriving DecidableEq, Repr

/-- The counters of a lane (R160). -/
structure LaneCounts where
  grants : BitVec 16
  passages : BitVec 16
  noShows : BitVec 16
  violations : BitVec 16
  deriving DecidableEq, Repr

/-- The counters of the slip (R160). -/
structure SlipCounts where
  grants : BitVec 16
  cuts : BitVec 16
  yields : BitVec 16
  expired : BitVec 16
  deriving DecidableEq, Repr

/-- The passage log, oldest first, and the counters (R155, R160). -/
structure PassLog where
  records : List PassRec
  lost : Nat
  lanes : Quad LaneCounts
  slip : SlipCounts
  deriving DecidableEq, Repr

/-- A reply or end frame: CODE echo, STATUS and data (R174). -/
structure Reply where
  code : Byte
  status : Byte
  data : List Byte
  deriving DecidableEq, Repr

/-- The record frame in flight: its copy, and whether the record was overwritten meanwhile (R158). -/
structure Flight where
  copy : PassRec
  overwritten : Bool
  deriving DecidableEq, Repr

/-- A stream in progress (chapter 10, introduction; R158). -/
structure Stream where
  asked : Nat
  delivered : Nat
  flight : Option Flight
  deriving DecidableEq, Repr

/-- The held prefixes and the moment the prefix-hold time started (R167). -/
structure HeldSet where
  lane : Option Lane
  slot : Option Slot
  chan : Option Chan
  since : Option Nat
  deriving DecidableEq, Repr

inductive LinkMode where
  | central
  | localMode
  deriving DecidableEq, Repr

/-- The link controller (chapter 11, R145). `waiting` is the reply list; `sending` the reply or end frame whose
transmission has begun; `lossFrom` is the moment of the last good frame while the link-loss timer runs. -/
structure Link where
  receiver : Receiver
  lastByte : Nat
  held : HeldSet
  discard : Bool
  notices : BitVec 8
  mask : BitVec 8
  waiting : List Reply
  sending : Option Reply
  stream : Option Stream
  mode : LinkMode
  begun : Bool
  lossFrom : Option Nat
  deriving DecidableEq, Repr

/-- Signals one block has handed to another and the other has not yet taken (log 6). -/
inductive Handoff where
  /-- the stack to the arbiter: the new governing entry (R130) -/
  | arbiterGov (g : Option Gov)
  /-- the stack to a lane sequencer: the new governing entry (R130) -/
  | laneGov (l : Lane) (g : Option Gov)
  /-- the merge monitor to a lane sequencer: an entry to BUSY (R31) -/
  | busyEntry (l : Lane)
  /-- the merge monitor to the arbiter: a change of state (R31) -/
  | mergeChange
  /-- the detector monitor to the arbiter: an ADVANCE actuation (R22) -/
  | advance
  /-- a lane sequencer to the arbiter: a request (R68) -/
  | request (l : Lane)
  /-- a lane sequencer to the arbiter: a withdrawal (R69) -/
  | withdrawal (l : Lane)
  /-- a lane sequencer to the arbiter: a release end with its grant number (R61) -/
  | releaseEnd (l : Lane) (g : BitVec 16)
  /-- a lane sequencer to the detector monitor: the claim of its DEMAND channel (R73) -/
  | claim (l : Lane) (c : Chan)
  /-- the lamp monitor to the site controller: a failure report (R86) -/
  | report
  deriving DecidableEq, Repr

/-- The whole state. `pending` is the queue of commands; `now`, `handoffs`, `rxLine` and `freeCount` are the
model's own (log 1, 9, 6, 18, 14). -/
structure State where
  pending : List Instr
  now : Nat
  siteTime : BitVec 24
  resetIn : Bool
  site : SiteCtl
  desc : SiteDesc
  det : Detectors
  lanes : Quad LaneRec
  lamps : LampMon
  arb : Arbiter
  plans : PlanStore
  ovr : Overrides
  sel : Selector
  log : PassLog
  link : Link
  handoffs : List Handoff
  rxLine : List Byte
  freeCount : Nat
  deriving DecidableEq, Repr

/-- The part has no fault stop: lamp failures and stuck channels are state and notices (R83 to R86, R23). No
meaning raises a fault, so the type has no constructor. -/
inductive Fault where
  deriving DecidableEq, Repr

/-- Why a command has no meaning. -/
inductive Refusal where
  /-- Raised by a dispatch arm that has no meaning yet; safe. No arm raises it: every row has its meaning. -/
  | notModelled (mnemonic : String)
  deriving DecidableEq, Repr

/-- The outcome of a command. -/
abbrev Out := Host.Outcome State Fault Refusal

/-- A channel record after a reset, its input at the vacant level (R36). -/
def Channel.reset : Channel where
  role := .none
  lane := none
  filter := 1
  onLimit := 0
  offLimit := 0
  occupied := false
  health := .good
  cause := none
  count := 0
  contOccupied := 0
  sinceActuation := 0
  occupiedPeriod := 0
  input := false
  changeFrom := none

def Monitor.reset : Monitor where
  state := .watching
  spell := none

def Detectors.reset : Detectors where
  chans := Bank.fill Channel.reset
  merge := { state := .clear, settleFrom := none }
  queue := Quad.all Monitor.reset
  spill := Monitor.reset
  occupancy := none
  periodFrom := 0

/-- A lane record after a reset (R74). -/
def LaneRec.reset : LaneRec where
  state := .off
  entryAt := 0
  onsetAt := none
  minRed := false
  grant := none
  size := none
  greenFor := none
  passages := 0
  cut := false
  noShows := 0
  inQueue := false
  gov := none

/-- A lamp channel record after a reset, its lamp sensed OFF (R90). -/
def LampRec.reset : LampRec where
  commanded := .off
  output := .dark
  sensed := false
  proving := .proven
  retries := 2
  window := none
  fault := .none
  noticeOnly := false
  phaseEnd := none
  phaseSeen := false
  lostFrom := none

def LampMon.reset : LampMon where
  heads := Quad.all { red := LampRec.reset, amber := LampRec.reset, green := LampRec.reset }
  sign := .off
  signFrom := 0

/-- The arbiter after a reset (R115). -/
def Arbiter.reset : Arbiter where
  own := .shut
  owner := none
  holdCause := .none
  holdLane := none
  queue := []
  prioWaiting := false
  armed := none
  elapsed := 0
  expired := false
  openRelease := none
  credit := Quad.all 0
  prioCount := 0
  reservation := .none
  reserveLeft := 0
  grantNo := 0
  gov := none

/-- The plan store after a reset (R128). -/
def PlanStore.reset : PlanStore where
  slots := Bank.fill none
  guarded := Quad.all false
  active := none
  staged := none

/-- The passage log and the counters after a reset (R162). -/
def PassLog.reset : PassLog where
  records := []
  lost := 0
  lanes := Quad.all { grants := 0, passages := 0, noShows := 0, violations := 0 }
  slip := { grants := 0, cuts := 0, yields := 0, expired := 0 }

/-- No prefix held (R173). -/
def HeldSet.empty : HeldSet where
  lane := none
  slot := none
  chan := none
  since := none

/-- The link controller after a reset (R173, R153). -/
def Link.reset : Link where
  receiver := .hunting
  lastByte := 0
  held := HeldSet.empty
  discard := false
  notices := 0
  mask := 0xFF
  waiting := []
  sending := none
  stream := none
  mode := .central
  begun := false
  lossFrom := none

/-- The part right after a power-on, or at the release of the reset input, with every input at rest: detector
inputs vacant, lamps sensed OFF, pre-emption released (R38; log 30). -/
def State.reset : State where
  pending := []
  now := 0
  siteTime := 0
  resetIn := false
  site := { state := .start, lampTestAt := none, warningAt := none, stopFlushAt := none }
  desc := { modes := Quad.all .unused, priority := none, timing := Timing.default }
  det := Detectors.reset
  lanes := Quad.all LaneRec.reset
  lamps := LampMon.reset
  arb := Arbiter.reset
  plans := PlanStore.reset
  ovr := { entries := [], preInput := false, preLevel := false, preFrom := none }
  sel := { map := Bank.fill none, lastBand := none, sel := .none }
  log := PassLog.reset
  link := Link.reset
  handoffs := []
  rxLine := []
  freeCount := 0

end Sys2Proof.Machine
end

