-- ==== Sys2Proof/Machine/Ops.lean ====
section
/-! DEFINITION. The named operations every block uses: reading and changing one block's part of the state, raising
a notice, handing a signal to another block, the passing of time, and the power-on of the whole part. -/

namespace Sys2Proof.Machine

/-! ### Reading the state -/

/-- The value of a site timing parameter. -/
def State.par (s : State) (p : Param) : Nat := s.desc.timing.get p

def State.lane (s : State) (l : Lane) : LaneRec := s.lanes.get l

def State.chan (s : State) (c : Chan) : Channel := Bank.at s.det.chans c

def State.mode (s : State) (l : Lane) : LaneMode := s.desc.modes.get l

def State.slot (s : State) (i : Slot) : Option Plan := Bank.at s.plans.slots i

/-- A lane in mode METERED or TIMED is a sequenced lane (R1). -/
def LaneMode.sequenced : LaneMode → Bool
  | .unused => false
  | .counted => false
  | .metered => true
  | .timed => true

def State.sequenced (s : State) (l : Lane) : Bool := (s.mode l).sequenced

/-- The active plan: the plan in the active slot (R122). -/
def State.activePlan (s : State) : Option Plan := s.plans.active.bind s.slot

/-- The weight the active plan gives a lane, 0 with no active plan (R116). -/
def State.weight (s : State) (l : Lane) : Nat :=
  match s.activePlan with
  | some p => p.weights.get l
  | none => 0

/-- A channel's reading: the filtered state while it is GOOD, else the substitute (R18, R29). -/
def Channel.reading (c : Channel) : Bool := if c.health = .good then c.occupied else c.role == .demand

/-- The channel in a role bound to a lane, if there is one (R21: at most one). -/
def State.chanFor (s : State) (r : Role) (l : Lane) : Option Chan :=
  allSixteen.find? (fun c => (s.chan c).role == r && (s.chan c).lane == some l)

/-- Does the lane have a GOOD STOP channel (R2, R61, R72)? -/
def State.goodStop (s : State) (l : Lane) : Bool :=
  match s.chanFor .stop l with
  | some c => (s.chan c).health == .good
  | none => false

/-- Does some channel with this role read OCCUPIED (R31, R34)? -/
def State.anyReads (s : State) (r : Role) : Bool :=
  allSixteen.any (fun c => (s.chan c).role == r && (s.chan c).reading)

/-- Is some channel with this role GOOD (R31)? -/
def State.anyGood (s : State) (r : Role) : Bool :=
  allSixteen.any (fun c => (s.chan c).role == r && (s.chan c).health == .good)

/-- An entry as the other blocks see it. -/
def Entry.gov (e : Entry) : Gov := { kind := e.kind, source := e.source, lanes := e.lanes, fixed := e.fixed }

/-- The governing entry: the top of the stack, or none (R130). -/
def State.topGov (s : State) : Option Gov := s.ovr.entries.head?.map Entry.gov

/-- Is the governing entry of this kind? -/
def govIs (g : Option Gov) (k : OvKind) : Bool :=
  match g with
  | some e => e.kind == k
  | none => false

/-- CLOSE and CLEAROUT put the arbiter in SHUT (R93, R112). -/
def govShuts (g : Option Gov) : Bool := govIs g .close || govIs g .clearout

/-- The site is in START or LAMPTEST (R165 check 5). -/
def State.startingUp (s : State) : Bool := s.site.state == .start || s.site.state == .lamptest

def State.metering (s : State) : Bool := s.site.state == .metering

/-! ### Changing one block -/

def State.modSite (s : State) (f : SiteCtl → SiteCtl) : State := { s with site := f s.site }

def State.modDesc (s : State) (f : SiteDesc → SiteDesc) : State := { s with desc := f s.desc }

def State.modDet (s : State) (f : Detectors → Detectors) : State := { s with det := f s.det }

def State.modChan (s : State) (c : Chan) (f : Channel → Channel) : State :=
  s.modDet (fun d => { d with chans := Bank.modify d.chans c f })

def State.modLane (s : State) (l : Lane) (f : LaneRec → LaneRec) : State :=
  { s with lanes := s.lanes.modify l f }

def State.modLamps (s : State) (f : LampMon → LampMon) : State := { s with lamps := f s.lamps }

def State.modArb (s : State) (f : Arbiter → Arbiter) : State := { s with arb := f s.arb }

def State.modPlans (s : State) (f : PlanStore → PlanStore) : State := { s with plans := f s.plans }

def State.modOvr (s : State) (f : Overrides → Overrides) : State := { s with ovr := f s.ovr }

def State.modSel (s : State) (f : Selector → Selector) : State := { s with sel := f s.sel }

def State.modLog (s : State) (f : PassLog → PassLog) : State := { s with log := f s.log }

def State.modLink (s : State) (f : Link → Link) : State := { s with link := f s.link }

/-- Do the same with each of a list of things, in order. -/
def forAll {α : Type} (xs : List α) (f : α → State → State) (s : State) : State :=
  xs.foldl (fun t x => f x t) s

/-! ### Notices (R169) -/

/-- The notice classes, in order of priority (R169). -/
inductive Notice where
  | failsafe
  | lamp
  | detector
  | override
  | priority
  | site
  | link
  | log
  deriving DecidableEq, Repr

/-- The bit of a class in the notice set and mask (R174). -/
def Notice.bit : Notice → BitVec 8
  | .failsafe => 0x80
  | .lamp => 0x40
  | .detector => 0x20
  | .override => 0x10
  | .priority => 0x08
  | .site => 0x04
  | .link => 0x02
  | .log => 0x01

/-- The class code of TAKE-NOTICE, 1 FAILSAFE to 8 LOG (R174). -/
def Notice.code : Notice → Byte
  | .failsafe => 1
  | .lamp => 2
  | .detector => 3
  | .override => 4
  | .priority => 5
  | .site => 6
  | .link => 7
  | .log => 8

/-- The classes in order of priority, highest first (R169). -/
def Notice.byPriority : List Notice := [.failsafe, .lamp, .detector, .override, .priority, .site, .link, .log]

/-- A block raises a notice by setting its class in the pending set (R169). -/
def raise (n : Notice) (s : State) : State := s.modLink (fun k => { k with notices := k.notices ||| n.bit })

/-- The pending set and the mask have a class in common (R166, R169). -/
def Link.attention (k : Link) : Bool := (k.notices &&& k.mask) != 0

/-- The ATTN output (R169): negated while the reset input is asserted. -/
def State.attn (s : State) : Bool := !s.resetIn && s.link.attention

/-! ### Signals between blocks (log 6) -/

/-- Hand a signal to another block: it waits until that block takes it. -/
def send (h : Handoff) (s : State) : State := { s with handoffs := s.handoffs ++ [h] }

/-- The oldest waiting signal of a sort. -/
def State.waiting (s : State) (p : Handoff → Bool) : Option Handoff := s.handoffs.find? p

/-- The block takes the oldest waiting signal of a sort. -/
def takeOff (p : Handoff → Bool) (s : State) : State := { s with handoffs := s.handoffs.eraseP p }

/-- Signals that lose their meaning are taken away. -/
def cancel (p : Handoff → Bool) (s : State) : State := { s with handoffs := s.handoffs.filter (fun h => !p h) }

def isReport : Handoff → Bool
  | .report => true
  | _ => false

def isArbiterGov : Handoff → Bool
  | .arbiterGov _ => true
  | _ => false

def isLaneGov (l : Lane) : Handoff → Bool
  | .laneGov m _ => m == l
  | _ => false

def isAnyGov : Handoff → Bool
  | .arbiterGov _ => true
  | .laneGov _ _ => true
  | _ => false

def isBusyEntry (l : Lane) : Handoff → Bool
  | .busyEntry m => m == l
  | _ => false

def isMergeChange : Handoff → Bool
  | .mergeChange => true
  | _ => false

def isAdvance : Handoff → Bool
  | .advance => true
  | _ => false

/-- A lane's requests and withdrawals are taken in the order they were sent (R69, R97). -/
def isAsking (l : Lane) : Handoff → Bool
  | .request m => m == l
  | .withdrawal m => m == l
  | _ => false

def isReleaseEnd (l : Lane) : Handoff → Bool
  | .releaseEnd m _ => m == l
  | _ => false

def isClaim (l : Lane) : Handoff → Bool
  | .claim m _ => m == l
  | _ => false

/-- Everything a lane has handed to the arbiter. -/
def isFromLane (l : Lane) (h : Handoff) : Bool := isAsking l h || isReleaseEnd l h

/-! ### Time (00_scope 4.2; log 2, 3, 9) -/

/-- What `k` tenths do to a channel's times: the continuous-occupied time grows while the filtered state is OCCUPIED
(R23), the time since actuation grows in METERING while the channel is GOOD (R24), and a MAINLINE channel that reads
OCCUPIED adds to its occupied time this period (R35). -/
def Channel.elapse (metering : Bool) (k : Nat) (c : Channel) : Channel :=
  { c with
    contOccupied := if c.occupied then satAdd 65535 c.contOccupied k else c.contOccupied
    sinceActuation :=
      if metering && c.health == .good then satAdd 65535 c.sinceActuation k else c.sinceActuation
    occupiedPeriod :=
      if c.role == .mainline && c.reading then satAdd 65535 c.occupiedPeriod k else c.occupiedPeriod }

/-- Interval elapsed grows from a grant (R99) and stays 0 with no armed interval (R94); the reservation time counts
down while PENDING (R110). -/
def Arbiter.elapse (k : Nat) (a : Arbiter) : Arbiter :=
  { a with
    elapsed := if a.armed.isSome then satAdd 65535 a.elapsed k else a.elapsed
    reserveLeft := if a.reservation = .pending then a.reserveLeft - k else a.reserveLeft }

/-- The limit of each entry that has one counts down (R137). -/
def Entry.elapse (k : Nat) (e : Entry) : Entry := { e with limit := e.limit.map (fun n => n - k) }

/-- A lamp in FLASH whose sense reads ON when an on-phase begins is proved by that on-phase (R79). -/
def LampRec.elapse (now : Nat) (r : LampRec) : LampRec :=
  match r.phaseEnd with
  | some e =>
    if r.commanded = .flash ∧ r.sensed = true ∧ r.proving = .proving ∧ e ≤ now + 5 then
      { r with proving := .proven, phaseSeen := true }
    else r
  | none => r

def Head.map (f : LampRec → LampRec) (h : Head) : Head := { red := f h.red, amber := f h.amber, green := f h.green }

/-- `k` tenths pass and no event is taken in them. -/
def advance (k : Nat) (s : State) : State :=
  { s with
    now := s.now + k
    siteTime := s.siteTime + BitVec.ofNat 24 k
    det := { s.det with chans := Bank.mapAll (Channel.elapse s.metering k) s.det.chans }
    lamps := { s.lamps with heads := s.lamps.heads.map (Head.map (LampRec.elapse (s.now + k))) }
    arb := s.arb.elapse k
    ovr := { s.ovr with entries := s.ovr.entries.map (Entry.elapse k) } }

/-- The tenths that must still pass, if any, before a moment comes. -/
def State.until (s : State) (t : Nat) : Nat := t - s.now

/-- A row whose moment comes in `w` tenths: the tenths pass and then the event is taken (log 3). With no such moment,
or while the reset input is asserted (R38), nothing happens (log 4). -/
def timed (w : Option Nat) (f : State → State) (s : State) : Out :=
  if s.resetIn then .next s
  else
    match w with
    | none => .next s
    | some 0 => .next (f s)
    | some (k + 1) => .next (f (advance (k + 1) s))

/-- A row that is taken at once where its condition holds, and else does nothing (log 4). -/
def taken (c : Bool) (f : State → State) (s : State) : Out :=
  if s.resetIn then .next s else if c then .next (f s) else .next s

/-- The wait of an event that happens at once where its condition holds. -/
def atOnce (c : Bool) : Option Nat := if c then some 0 else none

/-- A moment as a site time: SET-TIME moves the start times with site time (R172, log 9). -/
def State.timeOf (s : State) (t : Nat) : BitVec 24 := s.siteTime - BitVec.ofNat 24 (s.now - t)

/-- The state entry time of a lane as a site time (R52). -/
def State.entryTime (s : State) (l : Lane) : BitVec 24 := s.timeOf (s.lane l).entryAt

/-- The green onset of a lane as a site time (R52). -/
def State.onsetTime (s : State) (l : Lane) : Option (BitVec 24) := (s.lane l).onsetAt.map s.timeOf

/-! ### Power-on and reset (R38) -/

/-- A channel at a reset: an occupied input becomes a pending change (R36). -/
def Channel.atReset (c : Channel) : Channel :=
  { Channel.reset with
    input := c.input
    changeFrom := if c.input then some 0 else none }

/-- A lamp at a reset: a lamp sensed ON runs its stray measure from the reset (R90). -/
def LampRec.atReset (r : LampRec) : LampRec :=
  { LampRec.reset with
    sensed := r.sensed
    proving := if r.sensed then .proving else .proven
    window := if r.sensed then some 0 else none }

/-- Every block at its power-on values, the inputs as they read (R17, R36, R38, R74, R90, R115, R128, R144, R153,
R162, R172, R173). The queue of commands, the host's line and the level of the reset input are not the part's (log 13). -/
def powerUp (s : State) : State :=
  { State.reset with
    pending := s.pending
    resetIn := s.resetIn
    det := { Detectors.reset with chans := Bank.mapAll Channel.atReset s.det.chans }
    lamps := { LampMon.reset with heads := s.lamps.heads.map (Head.map LampRec.atReset) }
    ovr :=
      { entries := []
        preInput := s.ovr.preInput
        preLevel := false
        preFrom := if s.ovr.preInput then some 0 else none }
    rxLine := s.rxLine
    freeCount := s.freeCount }

end Sys2Proof.Machine
end

