-- ==== Sys2Proof/Machine/Log.lean ====
section
/-! DEFINITION. The passage log and the counters: a write into the ring, and the counting of events (R154 to R160). -/

namespace Sys2Proof.Machine

/-- The ring holds at most this many records (R155). -/
def logRoom : Nat := 256

/-- The record count at which the log asks to be read (R156). -/
def logMark : Nat := 192

/-- The record in flight has been overwritten (R158). -/
def Stream.overwrite (st : Stream) : Stream :=
  { st with flight := st.flight.map (fun f => { f with overwritten := true }) }

/-- A write with room appends (R155); the write that takes the count from 191 to 192 raises LOG (R156). -/
def appendRec (r : PassRec) (s : State) : State :=
  let t := s.modLog (fun g => { g with records := g.records ++ [r] })
  if s.log.records.length + 1 = logMark then raise .log t else t

/-- A write at a full ring removes the oldest record, counts it lost, and raises LOG when the lost count leaves 0
(R155, R156). A record in flight is the oldest, so it is the one overwritten (R158). -/
def overwriteRec (r : PassRec) (s : State) : State :=
  let t := s.modLog (fun g => { g with records := g.records.tail ++ [r], lost := satAdd 65535 g.lost 1 })
  let u := t.modLink (fun k => { k with stream := k.stream.map Stream.overwrite })
  if s.log.lost = 0 then raise .log u else u

/-- A lane sequencer writes a record (R155). -/
def writeRec (r : PassRec) (s : State) : State :=
  if s.log.records.length < logRoom then appendRec r s else overwriteRec r s

/-- The record of an event at a lane now: its time is the site time and its plan slot the active slot (R154). -/
def State.recordNow (s : State) (l : Lane) (k : RecKind) (g : Option (BitVec 16)) (short : Option Nat) : PassRec :=
  { time := s.siteTime, lane := l, kind := k, plan := s.plans.active, grant := g, shortfall := short }

def countLane (l : Lane) (f : LaneCounts → LaneCounts) (s : State) : State :=
  s.modLog (fun g => { g with lanes := g.lanes.modify l f })

def countSlip (f : SlipCounts → SlipCounts) (s : State) : State :=
  s.modLog (fun g => { g with slip := f g.slip })

/-- One grant to a lane: the lane's and the slip's grants counters (R104, R113). -/
def countGrant (l : Lane) (s : State) : State :=
  countSlip (fun c => { c with grants := c.grants + 1 })
    (countLane l (fun c => { c with grants := c.grants + 1 }) s)

def countPassage (l : Lane) (s : State) : State := countLane l (fun c => { c with passages := c.passages + 1 }) s

def countNoShow (l : Lane) (s : State) : State := countLane l (fun c => { c with noShows := c.noShows + 1 }) s

def countViolation (l : Lane) (s : State) : State := countLane l (fun c => { c with violations := c.violations + 1 }) s

def countCut (s : State) : State := countSlip (fun c => { c with cuts := c.cuts + 1 }) s

def countYield (s : State) : State := countSlip (fun c => { c with yields := c.yields + 1 }) s

def countExpired (s : State) : State := countSlip (fun c => { c with expired := c.expired + 1 }) s

end Sys2Proof.Machine
end

