-- ==== Sys2Proof/Machine/Lamp.lean ====
section
/-! DEFINITION. The lamp monitor: commands, proving and failures of the twelve lamps, and the sign (R75 to R90). -/

namespace Sys2Proof.Machine

def Head.get (h : Head) : Colour → LampRec
  | .red => h.red
  | .amber => h.amber
  | .green => h.green

def Head.set (h : Head) (col : Colour) (r : LampRec) : Head :=
  match col with
  | .red => { h with red := r }
  | .amber => { h with amber := r }
  | .green => { h with green := r }

def State.head (s : State) (l : Lane) : Head := s.lamps.heads.get l

def State.lamp (s : State) (l : Lane) (col : Colour) : LampRec := (s.head l).get col

def State.modHead (s : State) (l : Lane) (f : Head → Head) : State :=
  s.modLamps (fun m => { m with heads := m.heads.modify l f })

def State.modLamp (s : State) (l : Lane) (col : Colour) (f : LampRec → LampRec) : State :=
  s.modHead l (fun h => h.set col (f (h.get col)))

/-- The other lamp of the pair that must not show together (R77, R85): red and green of one head. -/
def oppositeOf : Colour → Option Colour
  | .red => some .green
  | .amber => none
  | .green => some .red

/-! ### Commands (R76, R77, R82) -/

/-- What a head is asked to show: one command for its three lamps (R53). -/
structure Aspect where
  red : LampCmd
  amber : LampCmd
  green : LampCmd
  deriving DecidableEq, Repr

/-- The lamps of each lane state (R53). -/
def aspectOf : LaneState → Aspect
  | .off => { red := .off, amber := .off, green := .off }
  | .warning => { red := .off, amber := .flash, green := .off }
  | .red => { red := .on, amber := .off, green := .off }
  | .green => { red := .off, amber := .off, green := .on }
  | .amber => { red := .off, amber := .on, green := .off }
  | .opened => { red := .off, amber := .off, green := .on }

/-- Proving of an ON command from a driven output: at once PROVEN if the sense reads ON, else a window (R78). -/
def LampRec.driveOn (now : Nat) (r : LampRec) : LampRec :=
  { r with
    output := .driven
    proving := if r.sensed then .proven else .proving
    window := if r.sensed then none else some now }

/-- Proving of a command now in force, from its start: ON (R78; HELD waits for the break of R77), FLASH (R79),
OFF (R80). -/
def LampRec.startProving (now : Nat) (hold : Bool) (r : LampRec) : LampRec :=
  match r.commanded with
  | .off =>
    { r with
      output := .dark
      proving := if r.sensed then .proving else .proven
      window := if r.sensed then some now else none }
  | .on => if hold then { r with output := .held, proving := .proving, window := none } else r.driveOn now
  | .flash =>
    { r with
      output := .driven
      proving := if r.sensed then .proven else .proving
      window := none
      phaseEnd := some (now + 5)
      phaseSeen := r.sensed }

/-- A command for one lamp. A lamp whose commanded value is unchanged is left as it stands (R76); else whatever was
in progress is superseded (R82), the retries are loaded and the proving of the new value starts. The fault stays. -/
def LampRec.command (now retries : Nat) (hold : Bool) (cmd : LampCmd) (r : LampRec) : LampRec :=
  if r.commanded = cmd then r
  else
    LampRec.startProving now hold
      { r with
        commanded := cmd
        retries := retries
        window := none
        phaseEnd := none
        phaseSeen := false
        lostFrom := none }

/-- The three lamps of a head command are taken together; a red or green turned ON while the other is sensed ON is
held for the break (R76, R77). -/
def Head.command (now retries : Nat) (a : Aspect) (h : Head) : Head :=
  { red := h.red.command now retries h.green.sensed a.red
    amber := h.amber.command now retries false a.amber
    green := h.green.command now retries h.red.sensed a.green }

/-- A lane sequencer's command to its head (R53). -/
def headCommand (l : Lane) (a : Aspect) (s : State) : State :=
  s.modHead l (Head.command s.now (s.par .lampRetries) a)

/-- The site controller's command of OFF for all twelve lamps (R76). -/
def allLampsOff (s : State) : State :=
  s.modLamps (fun m => { m with heads := m.heads.map (Head.command s.now (s.par .lampRetries) (aspectOf .off)) })

/-! ### The sign (R51, R75) -/

/-- The commanded state of the sign follows the site state and the governing entry (R51). -/
def signFor (st : SiteState) (g : Option Gov) : LampCmd :=
  match st with
  | .starting => .flash
  | .metering => if govIs g .clearout then .off else .on
  | .start => .off
  | .lamptest => .off
  | .dark => .off
  | .stopping => .off
  | .failsafe => .off

/-- The site controller commands the sign as the condition now is; a flash starts with an on-phase (R51). -/
def syncSign (s : State) : State :=
  let c := signFor s.site.state s.topGov
  if s.lamps.sign = c then s else s.modLamps (fun m => { m with sign := c, signFrom := s.now })

/-! ### Outputs -/

/-- A flash cadence is 5 tenths on and 5 off from its start (R75). -/
def flashOn (start now : Nat) : Bool := decide ((now - start) % 10 < 5)

/-- Is the lamp-switch output on? DRIVEN is on, for FLASH in the on-phases (R75). The cadence of a lamp in FLASH has
its on-phases end at `phaseEnd` and every 10 tenths before and after. -/
def LampRec.lit (now : Nat) (r : LampRec) : Bool :=
  r.output == .driven &&
    (match r.phaseEnd with
     | some e => decide ((now + 5 + 10 * e - e) % 10 < 5)
     | none => true)

/-- A lamp-switch output; every output is off while the reset input is asserted (R38). -/
def State.lampLit (s : State) (l : Lane) (col : Colour) : Bool := !s.resetIn && (s.lamp l col).lit s.now

/-- The sign's output (R75, R38). -/
def State.signLit (s : State) : Bool :=
  !s.resetIn &&
    (match s.lamps.sign with
     | .off => false
     | .on => true
     | .flash => flashOn s.lamps.signFrom s.now)

/-! ### Failures (R80, R83, R84, R85, R86) -/

/-- The lamp monitor hands a report to the site controller (R86). -/
def reportFailure (s : State) : State := send .report s

/-- A failed proving ends: UNPROVEN, no window (R78, R79, R80). -/
def LampRec.endProving (r : LampRec) : LampRec := { r with proving := .unproven, window := none, lostFrom := none }

def LampRec.failOff (noticeOnly : Bool) (r : LampRec) : LampRec :=
  { r with fault := .failedOff, noticeOnly := noticeOnly }

/-- A lamp lit against its command (R80, R85): notice-only belongs to an amber FAILED-OFF alone (R75). -/
def LampRec.failOn (r : LampRec) : LampRec :=
  { r.endProving with fault := .failedOn, noticeOnly := false }

/-- The last attempt of an ON or FLASH proving has failed (R83, R84). A lamp that already holds a fault is not changed
and not reported again. amber_fault_action is read now: RECORD 0 notes the fault, FAILSAFE 1 reports it. -/
def lastAttemptFailed (l : Lane) (col : Colour) (s : State) : State :=
  let t := s.modLamp l col LampRec.endProving
  if (s.lamp l col).fault = .none then
    match col with
    | .red => reportFailure (t.modLamp l .red (LampRec.failOff false))
    | .green => reportFailure (t.modLamp l .green (LampRec.failOff false))
    | .amber =>
      if s.par .amberFaultAction = 0 then raise .lamp (t.modLamp l .amber (LampRec.failOff true))
      else reportFailure (t.modLamp l .amber (LampRec.failOff false))
  else t

/-- An attempt has failed. With a retry left the lamp is re-driven: an ON lamp in a new window from now, a FLASH lamp
at its next on-phase (R78, R79); else the proving ends. -/
def attemptFailed (l : Lane) (col : Colour) (s : State) : State :=
  if 0 < (s.lamp l col).retries then
    s.modLamp l col (fun r =>
      { r with
        retries := r.retries - 1
        proving := .proving
        window := if r.commanded = .on then some s.now else none
        lostFrom := none })
  else lastAttemptFailed l col s

/-- A loss of proof loads the retries and counts as a failed attempt (R81). -/
def proofLost (l : Lane) (col : Colour) (s : State) : State :=
  attemptFailed l col (s.modLamp l col (fun r => { r with retries := s.par .lampRetries }))

/-- Strays and conflicts are judged from DARK onward, not in START and LAMPTEST (R38, R80, R85). -/
def State.judging (s : State) : Bool := !s.startingUp

/-- The stray measure of an OFF lamp has run out (R80): FAILED-ON and a report, unless it is FAILED-ON already. -/
def strayFound (l : Lane) (col : Colour) (s : State) : State :=
  if (s.lamp l col).fault = .failedOn then s.modLamp l col LampRec.endProving
  else reportFailure (s.modLamp l col LampRec.failOn)

/-! ### A change of sense (R77 to R81, R85) -/

/-- Now lies in the on-phase that is being judged (R79). -/
def LampRec.inPhase (now : Nat) (r : LampRec) : Bool :=
  match r.phaseEnd with
  | some e => decide (e ≤ now + 5) && decide (now ≤ e)
  | none => false

/-- What a change of a lamp's own sense does to its record. -/
def LampRec.sense (now : Nat) (on : Bool) (r : LampRec) : LampRec :=
  let q := { r with sensed := on }
  match r.commanded with
  | .off =>
    if on then { q with proving := .proving, window := some now }
    else if r.window.isSome then { q with proving := .proven, window := none }
    else q
  | .on =>
    if on then
      if r.window.isSome && r.proving == .proving then { q with proving := .proven, window := none }
      else { q with lostFrom := none }
    else if r.proving = .proven then { q with lostFrom := some now }
    else q
  | .flash =>
    if r.inPhase now then
      { q with phaseSeen := true, proving := if r.proving = .proving then .proven else r.proving }
    else q

/-- The break of R77 ends: the HELD lamp is driven and its proving starts. -/
def LampRec.release (now : Nat) (r : LampRec) : LampRec := if r.output = .held then r.driveOn now else r

/-- A lamp of a conflicting pair that is lit against its command (R85). -/
def LampRec.conflict (r : LampRec) : LampRec :=
  if r.commanded = .off ∧ r.fault ≠ .failedOn then r.failOn else r

/-- Red and green of one head sensed ON together (R85). -/
def conflictFound (l : Lane) (s : State) : State :=
  reportFailure ((s.modLamp l .red LampRec.conflict).modLamp l .green LampRec.conflict)

/-- A change of a lamp's sense, taken as it comes (R75). -/
def senseChange (l : Lane) (col : Colour) (on : Bool) (s : State) : State :=
  let t := s.modLamp l col (LampRec.sense s.now on)
  match oppositeOf col with
  | none => t
  | some other =>
    if on then
      if (s.lamp l other).sensed && s.judging then conflictFound l t else t
    else t.modLamp l other (LampRec.release s.now)

/-! ### Clearing (R88, R89) -/

/-- CLEAR-AMBER-FAULT at one amber lamp: a notice-only fault is cleared and the present command is proved from its
start as at a new command, a FLASH in a whole on-phase from now (R88, R76, R79, log 37). -/
def LampRec.clearNoticeOnly (now retries : Nat) (r : LampRec) : LampRec :=
  if r.fault = .failedOff ∧ r.noticeOnly = true then
    LampRec.startProving now false { r with fault := .none, noticeOnly := false, retries := retries, lostFrom := none }
  else r

/-- CLEAR-FAILSAFE at one lamp (R89). -/
def LampRec.clearAll (retries : Nat) (r : LampRec) : LampRec :=
  { r with fault := .none, noticeOnly := false, proving := .proven, window := none, retries := retries }

/-- Every lamp is sensed OFF (R40, R49). -/
def Head.senseOff (h : Head) : Bool := !h.red.sensed && !h.amber.sensed && !h.green.sensed

def State.allSensedOff (s : State) : Bool := s.lamps.heads.toList.all Head.senseOff

/-- At the end of the lamp test each lamp sensed ON becomes FAILED-ON (R40). -/
def LampRec.testFailed (r : LampRec) : LampRec := if r.sensed then { r with fault := .failedOn } else r

end Sys2Proof.Machine
end

