-- ==== Sys2Proof/Machine/Stack.lean ====
section
/-! DEFINITION. The override stack: order, pushes, removals, the change of the governing entry (R129 to R140). -/

namespace Sys2Proof.Machine

/-- The rank of a kind (R129). -/
def rankOf : OvKind → Nat
  | .clearout => 4
  | .close => 3
  | .flush => 2
  | .fixed => 1

/-- The stack holds at most this many entries (R131). -/
def stackRoom : Nat := 4

/-- Identity: kind together with source (R129). -/
def Entry.isId (k : OvKind) (src : OvSource) (e : Entry) : Bool := e.kind == k && e.source == src

def Entry.sameId (e f : Entry) : Bool := f.isId e.kind e.source

/-- A new entry goes below every entry of higher rank and above every entry of its own rank and lower (R130). -/
def placeEntry (e : Entry) : List Entry → List Entry
  | [] => [e]
  | f :: fs => if rankOf e.kind < rankOf f.kind then f :: placeEntry e fs else e :: f :: fs

/-- A change of the governing entry is handed to the arbiter and to every lane sequencer (R130). -/
def handGoverning (g : Option Gov) (s : State) : State :=
  forAll allLanes (fun l => send (.laneGov l g)) (send (.arbiterGov g) s)

/-- Replace the stack's content. If that changes the governing entry, OVERRIDE is raised, the entry is handed on and
the sign follows at once (R130, R51). -/
def setStack (es : List Entry) (s : State) : State :=
  let t := s.modOvr (fun o => { o with entries := es })
  if t.topGov = s.topGov then t else syncSign (handGoverning t.topGov (raise .override t))

/-- Does an entry of this identity stand? -/
def State.stands (s : State) (k : OvKind) (src : OvSource) : Bool := s.ovr.entries.any (Entry.isId k src)

/-- The duplicate takes the pushed values and keeps its place (R133). -/
def replaceEntry (e : Entry) (es : List Entry) : List Entry := es.map (fun f => if e.sameId f then e else f)

/-- The duplicate of an automatic push takes the pushed limit and keeps its place (R136). -/
def renewLimit (e : Entry) (es : List Entry) : List Entry :=
  es.map (fun f => if e.sameId f then { f with limit := e.limit } else f)

/-- Remove the entry of one identity, if it stands (R138 to R140). -/
def removeEntry (k : OvKind) (src : OvSource) (s : State) : State :=
  setStack (s.ovr.entries.filter (fun e => !e.isId k src)) s

/-- An automatic push (R136). At a full stack the bottom entry is evicted if its rank is lower, else the push is
dropped; both raise OVERRIDE. -/
def automaticPush (e : Entry) (s : State) : State :=
  if s.stands e.kind e.source then setStack (renewLimit e s.ovr.entries) s
  else if s.ovr.entries.length < stackRoom then setStack (placeEntry e s.ovr.entries) s
  else
    match s.ovr.entries.getLast? with
    | some bottom =>
      if rankOf bottom.kind < rankOf e.kind then
        setStack (placeEntry e s.ovr.entries.dropLast) (raise .override s)
      else raise .override s
    | none => s

/-- The entry of the pre-emption input (R135). -/
def preemptEntry : Entry := { kind := .clearout, source := .preempt, lanes := none, limit := none, fixed := none }

/-- The entry of a lane's queue monitor (R32, R136). -/
def queueEntry (l : Lane) (limit : Nat) : Entry :=
  { kind := .flush, source := .queue l, lanes := some l, limit := some limit, fixed := none }

/-- The entry of the spill monitor (R34, R136). -/
def spillEntry (limit : Nat) : Entry :=
  { kind := .flush, source := .spill, lanes := none, limit := some limit, fixed := none }

/-- The states in which the stack takes pre-emption events (R135). -/
def State.takesPreempt (s : State) : Bool :=
  s.site.state == .dark || s.site.state == .starting || s.metering || s.site.state == .stopping

/-- At an entry to DARK by another route, a held pre-emption input is pushed (R135). -/
def pushIfAsserted (s : State) : State := if s.ovr.preLevel then automaticPush preemptEntry s else s

/-- When the site leaves METERING every QUEUE and SPILL entry is removed (R143). -/
def Entry.automaticFlush (e : Entry) : Bool :=
  match e.source with
  | .link => false
  | .preempt => false
  | .queue _ => true
  | .spill => true

def dropAutomaticFlushes (s : State) : State := setStack (s.ovr.entries.filter (fun e => !e.automaticFlush)) s

end Sys2Proof.Machine
end

