-- ==== Sys2Proof/Machine/Arbiter.lean ====
section
/-! DEFINITION. The merge arbiter's shared operations: the interval, the hold, settling, SHUT, the queue, the choice
of a candidate (R91 to R113). -/

namespace Sys2Proof.Machine

/-! ### The interval (R99, R100) -/

/-- The governing interval, from the governing entry as the arbiter took it and the active plan (R99). CLOSE and
CLEAROUT give none: they put the arbiter in SHUT. -/
def State.governingInterval (s : State) : Option Nat :=
  match s.arb.gov with
  | none => s.activePlan.map Plan.interval
  | some g =>
    match g.kind with
    | .fixed => g.fixed
    | .flush => s.activePlan.map Plan.flushInterval
    | .close => none
    | .clearout => none

/-- The interval in force: the smaller of the armed and the governing interval; none while none is armed (R99). -/
def State.intervalInForce (s : State) : Option Nat :=
  match s.arb.armed with
  | none => none
  | some a =>
    match s.governingInterval with
    | some g => some (min a g)
    | none => some a

/-- The timer expires when interval elapsed is at least the interval in force (R99). -/
def State.intervalReached (s : State) : Bool :=
  match s.intervalInForce with
  | some n => decide (n ≤ s.arb.elapsed)
  | none => false

/-- Compare interval elapsed with the interval in force at a change (R100). -/
def checkInterval (s : State) : State :=
  if s.intervalReached then s.modArb (fun a => { a with expired := true }) else s

/-! ### Hold and settling (R92, R107, R108) -/

/-- The hold cause and the hold lane: RESERVE before FLUSH before NONE (R107). -/
def State.holdNow (s : State) : HoldCause × Option Lane :=
  if s.arb.reservation ≠ .none then (.reserve, s.desc.priority)
  else
    match s.arb.gov with
    | none => (.none, none)
    | some g =>
      if g.kind = .flush ∧ g.lanes.isSome = true ∧ s.metering = true then (.flush, g.lanes) else (.none, none)

def deriveHold (s : State) : State :=
  let h := s.holdNow
  s.modArb (fun a => { a with holdCause := h.1, holdLane := h.2 })

/-- The lane of the open release (R105). -/
def Arbiter.openLane (a : Arbiter) : Option Lane := a.openRelease.map Prod.fst

/-- Which of HELD, YIELD and FREE the hold and the merge settle to (R92). -/
def State.settledOwn (s : State) : Ownership :=
  if s.arb.holdCause ≠ .none ∧ s.arb.holdLane ≠ s.arb.openLane then .held
  else if s.det.merge.state ≠ .clear then .yielding
  else .free

/-- Settle the ownership state and the owner; an entry to YIELD counts one yield (R92). -/
def settle (s : State) : State :=
  let o := s.settledOwn
  let t := s.modArb (fun a =>
    { a with own := o, owner := if o = .held then a.holdLane else none })
  if o = .yielding ∧ s.arb.own ≠ .yielding then countYield t else t

/-- Settle where the state is one that settles: FREE, YIELD or HELD (R92, R108). -/
def settleIfLoose (s : State) : State :=
  match s.arb.own with
  | .free => settle s
  | .yielding => settle s
  | .held => settle s
  | .shut => s
  | .releasing => s

/-- Derive the hold again outside SHUT and let it take effect (R107, R108). -/
def rederive (s : State) : State := if s.arb.own = .shut then s else settleIfLoose (deriveHold s)

/-! ### SHUT (R93) -/

/-- The arbiter enters SHUT. The removal from the queue is handed to the lanes, whose in-queue flags are cleared. The
open release is kept where a lane's green is still to end (R93). -/
def enterShut (keepOpen : Bool) (s : State) : State :=
  let t := s.modArb (fun a =>
    { a with
      own := .shut
      owner := none
      queue := []
      prioWaiting := false
      holdCause := .none
      holdLane := none
      reservation := .none
      reserveLeft := 0
      armed := none
      elapsed := 0
      expired := false
      openRelease := if keepOpen then a.openRelease else none })
  { t with lanes := t.lanes.map (fun r => { r with inQueue := false }) }

/-! ### Credits (R101) -/

/-- Every non-priority lane's credit becomes a function of itself and the lane's weight; the priority lane holds
none (R101, log 31). -/
def creditAll (f : Nat → Nat → Nat) (s : State) : State :=
  s.modArb (fun a =>
    { a with
      credit := Quad.tab (fun l =>
        if s.desc.priority = some l then a.credit.get l else f (a.credit.get l) (s.weight l)) })

/-- The refill: every credit its weight (R94, R103). -/
def refillCredits (s : State) : State := creditAll (fun _ w => w) s

/-- The clamp: the smaller of the credit and the weight (R101, R104). -/
def clampCredits (s : State) : State := creditAll min s

/-! ### Leaving the queue -/

/-- The lane leaves the queue, or priority-waiting is cleared for the priority lane (R97, R98). -/
def unqueue (l : Lane) (s : State) : State :=
  (s.modArb (fun a =>
    { a with
      queue := a.queue.filter (fun m => m != l)
      prioWaiting := if s.desc.priority = some l then false else a.prioWaiting })).modLane l
    (fun r => { r with inQueue := false })

/-- Is the lane waiting: queued, or priority-waiting set for the priority lane (R103)? -/
def State.waits (s : State) (l : Lane) : Bool :=
  if s.desc.priority = some l then s.arb.prioWaiting else s.arb.queue.contains l

/-! ### The candidate (R103) -/

/-- The priority lane, if there is one and it is waiting. -/
def State.waitingPriority (s : State) : Option Lane :=
  match s.desc.priority with
  | some p => if s.arb.prioWaiting then some p else none
  | none => none

/-- The rotation of the priority lane is due (R102, R103 step 1). -/
def State.rotationDue (s : State) : Bool :=
  match s.activePlan with
  | some p => p.prioEvery == 0 || decide (p.prioEvery ≤ s.arb.prioCount)
  | none => false

/-- The candidate in FREE, and whether a round refill comes with it (R103 steps 1 to 4). -/
def State.freeCandidate (s : State) : Option (Lane × Bool) :=
  match (if s.rotationDue then s.waitingPriority else none) with
  | some p => some (p, false)
  | none =>
    match s.arb.queue.find? (fun l => decide (0 < s.arb.credit.get l)) with
    | some l => some (l, false)
    | none =>
      match s.arb.queue with
      | l :: _ => some (l, true)
      | [] => s.waitingPriority.map (fun p => (p, false))

/-- The candidate: the waiting owner in HELD, the choice of `freeCandidate` in FREE (R103). -/
def State.candidate (s : State) : Option (Lane × Bool) :=
  match s.arb.own with
  | .held =>
    match s.arb.owner with
    | some l => if s.waits l then some (l, false) else none
    | none => none
  | .free => s.freeCandidate
  | .shut => none
  | .yielding => none
  | .releasing => none

/-- The conditions of a grant beside the candidate: the merge CLEAR, the interval expired, no open release (R103). -/
def State.mayGrant (s : State) : Bool :=
  s.det.merge.state == .clear && s.arb.expired && s.arb.openRelease.isNone

/-- The lane a grant would go to now (R103). -/
def State.grantee (s : State) : Option (Lane × Bool) := if s.mayGrant then s.candidate else none

/-- Promotion, the plan store's and the arbiter's part of step 1 of R104: the staged slot becomes active, the credits
are clamped, and queued lanes other than the candidate whose new weight is 0 are withdrawn (R125, R126). -/
def promote (cand : Lane) (s : State) : State :=
  match s.plans.staged with
  | none => s
  | some i =>
    let t := clampCredits (s.modPlans (fun p => { p with active := some i, staged := none }))
    forAll (t.arb.queue.filter (fun l => l != cand && t.weight l == 0)) unqueue t

end Sys2Proof.Machine
end

