-- ==== Sys2Proof/Machine/Lane.lean ====
section
/-! DEFINITION. The lane sequencers' shared operations: aspects, release ends, the paths to and from OPEN, demand,
requests, passages, no-shows (R52 to R74). -/

namespace Sys2Proof.Machine

/-- Tenths since the lane entered its state. -/
def State.sinceEntry (s : State) (l : Lane) : Nat := s.now - (s.lane l).entryAt

/-- Has this much time passed since green onset? False with no green onset. -/
def State.greenFor (s : State) (l : Lane) (n : Nat) : Bool :=
  match (s.lane l).onsetAt with
  | some t => decide (t + n ≤ s.now)
  | none => false

/-- The lane as the governing entry it last took says (R66, log 7), in METERING only. -/
def State.laneGovIs (s : State) (l : Lane) (k : OvKind) : Bool := s.metering && govIs (s.lane l).gov k

/-! ### Demand and requests (R67, R68, R69) -/

/-- Demand (R67, R2). -/
def State.hasDemand (s : State) (l : Lane) : Bool :=
  s.sequenced l &&
    (s.mode l == .timed ||
      (match s.chanFor .demand l with
       | some c => (s.chan c).reading
       | none => true) ||
      s.laneGovIs l .fixed)

/-- The priority lane needs no weight (R68, R4). -/
def State.mayAsk (s : State) (l : Lane) : Bool := s.desc.priority == some l || decide (0 < s.weight l)

/-- The conditions for placing a request (R68). -/
def State.wantsRequest (s : State) (l : Lane) : Bool :=
  (s.lane l).state == .red && (s.lane l).minRed && !(s.lane l).inQueue && s.hasDemand l && s.metering &&
    s.arb.own != .shut && s.mayAsk l

/-- A queued lane withdraws when its demand has ended (R69). -/
def State.wantsWithdrawal (s : State) (l : Lane) : Bool :=
  (s.lane l).state == .red && (s.lane l).inQueue && !s.hasDemand l

/-- A request or withdrawal of the lane is on its way to the arbiter (R69). -/
def State.asking (s : State) (l : Lane) : Bool := s.handoffs.any (isAsking l)

/-- The lane works out its request again at a change of anything it rests on (R67, R68, R69). While one message is on
its way it waits for the arbiter to take it (log 11). -/
def settleRequest (l : Lane) (s : State) : State :=
  if s.asking l then s
  else if s.wantsRequest l then send (.request l) s
  else if s.wantsWithdrawal l then send (.withdrawal l) s
  else s

def settleRequests (s : State) : State := forAll allLanes settleRequest s

/-! ### Changes of state -/

/-- Enter a lane state: the entry time, the flag that belongs to RED alone, and the head command (R52, R53). -/
def enterState (l : Lane) (st : LaneState) (s : State) : State :=
  headCommand l (aspectOf st)
    (s.modLane l (fun r => { r with state := st, entryAt := s.now, minRed := false }))

/-- A grant closes: number, release size and green duration become absent; passages in grant is kept (R71). -/
def LaneRec.closeGrant (r : LaneRec) : LaneRec := { r with grant := none, size := none, greenFor := none }

/-- The shortfall of a cut release, absent without a GOOD STOP channel (R61). -/
def State.shortfall (s : State) (l : Lane) : Option Nat :=
  if s.goodStop l then (s.lane l).size.map (fun n => n - (s.lane l).passages) else none

/-- The release end: first the CUT record of a cut release, then the release end to the arbiter (R61). -/
def endRelease (l : Lane) (s : State) : State :=
  let t :=
    if (s.lane l).cut then
      countCut (writeRec (s.recordNow l .cut (s.lane l).grant (s.shortfall l)) s)
    else s
  match (s.lane l).grant with
  | some g => send (.releaseEnd l g) t
  | none => t

/-- GREEN to AMBER (R56): the grant stays recorded. -/
def greenToAmber (l : Lane) (s : State) : State :=
  endRelease l ((enterState l .amber s).modLane l (fun r => { r with onsetAt := none }))

/-- GREEN to OPEN (R60): the green lamp stays lit and no command is handed; green onset is kept; the release ends and
the grant is closed with no no-show decision. -/
def greenToOpen (l : Lane) (s : State) : State :=
  (endRelease l (s.modLane l (fun r => { r with state := .opened, entryAt := s.now }))).modLane l
    LaneRec.closeGrant

/-- RED to OPEN (R63): green onset is this moment; a grant still in its grace is closed. A request on its way is
taken back, so that the queue holds only lanes in RED (R96, log 10). -/
def redToOpen (l : Lane) (s : State) : State :=
  cancel (isAsking l)
    ((enterState l .opened s).modLane l (fun r => { r.closeGrant with onsetAt := some s.now }))

/-- OPEN to AMBER (R64). -/
def openToAmber (l : Lane) (s : State) : State :=
  (enterState l .amber s).modLane l (fun r => { r with onsetAt := none })

/-- A lane goes OFF: the OFF command, the entry time, and the values a lane holds in OFF; the consecutive no-show count
is kept (R54, R64, R65). -/
def offLane (l : Lane) (s : State) : State :=
  (enterState l .off s).modLane l (fun r =>
    { r.closeGrant with onsetAt := none, passages := 0, cut := false, inQueue := false })

/-- A lane goes OFF by R65. What it has handed to the arbiter is taken back: no place and no release end outlives it. -/
def goOff (l : Lane) (s : State) : State := cancel (isFromLane l) (offLane l s)

/-- The lanes that show something go OFF (R54, R64). A release end already handed stays with the arbiter (R93). -/
def shownOff (l : Lane) (s : State) : State := if (s.lane l).state = .off then s else offLane l s

/-- The end conditions of a green as they stand (R56, R57, R58, R59). -/
def State.greenEnds (s : State) (l : Lane) : Bool :=
  (match (s.lane l).greenFor with
   | some n => s.greenFor l n
   | none => false) ||
  (match (s.lane l).size with
   | some n => decide (n ≤ (s.lane l).passages)
   | none => false) ||
  (s.lane l).cut || s.laneGovIs l .close

/-- A green ends at the first moment from min_green at which an end condition holds (R56). -/
def tryEndGreen (l : Lane) (s : State) : State :=
  if (s.lane l).state = .green ∧ s.greenFor l (s.par .minGreen) = true ∧ s.greenEnds l = true then
    greenToAmber l s
  else s

/-- The conditions for leaving RED for OPEN (R63). -/
def State.redOpens (s : State) (l : Lane) : Bool :=
  (s.lane l).state == .red && (s.lane l).minRed && !(s.lane l).inQueue &&
    (s.site.state == .stopping || s.laneGovIs l .clearout)

/-- Every sequenced lane is OPEN (R47). -/
def State.allOpen (s : State) : Bool := allLanes.all (fun l => !s.sequenced l || (s.lane l).state == .opened)

/-- The stop-flush timer is armed at the moment every sequenced lane is OPEN, once (R47). -/
def armStopFlush (s : State) : State :=
  if s.site.state = .stopping ∧ s.site.stopFlushAt = none ∧ s.allOpen = true then
    s.modSite (fun c => { c with stopFlushAt := some (s.now + s.par .stopFlush) })
  else s

/-- A lane in RED takes its target: OPEN, or a request (R63, R68). -/
def settleRed (l : Lane) (s : State) : State :=
  if s.redOpens l then armStopFlush (redToOpen l s) else settleRequest l s

def settleReds (s : State) : State := forAll allLanes settleRed s

/-- A lane in OPEN whose CLEAROUT has gone returns to AMBER from min_green (R64). -/
def State.openCloses (s : State) (l : Lane) : Bool :=
  (s.lane l).state == .opened && s.metering && !govIs (s.lane l).gov .clearout && s.greenFor l (s.par .minGreen)

/-! ### The grant at the lane (R55) -/

/-- The green duration: the larger of min_green and green_unit times the release size (R8). -/
def State.greenTime (s : State) (n : Nat) : Nat := max (s.par .minGreen) (s.par .greenUnit * n)

/-- The lane takes a grant (R55). A lane that has already taken a governing CLEAROUT goes on to OPEN at once (R60,
log 29). -/
def takeGrant (l : Lane) (g : BitVec 16) (n : Nat) (s : State) : State :=
  let t := (enterState l .green s).modLane l (fun r =>
    { r with
      onsetAt := some s.now
      grant := some g
      size := some n
      greenFor := some (s.greenTime n)
      passages := 0
      cut := false
      inQueue := false })
  if t.laneGovIs l .clearout then greenToOpen l t else t

/-! ### Passages (R70, R71) -/

/-- No more than red_grace since red onset (R70, R71). -/
def State.inGrace (s : State) (l : Lane) : Bool := decide (s.sinceEntry l ≤ s.par .redGrace)

/-- The kind of the record of a passage at a lane that is not UNUSED (R70). -/
def State.passageKind (s : State) (l : Lane) : RecKind :=
  if !s.sequenced l then .unmetered
  else
    match (s.lane l).state with
    | .off => .unmetered
    | .warning => .unmetered
    | .opened => .unmetered
    | .green => .released
    | .amber => if (s.lane l).grant.isSome then .late else .unmetered
    | .red =>
      if s.inGrace l then (if (s.lane l).grant.isSome then .late else .unmetered) else .violation

/-- RELEASED and LATE passages count toward the grant and carry its number (R70). -/
def RecKind.ofGrant : RecKind → Bool
  | .released => true
  | .late => true
  | .violation => false
  | .noShow => false
  | .cut => false
  | .unmetered => false

/-- A passage is classified, written and counted; the consecutive no-show count becomes 0; a green whose release size
is reached may end (R70, R73, R56). -/
def passage (l : Lane) (s : State) : State :=
  if s.mode l = .unused then s
  else
    let k := s.passageKind l
    let g := if k.ofGrant then (s.lane l).grant else none
    let t := countPassage l (writeRec (s.recordNow l k g none) s)
    let u := if k = .violation then countViolation l t else t
    tryEndGreen l (u.modLane l (fun r =>
      { r with
        noShows := 0
        passages := if k.ofGrant then satAdd 255 r.passages 1 else r.passages }))

/-! ### No-shows (R72, R73) -/

/-- The lane's DEMAND channel, if this no-show counts toward the chain: mode METERED, channel GOOD and reading
OCCUPIED (R73, R2). -/
def State.chainChannel (s : State) (l : Lane) : Option Chan :=
  if s.mode l = .metered then
    (s.chanFor .demand l).filter (fun c => (s.chan c).health == .good && (s.chan c).reading)
  else none

/-- The consecutive no-show count, and the claim when it reaches no_show_limit (R73). -/
def chainNoShow (l : Lane) (s : State) : State :=
  match s.chainChannel l with
  | none => s.modLane l (fun r => { r with noShows := 0 })
  | some c =>
    if s.par .noShowLimit ≤ (s.lane l).noShows + 1 then
      send (.claim l c) (s.modLane l (fun r => { r with noShows := 0 }))
    else s.modLane l (fun r => { r with noShows := r.noShows + 1 })

/-- The no-show decision at red onset (R72). -/
def noShowDecision (l : Lane) (s : State) : State :=
  if (s.lane l).grant.isSome = true ∧ s.goodStop l = true ∧ (s.lane l).passages = 0 then
    chainNoShow l (countNoShow l (writeRec (s.recordNow l .noShow (s.lane l).grant none) s))
  else s

/-- A lane goes to RED: red onset, then the no-show decision of a grant still recorded (R62, R54). -/
def goRed (l : Lane) (s : State) : State :=
  noShowDecision l ((enterState l .red s).modLane l (fun r => { r with onsetAt := none }))

/-! ### Leaving SHUT (R94) -/

/-- The arbiter leaves SHUT: credits refilled, the counter 0, the interval timer expired with nothing armed, the hold
derived and the state settled; the lanes are told and place their requests (R94). -/
def leaveShut (s : State) : State :=
  let t := (refillCredits s).modArb (fun a =>
    { a with prioCount := 0, armed := none, elapsed := 0, expired := true })
  settleRequests (settle (deriveHold t))

end Sys2Proof.Machine
end

