-- ==== Sys2Proof/Machine/ArbiterEvents.lean ====
section
/-! DEFINITION. The merge arbiter's events (R95 to R111). -/

namespace Sys2Proof.Machine

/-- The arbiter takes the release end of the open release (R106). -/
def releaseEnded (s : State) : State :=
  let t := s.modArb (fun a =>
    { a with
      openRelease := none
      reservation := if a.reservation = .granted then .none else a.reservation })
  if s.arb.own = .shut then t else settle (deriveHold t)

/-- The oldest release end of a lane; it carries the number of the open release (R106). -/
def takeReleaseEnd (l : Lane) (s : State) : State :=
  match s.waiting (isReleaseEnd l) with
  | some (.releaseEnd m g) =>
    let t := takeOff (isReleaseEnd l) s
    if s.arb.openRelease = some (m, g) then releaseEnded t else t
  | _ => s

/-- RELEASE_END (R106). -/
def execReleaseEnd (l : Lane) (s : State) : Out := taken (s.waiting (isReleaseEnd l)).isSome (takeReleaseEnd l) s

/-- The lane is given its place: at the tail of the queue, or priority-waiting for the priority lane; its in-queue flag
is set (R96, R98). -/
def enqueue (l : Lane) (s : State) : State :=
  (s.modArb (fun a =>
    if s.desc.priority = some l then { a with prioWaiting := true } else { a with queue := a.queue ++ [l] })).modLane l
    (fun r => { r with inQueue := true })

/-- The arbiter takes a request: discarded in SHUT or from a lane already waiting, and with no second look at the
lane's conditions, its weight included (R68, R96, R98, log 39). -/
def takeRequest (l : Lane) (s : State) : State :=
  if s.arb.own = .shut ∨ s.waits l = true then s else enqueue l s

/-- Is the lane's oldest message a request? -/
def State.requestFirst (s : State) (l : Lane) : Bool :=
  match s.waiting (isAsking l) with
  | some (.request _) => true
  | _ => false

/-- REQUEST (R96). The lane then works out again what it asks (log 11). -/
def execRequest (l : Lane) (s : State) : Out :=
  taken (s.requestFirst l) (fun t => settleRed l (takeRequest l (takeOff (isAsking l) t))) s

/-- The arbiter takes a withdrawal: a lane that is not waiting is not touched (R97, R98). -/
def takeWithdrawal (l : Lane) (s : State) : State := if s.waits l then unqueue l s else s

/-- Is the lane's oldest message a withdrawal? -/
def State.withdrawalFirst (s : State) (l : Lane) : Bool :=
  match s.waiting (isAsking l) with
  | some (.withdrawal _) => true
  | _ => false

/-- WITHDRAWAL (R97). The lane then works out again what it asks (log 11). -/
def execWithdrawal (l : Lane) (s : State) : Out :=
  taken (s.withdrawalFirst l) (fun t => settleRed l (takeWithdrawal l (takeOff (isAsking l) t))) s

/-- MERGE_MONITOR_CHANGE (R95). -/
def execMergeMonitorChange (s : State) : Out :=
  taken (s.waiting isMergeChange).isSome (fun t => settleIfLoose (takeOff isMergeChange t)) s

/-- Interval elapsed reaches the interval in force (R99). -/
def State.intervalIn (s : State) : Option Nat :=
  if s.arb.own = .shut ∨ s.arb.expired = true then none
  else s.intervalInForce.map (fun n => n - s.arb.elapsed)

/-- INTERVAL_EXPIRY (R99). -/
def execIntervalExpiry (s : State) : Out :=
  timed s.intervalIn (fun t => t.modArb (fun a => { a with expired := true })) s

/-- Steps 2, 3, 5 and 7 of R104, and the open release of step 6, at the arbiter. `interval` is the governing interval
after the promotion. -/
def Arbiter.granted (l : Lane) (prio : Bool) (interval : Option Nat) (a : Arbiter) : Arbiter :=
  { a with
    grantNo := a.grantNo + 1
    armed := interval
    elapsed := 0
    expired := false
    credit := if prio then a.credit else a.credit.modify l (fun n => n - 1)
    prioCount := if prio then 0 else satAdd 15 a.prioCount 1
    openRelease := some (l, a.grantNo + 1)
    own := .releasing
    owner := some l
    reservation := if prio && a.reservation == .pending then .granted else a.reservation }

/-- Is the lane the priority lane? -/
def State.isPriority (s : State) (l : Lane) : Bool := s.desc.priority == some l

/-- A grant to a candidate under the active plan after the promotion (R104 steps 2 to 7). The lanes hear of the
promotion: one that lost its place to it may go to OPEN, the others may place requests (R63, R68). -/
def grantUnder (p : Plan) (l : Lane) (s : State) : State :=
  let t := unqueue l (s.modArb (Arbiter.granted l (s.isPriority l) s.governingInterval))
  settleReds (takeGrant l t.arb.grantNo p.size (countGrant l t))

/-- The plan the grant is made under: the staged plan it promotes, else the active one (R104 step 1). -/
def State.planAfterPromotion (s : State) : Option Plan :=
  match s.plans.staged with
  | some i => s.slot i
  | none => s.activePlan

/-- The round refill, if the choice asks it, the promotion, then the grant (R103, R104). -/
def makeGrant (c : Lane × Bool) (s : State) : State :=
  match s.planAfterPromotion with
  | none => s
  | some p => grantUnder p c.1 (promote c.1 (if c.2 then refillCredits s else s))

/-- GRANT (R103, R104). -/
def grantNow (s : State) : State :=
  match s.grantee with
  | some c => makeGrant c s
  | none => s

/-- A grant can start now (R103). In METERING there is always an active plan (R42, R121). -/
def State.canGrant (s : State) : Bool := s.grantee.isSome && s.planAfterPromotion.isSome

def execGrant (s : State) : Out := taken s.canGrant grantNow s

/-- The conditions of a reservation (R110). -/
def State.mayReserve (s : State) : Bool :=
  s.metering && s.arb.own != .shut && s.arb.reservation == .none &&
    (match s.desc.priority with
     | some p => s.arb.openLane != some p
     | none => false)

/-- The arbiter takes an ADVANCE actuation (R110). -/
def takeAdvance (s : State) : State :=
  if s.mayReserve then
    rederive (s.modArb (fun a => { a with reservation := .pending, reserveLeft := s.par .reserveLimit }))
  else s

/-- ADVANCE_ACTUATION (R110). -/
def execAdvanceActuation (s : State) : Out :=
  taken (s.waiting isAdvance).isSome (fun t => takeAdvance (takeOff isAdvance t)) s

/-- The time left of a PENDING reservation (R110). -/
def State.reserveIn (s : State) : Option Nat :=
  if s.arb.reservation = .pending then some s.arb.reserveLeft else none

/-- The reservation expires (R111). -/
def reservationOver (s : State) : State :=
  rederive (raise .priority (countExpired (s.modArb (fun a => { a with reservation := .none, reserveLeft := 0 }))))

/-- RESERVATION_EXPIRY (R111). -/
def execReservationExpiry (s : State) : Out := timed s.reserveIn reservationOver s

end Sys2Proof.Machine
end

