-- ==== Sys2Proof/Machine/Detect.lean ====
section
/-! DEFINITION. The detector monitor's shared operations: the merge monitor, the queue and spill monitors, taken
changes, stuck channels, the configuration of a channel, the occupancy measure (R18 to R36). -/

namespace Sys2Proof.Machine

/-! ### The merge monitor (R31) -/

/-- The merge monitor takes a state and hands a change on: to the arbiter, and an entry to BUSY to the lane sequencers
(R31). -/
def setMerge (m : MergeMon) (s : State) : State :=
  let t := s.modDet (fun d => { d with merge := m })
  if m.state = s.det.merge.state then t
  else if m.state = .busy then forAll allLanes (fun l => send (.busyEntry l)) (send .mergeChange t)
  else send .mergeChange t

/-- What the merge monitor moves to as the MERGE channels now read (R31). -/
def State.mergeNow (s : State) : MergeMon :=
  if s.anyGood .merge = false then { state := .clear, settleFrom := none }
  else if s.anyReads .merge then { state := .busy, settleFrom := none }
  else
    match s.det.merge.state with
    | .busy =>
      if s.par .mergeSettle = 0 then { state := .clear, settleFrom := none }
      else { state := .settling, settleFrom := some s.now }
    | .settling => s.det.merge
    | .clear => s.det.merge

def refreshMerge (s : State) : State := setMerge s.mergeNow s

/-- The settle time reaches merge_settle in SETTLING (R31). -/
def State.settleIn (s : State) : Option Nat :=
  match s.det.merge.state with
  | .settling => s.det.merge.settleFrom.map (fun t => s.until (t + s.par .mergeSettle))
  | .clear => none
  | .busy => none

def mergeSettled (s : State) : State := setMerge { state := .clear, settleFrom := none } s

/-! ### The queue and spill monitors (R32, R34) -/

/-- A monitor that runs measures the unbroken spell of its reading; one that does not run is WATCHING with its spells
discarded (R32). -/
def Monitor.watch (now : Nat) (running level : Bool) (m : Monitor) : Monitor :=
  if running then
    match m.spell with
    | some sp => if sp.occupied = level then m else { m with spell := some { occupied := level, since := now } }
    | none => { m with spell := some { occupied := level, since := now } }
  else Monitor.reset

/-- A lane's queue monitor runs in METERING, for a sequenced lane with a QUEUE channel (R32). -/
def State.queueRuns (s : State) (l : Lane) : Bool :=
  s.metering && s.sequenced l && (s.chanFor .queue l).isSome

def State.queueReading (s : State) (l : Lane) : Bool :=
  match s.chanFor .queue l with
  | some c => (s.chan c).reading
  | none => false

/-- The spill monitor runs in METERING while some channel has role SPILL (R34). -/
def State.spillRuns (s : State) : Bool := s.metering && allSixteen.any (fun c => (s.chan c).role == .spill)

def refreshMonitors (s : State) : State :=
  s.modDet (fun d =>
    { d with
      queue := Quad.tab (fun l => (d.queue.get l).watch s.now (s.queueRuns l) (s.queueReading l))
      spill := d.spill.watch s.now s.spillRuns (s.anyReads .spill) })

/-- Every consumer of the channels' readings takes them as they now are (R29, R30, R31, R32, R34). -/
def refresh (s : State) : State := settleRequests (refreshMonitors (refreshMerge s))

/-- The tenths until a spell of this level has lasted `n`. -/
def Monitor.spellIn (m : Monitor) (level : Bool) (n now : Nat) : Option Nat :=
  match m.spell with
  | some sp => if sp.occupied = level then some (sp.since + n - now) else none
  | none => none

/-- An occupied spell reaches the on time in WATCHING (R32). -/
def Monitor.onIn (m : Monitor) (n now : Nat) : Option Nat :=
  match m.state with
  | .watching => m.spellIn true n now
  | .triggered => none
  | .spent => none

/-- A vacant spell reaches the off time in TRIGGERED or SPENT (R32). -/
def Monitor.offIn (m : Monitor) (n now : Nat) : Option Nat :=
  match m.state with
  | .watching => none
  | .triggered => m.spellIn false n now
  | .spent => m.spellIn false n now

def State.modQueueMon (s : State) (l : Lane) (f : Monitor → Monitor) : State :=
  s.modDet (fun d => { d with queue := d.queue.modify l f })

def State.modSpillMon (s : State) (f : Monitor → Monitor) : State := s.modDet (fun d => { d with spill := f d.spill })

/-- A TRIGGERED monitor told that its entry was removed by its limit becomes SPENT, and from SPENT WATCHING at once if
its vacant spell has already reached the off time (R32). -/
def Monitor.spend (off now : Nat) (m : Monitor) : Monitor :=
  if m.state = .triggered then
    { m with state := if m.spellIn false off now = some 0 then .watching else .spent }
  else m

/-! ### Taken changes (R22, R26) -/

/-- The record at an actuation: counted, its times restarted; a STUCK-OFF channel recovers (R22, R26). -/
def Channel.actuated (r : Channel) : Channel :=
  { r with
    occupied := true
    changeFrom := none
    count := r.count + 1
    sinceActuation := 0
    contOccupied := 0
    health := if r.health = .stuckOff then .good else r.health
    cause := if r.health = .stuckOff then none else r.cause }

/-- An actuation is taken: recovery raises DETECTOR, and an ADVANCE channel GOOD after it hands it to the arbiter
(R22, R26). -/
def takeActuation (c : Chan) (s : State) : State :=
  let t := s.modChan c Channel.actuated
  let u := if (s.chan c).health = .stuckOff then raise .detector t else t
  refresh (if (s.chan c).role = .advance ∧ (s.chan c).health ≠ .stuckOn then send .advance u else u)

/-- The record at a clearing; a STUCK-ON channel recovers (R22, R23, R26). -/
def Channel.cleared (r : Channel) : Channel :=
  { r with
    occupied := false
    changeFrom := none
    contOccupied := 0
    sinceActuation := if r.health = .stuckOn then 0 else r.sinceActuation
    health := if r.health = .stuckOn then .good else r.health
    cause := if r.health = .stuckOn then none else r.cause }

/-- The lane a clearing of this channel is a passage of: a GOOD STOP channel's (R22). -/
def Channel.passageLane (r : Channel) : Option Lane :=
  if r.role = .stop ∧ r.health = .good then r.lane else none

/-- A clearing is taken: recovery raises DETECTOR and hands on no passage (R22, R26). -/
def takeClearing (c : Chan) (s : State) : State :=
  let t := s.modChan c Channel.cleared
  let u := if (s.chan c).health = .stuckOn then raise .detector t else t
  match (s.chan c).passageLane with
  | some l => refresh (passage l u)
  | none => refresh u

/-- The input has held the new level for the filter time (R22). -/
def Channel.changeIn (r : Channel) (now : Nat) : Option Nat := r.changeFrom.map (fun t => t + r.filter - now)

def State.actuationIn (s : State) (c : Chan) : Option Nat :=
  if (s.chan c).occupied then none else (s.chan c).changeIn s.now

def State.clearingIn (s : State) (c : Chan) : Option Nat :=
  if (s.chan c).occupied then (s.chan c).changeIn s.now else none

/-- Take a pending change that has reached its filter time (R22). -/
def takeIfHeld (c : Chan) (s : State) : State :=
  if s.actuationIn c = some 0 then takeActuation c s
  else if s.clearingIn c = some 0 then takeClearing c s
  else s

/-- The input takes a level: opposite to the filtered state a pending change starts, else it is discarded; with
filter 0 it is taken at once (R22). -/
def inputChange (c : Chan) (level : Bool) (s : State) : State :=
  if (s.chan c).input = level then s
  else
    takeIfHeld c (s.modChan c (fun r =>
      { r with input := level, changeFrom := if level = r.occupied then none else some s.now }))

/-! ### Supervision (R23 to R25, R27) -/

/-- A channel of any role other than NONE is supervised (R19). -/
def Channel.supervised (r : Channel) : Bool := r.role != .none && r.health == .good

/-- The continuous-occupied time exceeds the stuck-on limit (R23). -/
def State.stuckOnIn (s : State) (c : Chan) : Option Nat :=
  let r := s.chan c
  if r.supervised && r.onLimit != 0 && r.occupied then some (r.onLimit + 1 - r.contOccupied) else none

/-- The time since actuation exceeds the stuck-off limit, in METERING (R24). -/
def State.stuckOffIn (s : State) (c : Chan) : Option Nat :=
  let r := s.chan c
  if s.metering && r.supervised && r.offLimit != 0 then some (r.offLimit + 1 - r.sinceActuation) else none

/-- A channel becomes faulted, with a DETECTOR notice; its reading changes for every consumer (R23, R24, R25, R29). -/
def becomeStuck (c : Chan) (h : Health) (w : Cause) (s : State) : State :=
  refresh (raise .detector (s.modChan c (fun r => { r with health := h, cause := some w })))

/-- The detector monitor takes a lane's claim (R25). -/
def takeClaim (l : Lane) (c : Chan) (s : State) : State :=
  let r := s.chan c
  if r.health = .good ∧ r.occupied = true ∧ r.role = .demand ∧ r.lane = some l then becomeStuck c .stuckOn .noShow s
  else s

/-- RESET-CHANNEL on a faulted channel: GOOD, no cause, both times 0 (R27). -/
def Channel.forcedGood (r : Channel) : Channel :=
  { r with health := .good, cause := none, contOccupied := 0, sinceActuation := 0 }

def forceGood (c : Chan) (s : State) : State :=
  if (s.chan c).health = .good then s else refresh (raise .detector (s.modChan c Channel.forcedGood))

/-! ### Configuration (R20, R21) -/

/-- The configuration SET-CHANNEL writes. -/
structure ChanConfig where
  role : Role
  lane : Option Lane
  filter : Nat
  onLimit : Nat
  offLimit : Nat
  deriving DecidableEq, Repr

def Channel.config (r : Channel) : ChanConfig :=
  { role := r.role, lane := r.lane, filter := r.filter, onLimit := r.onLimit, offLimit := r.offLimit }

def Channel.withConfig (r : Channel) (k : ChanConfig) : Channel :=
  { r with role := k.role, lane := k.lane, filter := k.filter, onLimit := k.onLimit, offLimit := k.offLimit }

/-- Does the role need a lane (R19)? -/
def Role.needsLane : Role → Bool
  | .none => false
  | .stop => true
  | .demand => true
  | .queue => true
  | .spill => false
  | .merge => false
  | .mainline => false
  | .advance => true

/-- How many channels of a bank have a role. -/
def roleCount (b : Bank Channel) (r : Role) : Nat := (Bank.list b).countP (fun c => c.role == r)

/-- How many channels of a bank have a role bound to a lane. -/
def boundCount (b : Bank Channel) (r : Role) (l : Lane) : Nat :=
  (Bank.list b).countP (fun c => c.role == r && c.lane == some l)

/-- The channel set keeps every limit of R21. -/
def chanSetOk (prio : Option Lane) (b : Bank Channel) : Bool :=
  allLanes.all (fun l =>
    decide (boundCount b .stop l ≤ 1) && decide (boundCount b .demand l ≤ 1) && decide (boundCount b .queue l ≤ 1) &&
      decide (boundCount b .advance l ≤ 1)) &&
    (Bank.list b).all (fun c => c.role != .advance || (prio.isSome && c.lane == prio)) &&
    decide (roleCount b .merge ≤ 2) && decide (roleCount b .spill ≤ 2) && decide (roleCount b .mainline ≤ 4)

/-- The channel set that would result from a configuration (R21). -/
def State.chansWith (s : State) (c : Chan) (k : ChanConfig) : Bank Channel :=
  Bank.modify s.det.chans c (fun r => r.withConfig k)

/-- The record when the role or the lane changes: GOOD, counts and times 0, the filtered state kept (R20). -/
def Channel.rebound (k : ChanConfig) (r : Channel) : Channel :=
  { r.withConfig k with
    health := .good
    cause := none
    contOccupied := 0
    sinceActuation := 0
    occupiedPeriod := 0
    count := 0 }

/-- A stuck-on limit the continuous-occupied time already exceeds acts at once (R20, R23). -/
def stickIfOver (c : Chan) (s : State) : State :=
  if s.stuckOnIn c = some 0 then becomeStuck c .stuckOn .continuous s else s

/-- An accepted SET-CHANNEL (R20, R22). Of a pending change and a stuck-on limit that both act at the command, the
change comes first (log 38). -/
def configure (c : Chan) (k : ChanConfig) (s : State) : State :=
  let r := s.chan c
  if r.config = k then s
  else if r.role = k.role ∧ r.lane = k.lane then
    stickIfOver c (takeIfHeld c (refresh (s.modChan c (fun x => x.withConfig k))))
  else
    let t := s.modChan c (Channel.rebound k)
    takeIfHeld c (refresh (if r.health = .good then t else raise .detector t))

/-! ### Mainline occupancy (R35) -/

/-- The channels the measure takes at a close: MAINLINE and GOOD at that moment. -/
def State.measured (s : State) : List Channel :=
  (Bank.list s.det.chans).filter (fun c => c.role == .mainline && c.health == .good)

/-- The occupancy of the period that closes now, as a percent rounded down; UNKNOWN is absent (R35, log 33). -/
def State.occupancyNow (s : State) : Option Nat :=
  if s.measured.isEmpty then none
  else
    some ((s.measured.map Channel.occupiedPeriod).sum * 100 / ((s.now - s.det.periodFrom) * s.measured.length))

/-- The period in progress reaches occupancy_period (R35). -/
def State.periodIn (s : State) : Option Nat := some (s.until (s.det.periodFrom + s.par .occupancyPeriod))

/-- The measure's own part of a close: the result stands, every occupied time is 0, the next period starts (R35). -/
def closePeriod (s : State) : State :=
  s.modDet (fun d =>
    { d with
      occupancy := s.occupancyNow
      periodFrom := s.now
      chans := Bank.mapAll (fun c => { c with occupiedPeriod := 0 }) d.chans })

end Sys2Proof.Machine
end

