-- ==== Sys2Proof/Machine/Site.lean ====
section
/-! DEFINITION. The site controller's shared operations: the changes of the site state (R37 to R51). -/

namespace Sys2Proof.Machine

/-- The site takes a state with all three timers discarded. -/
def SiteCtl.at (st : SiteState) : SiteCtl := { state := st, lampTestAt := none, warningAt := none, stopFlushAt := none }

def enterSite (st : SiteState) (s : State) : State := s.modSite (fun _ => SiteCtl.at st)

/-- The blocks' part of leaving METERING: the monitors go to WATCHING and the stack drops their entries (R32, R143). -/
def leaveMetering (s : State) : State := dropAutomaticFlushes (refreshMonitors s)

/-- Every lane goes OFF by R65, every lamp is commanded OFF, the arbiter enters SHUT with no open release, the monitors
are WATCHING and the stack is emptied: what FAILSAFE entry and SITE-RESET share (R48, R50). -/
def darken (s : State) : State :=
  setStack [] (refreshMonitors (enterShut false (allLampsOff (forAll allLanes goOff s))))

/-- FAILSAFE entry (R48). -/
def enterFailsafe (s : State) : State := raise .failsafe (syncSign (darken (enterSite .failsafe s)))

/-- SITE-RESET where it is accepted (R50): a held pre-emption input is pushed again; SITE is raised unless the site was
DARK (R41). -/
def siteToDark (s : State) : State :=
  let t := syncSign (pushIfAsserted (darken (enterSite .dark s)))
  if s.site.state = .dark then t else raise .site t

/-- Entry to DARK that leaves the other blocks as they are, with its SITE notice (R40, R41, R49). -/
def enterDark (s : State) : State := raise .site (syncSign (enterSite .dark s))

/-- START-METERING's checks, in their order (R42). -/
inductive StartCheck where
  | passes
  | wrongState
  | noPlan
  | noLane
  deriving DecidableEq, Repr

def State.startCheck (s : State) : StartCheck :=
  if s.site.state ≠ .dark then .wrongState
  else if s.plans.active = none then .noPlan
  else if allLanes.any s.sequenced = false then .noLane
  else .passes

/-- A sequenced lane goes to WARNING (R54). -/
def warnLane (l : Lane) (s : State) : State := if s.sequenced l then enterState l .warning s else s

/-- Entry to STARTING (R43). -/
def enterStarting (s : State) : State :=
  syncSign (forAll allLanes warnLane
    (s.modSite (fun _ => { SiteCtl.at .starting with warningAt := some (s.now + s.par .warnTime) })))

/-- A sequenced lane's first red (R44, R54). -/
def firstRed (l : Lane) (s : State) : State := if s.sequenced l then goRed l s else s

/-- At the entry to METERING the arbiter and the lanes take the entry that governs then (R66, R94, log 7). -/
def takeGoverning (s : State) : State :=
  cancel isAnyGov
    { s with
      arb := { s.arb with gov := s.topGov }
      lanes := s.lanes.map (fun r => { r with gov := s.topGov }) }

/-- The stuck-off time of every channel is set to 0 (R24, R44). -/
def restartStuckOff (s : State) : State :=
  s.modDet (fun d => { d with chans := Bank.mapAll (fun c => { c with sinceActuation := 0 }) d.chans })

/-- The arbiter leaves SHUT unless CLOSE or CLEAROUT governs (R44, R94). -/
def leaveShutIfOpen (s : State) : State := if govShuts s.arb.gov then s else leaveShut s

/-- Entry to METERING (R44). -/
def enterMetering (s : State) : State :=
  raise .site (syncSign (leaveShutIfOpen (refreshMonitors (restartStuckOff
    (takeGoverning (forAll allLanes firstRed (enterSite .metering s)))))))

/-- A lane as the site enters STOPPING: a green goes to OPEN at once, a red when its min_red has elapsed (R46). -/
def makeForOpen (l : Lane) (s : State) : State :=
  match (s.lane l).state with
  | .green => greenToOpen l s
  | .red => settleRed l s
  | .off => s
  | .warning => s
  | .amber => s
  | .opened => s

/-- Entry to STOPPING (R46, R47). -/
def enterStopping (s : State) : State :=
  armStopFlush (syncSign (forAll allLanes makeForOpen (enterShut true (leaveMetering (enterSite .stopping s)))))

/-- The lanes that show something go OFF and the site enters DARK: STOP-METERING in STARTING, and the stop-flush expiry
(R45, R47, R54, R64). -/
def finishToDark (s : State) : State := enterDark (forAll allLanes shownOff s)

/-- STOP-METERING (R45). -/
def stopMetering (s : State) : State :=
  match s.site.state with
  | .starting => finishToDark s
  | .metering => enterStopping s
  | .start => s
  | .lamptest => s
  | .dark => s
  | .stopping => s
  | .failsafe => s

/-- The end of the lamp test: DARK with every lamp sensed OFF, else each lamp sensed ON is FAILED-ON and the site enters
FAILSAFE (R40); a held pre-emption input is pushed at DARK (R135). -/
def endLampTest (s : State) : State :=
  if s.allSensedOff then pushIfAsserted (enterDark s)
  else enterFailsafe (s.modLamps (fun m => { m with heads := m.heads.map (Head.map LampRec.testFailed) }))

/-- CLEAR-FAILSAFE where it is accepted (R49, R89). -/
def clearFailsafe (s : State) : State :=
  pushIfAsserted (enterDark (s.modLamps (fun m =>
    { m with heads := m.heads.map (Head.map (LampRec.clearAll (s.par .lampRetries))) })))

/-- The site controller takes a lamp failure report (R86). -/
def takeReport (s : State) : State :=
  match s.site.state with
  | .dark => enterFailsafe s
  | .starting => enterFailsafe s
  | .metering => enterFailsafe s
  | .stopping => enterFailsafe s
  | .failsafe => raise .failsafe s
  | .start => s
  | .lamptest => s

end Sys2Proof.Machine
end

