-- ==== Sys2Proof/Machine/Plans.lean ====
section
/-! DEFINITION. The plan store's and the local selector's shared operations (R116 to R124, R147, R148). -/

namespace Sys2Proof.Machine

/-- A valid plan record (R116). -/
def Plan.valid (p : Plan) : Bool :=
  decide (8 ≤ p.interval ∧ p.interval ≤ 600 ∧ 8 ≤ p.flushInterval ∧ p.flushInterval ≤ 600 ∧
    p.flushInterval ≤ p.interval ∧ 1 ≤ p.size ∧ p.size ≤ 3 ∧ p.prioEvery ≤ 15) &&
    p.weights.toList.all (fun w => decide (w ≤ 7)) && p.weights.toList.any (fun w => decide (0 < w))

/-- A slot in a protected group (R120). -/
def State.guardedSlot (s : State) (i : Slot) : Bool := s.plans.guarded.get (groupOf i)

/-- The active slot and the staged slot are in use (R121). -/
def State.inUse (s : State) (i : Slot) : Bool := s.plans.active == some i || s.plans.staged == some i

def setSlot (i : Slot) (p : Option Plan) (s : State) : State :=
  s.modPlans (fun q => { q with slots := Bank.put q.slots i p })

def setGuard (g : Fin 4) (on : Bool) (s : State) : State :=
  s.modPlans (fun q => { q with guarded := q.guarded.set g on })

/-- A selection that names a slot holding a plan: staged in METERING, active at once elsewhere (R122, R123). -/
def selectSlot (i : Slot) (s : State) : State :=
  if s.metering then
    s.modPlans (fun q => { q with staged := if q.active = some i then none else some i })
  else clampCredits (s.modPlans (fun q => { q with active := some i, staged := none }))

/-- A selection with no PLAN prefix clears the staged slot (R122, R123). -/
def clearStaged (s : State) : State := s.modPlans (fun q => { q with staged := none })

/-! ### The local selector -/

/-- The band of an occupancy: divided by 6, rounded down, at most 15 (R147). -/
def bandOf (pct : Nat) : Band := ⟨min 15 (pct / 6), by omega⟩

/-- Metering started from the band map by the same checks as START-METERING, with no reply (R42, R148). -/
def startIfAllowed (s : State) : State := if s.startCheck = .passes then enterStarting s else s

/-- A map entry that names a slot holding a plan (R148): selected, and in DARK metering is then started. -/
def localPlan (i : Slot) (s : State) : State :=
  match s.site.state with
  | .dark => startIfAllowed (selectSlot i s)
  | .starting => selectSlot i s
  | .metering => selectSlot i s
  | .stopping => selectSlot i s
  | .failsafe => selectSlot i s
  | .start => s
  | .lamptest => s

/-- The action of a map entry (R148, R124). -/
def localAct (e : Option Slot) (s : State) : State :=
  match e with
  | some i =>
    match s.slot i with
    | some _ => localPlan i s
    | none => s
  | none => stopMetering s

/-- The local selector takes a close (R147). local_action is KEEP 0 or MAP 1. -/
def selectorClose (s : State) : State :=
  match s.det.occupancy with
  | none => s
  | some pct =>
    let t := s.modSel (fun q => { q with lastBand := some (bandOf pct) })
    if s.link.mode = .localMode ∧ s.par .localAction = 1 then localAct (Bank.at s.sel.map (bandOf pct)) t else t

/-- A period closes: the measure, then the selector (R35, R147). -/
def periodCloses (s : State) : State := selectorClose (closePeriod s)

/-! ### The map selection (R149 to R151) -/

def setSelection (m : MapSel) (s : State) : State := s.modSel (fun q => { q with sel := m })

/-- The bands a selection selects (R150). -/
def MapSel.selects (m : MapSel) (b : Band) : Bool :=
  match m with
  | .none => false
  | .fromHeld f => b == f
  | .rangeHeld f t skips => decide (f ≤ b) && decide (b ≤ t) && !Bank.at skips b

/-- Build a bank from its numbers. -/
def Bank.tab {α : Type} (f : Fin 16 → α) : Bank α :=
  ⟨⟨f 0, f 1, f 2, f 3⟩, ⟨f 4, f 5, f 6, f 7⟩, ⟨f 8, f 9, f 10, f 11⟩, ⟨f 12, f 13, f 14, f 15⟩⟩

/-- MAP-ASSIGN's write: the entry into every selected band, and the selection ends (R150). -/
def assignMap (e : Option Slot) (s : State) : State :=
  s.modSel (fun q =>
    { q with
      map := Bank.tab (fun b => if q.sel.selects b then e else Bank.at q.map b)
      sel := .none })

end Sys2Proof.Machine
end

