-- ==== Sys2Proof/Machine/Operands.lean ====
section
/-! DEFINITION. The operand forms of the host's frames: argument bytes as values, and the value codes of replies
(11_host_link, 11.7). -/

namespace Sys2Proof.Machine

/-! ### Argument bytes as values -/

/-- A byte that names one of `n` things: a lane, slot, channel, group or band; any other value is out of range. -/
def numArg (n : Nat) (b : Byte) : Option (Fin n) := if h : b.toNat < n then some ⟨b.toNat, h⟩ else none

/-- A byte that names one of `n` things, or 0xFF for none (R5, R150). -/
def optArg (n : Nat) (b : Byte) : Option (Option (Fin n)) :=
  if b = 0xFF then some none else (numArg n b).map some

/-- The mode codes of SET-LANE (R3). -/
def modeArg (b : Byte) : Option LaneMode :=
  match b.toNat with
  | 0 => some .unused
  | 1 => some .counted
  | 2 => some .metered
  | 3 => some .timed
  | _ => none

/-- The role codes of SET-CHANNEL (R20). -/
def roleArg (b : Byte) : Option Role :=
  match b.toNat with
  | 0 => some .none
  | 1 => some .stop
  | 2 => some .demand
  | 3 => some .queue
  | 4 => some .spill
  | 5 => some .merge
  | 6 => some .mainline
  | 7 => some .advance
  | _ => none

/-- The kind codes of PUSH-OVERRIDE and REMOVE-OVERRIDE (R132). -/
def kindArg (b : Byte) : Option OvKind :=
  match b.toNat with
  | 1 => some .fixed
  | 2 => some .flush
  | 3 => some .close
  | 4 => some .clearout
  | _ => none

/-- A stuck-on limit: 0, or 10 to 65000 (R20). -/
def onLimitOk (n : Nat) : Bool := decide (n = 0 ∨ (10 ≤ n ∧ n ≤ 65000))

/-- A stuck-off limit: 0, or 600 to 65000 (R20). -/
def offLimitOk (n : Nat) : Bool := decide (n = 0 ∨ (600 ≤ n ∧ n ≤ 65000))

/-- The channel arguments: role, filter, stuck-on limit, stuck-off limit (R20, R174). `lane` is the lane a role that
needs one is bound to. -/
def chanArgs (lane : Lane) (args : List Byte) : Option ChanConfig :=
  match args with
  | [role, filter, onHi, onLo, offHi, offLo] =>
    match roleArg role with
    | some r =>
      if filter.toNat ≤ 5 ∧ onLimitOk (be16 onHi onLo) = true ∧ offLimitOk (be16 offHi offLo) = true then
        some
          { role := r
            lane := if r.needsLane then some lane else none
            filter := filter.toNat
            onLimit := be16 onHi onLo
            offLimit := be16 offHi offLo }
      else none
    | none => none
  | _ => none

/-- The arguments of SET-TIMING: a parameter and a value in its range (R7). -/
def timingArgs (args : List Byte) : Option (Param × Nat) :=
  match args with
  | [number, hi, lo] =>
    match Param.ofNumber number.toNat with
    | some p => if p.inRange (be16 hi lo) then some (p, be16 hi lo) else none
    | none => none
  | _ => none

/-- The plan record arguments, in their layout (R174). -/
def planArgs (args : List Byte) : Option Plan :=
  match args with
  | [iHi, iLo, fHi, fLo, size, w0, w1, w2, w3, every] =>
    some
      { interval := be16 iHi iLo
        flushInterval := be16 fHi fLo
        size := size.toNat
        weights := ⟨w0.toNat, w1.toNat, w2.toNat, w3.toNat⟩
        prioEvery := every.toNat }
  | _ => none

/-- A limit of PUSH-OVERRIDE: 0 for absent, or 10 to 60000 (R132). -/
def limitOk (n : Nat) : Bool := decide (n = 0 ∨ (10 ≤ n ∧ n ≤ 60000))

/-- The arguments of PUSH-OVERRIDE as the entry they ask for (R132): FIXED alone reads the fixed interval, FLUSH alone
reads the held lane. -/
def pushArgs (lane : Option Lane) (args : List Byte) : Option Entry :=
  match args with
  | [kind, lHi, lLo, fHi, fLo] =>
    match kindArg kind with
    | some k =>
      if limitOk (be16 lHi lLo) = true ∧ (k = .fixed → 8 ≤ be16 fHi fLo ∧ be16 fHi fLo ≤ 600) then
        some
          { kind := k
            source := .link
            lanes := if k = .flush then lane else none
            limit := if be16 lHi lLo = 0 then none else some (be16 lHi lLo)
            fixed := if k = .fixed then some (be16 fHi fLo) else none }
      else none
    | none => none
  | _ => none

/-- The three-byte site time of SET-TIME (R172). -/
def timeArg (b2 b1 b0 : Byte) : BitVec 24 := BitVec.ofNat 24 (b2.toNat * 65536 + b1.toNat * 256 + b0.toNat)

/-! ### Value codes (R174) -/

def SiteState.code : SiteState → Byte
  | .start => 0
  | .lamptest => 1
  | .dark => 2
  | .starting => 3
  | .metering => 4
  | .stopping => 5
  | .failsafe => 6

def LinkMode.code : LinkMode → Byte
  | .central => 0
  | .localMode => 1

def Ownership.code : Ownership → Byte
  | .shut => 0
  | .free => 1
  | .yielding => 2
  | .releasing => 3
  | .held => 4

def HoldCause.code : HoldCause → Byte
  | .none => 0
  | .flush => 1
  | .reserve => 2

def Reservation.code : Reservation → Byte
  | .none => 0
  | .pending => 1
  | .granted => 2

def MergeState.code : MergeState → Byte
  | .clear => 0
  | .settling => 1
  | .busy => 2

def Health.code : Health → Byte
  | .good => 0
  | .stuckOn => 1
  | .stuckOff => 2

def causeCode : Option Cause → Byte
  | some .noActuation => 0
  | some .continuous => 1
  | some .noShow => 2
  | none => 0xFF

def Role.code : Role → Byte
  | .none => 0
  | .stop => 1
  | .demand => 2
  | .queue => 3
  | .spill => 4
  | .merge => 5
  | .mainline => 6
  | .advance => 7

def LaneMode.code : LaneMode → Byte
  | .unused => 0
  | .counted => 1
  | .metered => 2
  | .timed => 3

def LampCmd.code : LampCmd → Byte
  | .off => 0
  | .on => 1
  | .flash => 2

def LampOut.code : LampOut → Byte
  | .dark => 0
  | .driven => 1
  | .held => 2

def Proving.code : Proving → Byte
  | .proven => 0
  | .proving => 1
  | .unproven => 2

def LampFault.code : LampFault → Byte
  | .none => 0
  | .failedOn => 1
  | .failedOff => 2

def kindCode : OvKind → Byte
  | .fixed => 1
  | .flush => 2
  | .close => 3
  | .clearout => 4

def sourceCode : OvSource → Byte
  | .link => 0
  | .preempt => 1
  | .queue _ => 2
  | .spill => 3

/-- The lane of a QUEUE source, absent for any other (R141). -/
def sourceLane : OvSource → Option Lane
  | .queue l => some l
  | .link => none
  | .preempt => none
  | .spill => none

def MapSel.code : MapSel → Byte
  | .none => 0
  | .fromHeld _ => 1
  | .rangeHeld _ _ _ => 2

def RecKind.code : RecKind → Byte
  | .released => 1
  | .late => 2
  | .violation => 3
  | .noShow => 4
  | .cut => 5
  | .unmetered => 6

/-- The refusal reasons (R174). -/
inductive Reason where
  | wrongState
  | guarded
  | inUse
  | full
  | noPlan
  | emptySlot
  | conflict
  | badPrefix
  | notFound
  deriving DecidableEq, Repr

def Reason.code : Reason → Byte
  | .wrongState => 1
  | .guarded => 2
  | .inUse => 3
  | .full => 4
  | .noPlan => 5
  | .emptySlot => 6
  | .conflict => 7
  | .badPrefix => 8
  | .notFound => 9

/-- A set over the numbers 0 to 15 as two bytes: bit `b` for number `b` (R174). -/
def setBytes (f : Fin 16 → Bool) : List Byte :=
  bytes16 ((allSixteen.map (fun b => if f b then 2 ^ b.val else 0)).sum)

/-- An optional two-byte value, with the number that stands for absent. -/
def optBytes16 (absent : Nat) (o : Option Nat) : List Byte := bytes16 (o.getD absent)

/-- A counter as two bytes. -/
def word16 (c : BitVec 16) : List Byte := bytes16 c.toNat

end Sys2Proof.Machine
end

