-- ==== Sys2Proof/Machine/Flags.lean ====
section
/-! DEFINITION. The flags of a reply: the status byte (R166, R174). -/

namespace Sys2Proof.Machine

/-- What a reply says of its own frame: each reply carries at most one of the five (R165). -/
inductive Verdict where
  | accepted
  | unknown
  | check
  | order
  | range
  | refused
  deriving DecidableEq, Repr

/-- UNKNOWN is bit 5, CHECK bit 4, ORDER bit 3, RANGE bit 2, REFUSED bit 1 (R174). -/
def Verdict.bits : Verdict → Byte
  | .accepted => 0x00
  | .unknown => 0x20
  | .check => 0x10
  | .order => 0x08
  | .range => 0x04
  | .refused => 0x02

/-- STARTING, bit 7: the site is in START or LAMPTEST (R166). -/
def State.startingFlag (s : State) : Byte := if s.startingUp then 0x80 else 0x00

/-- DISCARD, bit 6: something was discarded since the previous reply was formed (R166). -/
def State.discardFlag (s : State) : Byte := if s.link.discard then 0x40 else 0x00

/-- ATTN, bit 0: the pending set and the mask have a class in common (R166, R169). -/
def State.attnFlag (s : State) : Byte := if s.link.attention then 0x01 else 0x00

/-- The status byte as the part stands when the reply is formed (R166). -/
def State.status (s : State) (v : Verdict) : Byte := s.startingFlag ||| s.discardFlag ||| v.bits ||| s.attnFlag

end Sys2Proof.Machine
end

