-- ==== Sys2Proof/Machine/Link.lean ====
section
/-! DEFINITION. The link controller's shared operations: the reply list, the transmit line, the stream, and the taking
of a command frame with its checks (R158, R159, R163 to R168). -/

namespace Sys2Proof.Machine

/-! ### Replies and the transmit line -/

/-- Form a reply now and append it to the reply list; a reply that reports DISCARD clears it (R165, R166). -/
def formReply (code : Byte) (v : Verdict) (data : List Byte) (s : State) : State :=
  let r : Reply := { code := code, status := s.status v, data := data }
  s.modLink (fun k => { k with discard := false, waiting := k.waiting ++ [r] })

/-- The stream ends: its end frame is the reply to STREAM-LOG, with the delivered count (R158, R159). -/
def endFrame (st : Stream) (s : State) : State :=
  formReply Cmd.streamLog.code .accepted (bytes16 st.delivered) (s.modLink (fun k => { k with stream := none }))

/-- The stream has nothing more to send: n is reached, n not 0, or the log is empty (R158 step 1). -/
def State.streamDone (s : State) (st : Stream) : Bool :=
  (st.asked != 0 && decide (st.asked ≤ st.delivered)) || s.log.records.isEmpty

/-- The oldest record is copied into a new record frame, which is now in flight (R158 step 1). -/
def startRecord (s : State) : State :=
  s.modLink (fun k =>
    { k with
      stream := k.stream.map (fun st =>
        { st with flight := s.log.records.head?.map (fun r => { copy := r, overwritten := false }) }) })

/-- The free line takes the next waiting reply (R165). -/
def sendNext (s : State) : State :=
  match s.link.waiting with
  | r :: rest => s.modLink (fun k => { k with sending := some r, waiting := rest })
  | [] => s

/-- Frame start of a stream on a free line (R158 step 1). -/
def streamStart (st : Stream) (s : State) : State :=
  if s.streamDone st then sendNext (endFrame st s) else startRecord s

/-- Is a frame being sent on the transmit line? -/
def Link.lineBusy (k : Link) : Bool :=
  k.sending.isSome ||
    (match k.stream with
     | some st => st.flight.isSome
     | none => false)

/-- What a free transmit line does: it sends the next waiting reply, and with none waiting a stream in progress starts
its next frame (R158, R165, log 28). -/
def pump (s : State) : State :=
  if s.link.lineBusy then s
  else
    match s.link.waiting with
    | _ :: _ => sendNext s
    | [] =>
      match s.link.stream with
      | some st => streamStart st s
      | none => s

/-- A reply is formed and the line takes it when it is free. -/
def reply (code : Byte) (v : Verdict) (data : List Byte) (s : State) : State := pump (formReply code v data s)

/-- An answered frame ends a stream in progress, that of CLEAR-FAILSAFE too (log 40): a record frame being sent is cut,
its record stays, and the end frame follows (R159). -/
def endStream (s : State) : State :=
  match s.link.stream with
  | some st => pump (endFrame st s)
  | none => s

/-- A record frame has been sent whole: delivered, and the record removed if it is still the oldest (R158 step 2). -/
def recordSent (s : State) : State :=
  match s.link.stream with
  | none => s
  | some st =>
    match st.flight with
    | none => s
    | some f =>
      let t := s.modLink (fun k =>
        { k with stream := some { st with delivered := satAdd 65535 st.delivered 1, flight := none } })
      pump (if f.overwritten then t else t.modLog (fun g => { g with records := g.records.tail }))

/-- A reply or end frame has been sent whole: the next waiting one begins (R165). -/
def replySent (s : State) : State := pump (s.modLink (fun k => { k with sending := none }))

/-! ### Prefixes and discards (R166 to R168) -/

/-- Some prefix is held. -/
def HeldSet.any (h : HeldSet) : Bool := h.lane.isSome || h.slot.isSome || h.chan.isSome

/-- The command accepts every prefix that is held (R165 check 4). -/
def HeldSet.fits (h : HeldSet) (c : Cmd) : Bool :=
  (h.lane.isNone || c.acceptsLane) && (h.slot.isNone || c.acceptsPlan) && (h.chan.isNone || c.acceptsChannel)

/-- The held prefixes are discarded, with DISCARD if any was held (R166, R168). -/
def discardHeld (s : State) : State :=
  s.modLink (fun k => { k with held := HeldSet.empty, discard := k.discard || k.held.any })

/-- A map selection is discarded, with DISCARD if there was one (R151, R166). -/
def discardSelection (s : State) : State :=
  (s.modLink (fun k => { k with discard := k.discard || s.sel.sel != .none })).modSel (fun q => { q with sel := .none })

/-- What a broken-off frame, an overrun and a bad check all discard; the receiver hunts again (R163, R165). -/
def discardAll (s : State) : State :=
  (discardSelection (discardHeld s)).modLink (fun k => { k with receiver := .hunting })

/-! ### Taking a frame (R165) -/

/-- The reply list is full: eight replies wait (R163). -/
def State.listFull (s : State) : Bool := decide (8 ≤ s.link.waiting.length)

/-- A good frame returns the link mode to CENTRAL, with the LINK notice for the change (R146). -/
def toCentral (s : State) : State :=
  match s.link.mode with
  | .central => s
  | .localMode => raise .link (s.modLink (fun k => { k with mode := .central }))

/-- A good frame sets the link-loss elapsed time to 0, from the first BEGIN on (R145). -/
def restartLoss (s : State) : State :=
  s.modLink (fun k => { k with lossFrom := if k.begun then some s.now else none })

/-- What every good frame does before check 2 (R145, R146, R159, R165); that of CLEAR-FAILSAFE does it too (log 40). -/
def goodFrame (s : State) : State :=
  endStream (restartLoss (toCentral (s.modLink (fun k => { k with receiver := .hunting }))))

/-- The held prefixes are consumed, whatever the outcome (R168). -/
def consumeHeld (s : State) : State := s.modLink (fun k => { k with held := HeldSet.empty })

/-- What the taking of a good frame of a code does to prefixes and selection before its checks (R151, R165, R168). The
frame of CLEAR-FAILSAFE ends a selection and a stream like any other (log 40). -/
def openFrame (c : Cmd) (s : State) : State :=
  let t := goodFrame s
  let u := if c.isPrefix then t else consumeHeld t
  if c.keepsSelection then u else discardSelection u

/-- A command's answer to its frame. -/
inductive Answer where
  /-- accepted, with its reply data -/
  | done (data : List Byte)
  /-- status RANGE -/
  | range
  /-- status ORDER -/
  | order
  /-- status REFUSED, with its reason -/
  | refused (r : Reason)
  /-- STREAM-LOG accepted: its reply is the end frame that follows -/
  | streaming
  deriving DecidableEq, Repr

/-- The reply to a frame (R165; log 16: RANGE and ORDER carry no data). -/
def answer (code : Byte) (a : Answer) (s : State) : State :=
  match a with
  | .done data => reply code .accepted data s
  | .range => reply code .range [] s
  | .order => reply code .order [] s
  | .refused r => reply code .refused [r.code] s
  | .streaming => s

/-- What a command's own block does with a frame that passed the checks: from its arguments, the prefixes that were
held and the state, its answer and the state after (R165 check 6). -/
abbrev Act := List Byte → HeldSet → State → Answer × State

/-- A map command or READ-MAP answered by a check ends the selection, with no DISCARD (R151). -/
def endIfMap (c : Cmd) (s : State) : State := if c.isMap then setSelection .none s else s

/-- Checks 3, 4 and 5 (R165): the length, the prefixes (a prefix frame takes any, log 27), the start-up. None if the
frame passes. -/
def frameCheck (c : Cmd) (args : List Byte) (held : HeldSet) (s : State) : Option Answer :=
  if args.length ≠ c.argBytes then some .range
  else if !c.isPrefix && !held.fits c then some (.refused .badPrefix)
  else if s.startingUp && !c.atStart then some (.refused .wrongState)
  else none

/-- The frame after it is opened: the first check that fails decides, else the owning block answers (R165). -/
def runFrame (c : Cmd) (act : Act) (args : List Byte) (held : HeldSet) (s : State) : Answer × State :=
  match frameCheck c args held s with
  | some a => (a, endIfMap c s)
  | none => act args held s

/-- A command frame is taken (R165). With a full reply list it is an overrun (R163, log 19). -/
def takeFrame (c : Cmd) (act : Act) (args : List Byte) (s : State) : State :=
  if s.listFull then discardAll s
  else
    let out := runFrame c act args s.link.held (openFrame c s)
    answer c.code out.1 out.2

/-- A host command frame as a row: nothing is received while the reset input is asserted (R38, R163). -/
def hostFrame (c : Cmd) (act : Act) (args : List Byte) (s : State) : Out :=
  if s.resetIn then .next s else .next (takeFrame c act args s)

end Sys2Proof.Machine
end

