-- ==== Sys2Proof/Machine/Reports.lean ====
section
/-! DEFINITION. The data of the reading commands' replies, each in the order its own rule lists (R174). -/

namespace Sys2Proof.Machine

/-- The lamp fault set: bit lane × 3 + colour for each lamp whose fault is not NONE (R171, R174). -/
def State.faultSet (s : State) : List Byte :=
  bytes16 ((allLanes.map (fun l =>
    (if (s.lamp l .red).fault = .none then 0 else 2 ^ (l.val * 3)) +
    (if (s.lamp l .amber).fault = .none then 0 else 2 ^ (l.val * 3 + 1)) +
    (if (s.lamp l .green).fault = .none then 0 else 2 ^ (l.val * 3 + 2)))).sum)

/-- The kind of the governing entry, 0 for none (R171). -/
def State.governingCode (s : State) : Byte :=
  match s.topGov with
  | some g => kindCode g.kind
  | none => 0

/-- The mainline occupancy, 0xFF for UNKNOWN (R171). -/
def State.occupancyByte (s : State) : Byte :=
  match s.det.occupancy with
  | some n => byte1 n
  | none => 0xFF

/-- The status record of GET-STATUS, 15 bytes (R171, R174). -/
def State.statusRecord (s : State) : List Byte :=
  [s.site.state.code, s.link.mode.code, optByte s.plans.active, optByte s.plans.staged, s.arb.own.code,
    optByte s.arb.owner, s.governingCode, s.occupancyByte] ++
  s.faultSet ++ setBytes (fun c => (s.chan c).health != .good) ++ [s.link.notices] ++
  bytes16 s.log.records.length

/-- READ-CONFIG (R16). -/
def State.configData (s : State) : List Byte :=
  allLanes.map (fun l => (s.mode l).code) ++ [optByte s.desc.priority] ++
  Param.all.flatMap (fun p => bytes16 (s.par p))

/-- READ-CHANNEL (R28). -/
def Channel.data (r : Channel) : List Byte :=
  [r.role.code, optByte r.lane, byte1 r.filter] ++ bytes16 r.onLimit ++ bytes16 r.offLimit ++
  [flagByte r.occupied, flagByte r.reading, r.health.code, causeCode r.cause] ++
  word16 r.count ++ bytes16 r.contOccupied ++ bytes16 r.sinceActuation

/-- One lamp record of READ-LAMPS (R87). -/
def LampRec.data (r : LampRec) : List Byte :=
  [r.commanded.code, r.output.code, flagByte r.sensed, r.proving.code, byte1 r.retries, r.fault.code,
    flagByte r.noticeOnly]

/-- The lamps of one head: RED, AMBER and GREEN (R87). -/
def Head.data (h : Head) : List Byte := h.red.data ++ h.amber.data ++ h.green.data

/-- The lanes a command with an optional LANE prefix covers: the one named, or all four (R87, R88). -/
def lanesFor : Option Lane → List Lane
  | some l => [l]
  | none => allLanes

/-- READ-LAMPS (R87). -/
def State.lampsData (s : State) (l : Option Lane) : List Byte :=
  (lanesFor l).flatMap (fun m => (s.head m).data) ++ [s.lamps.sign.code]

/-- A plan record, laid out as the plan record arguments (R118, R174). -/
def Plan.data (p : Plan) : List Byte :=
  bytes16 p.interval ++ bytes16 p.flushInterval ++ [byte1 p.size] ++ p.weights.toList.map byte1 ++ [byte1 p.prioEvery]

/-- The store summary (R118, log 15): four protection flags, the occupancy of sixteen slots, active, staged. -/
def State.summary (s : State) : List Byte :=
  s.plans.guarded.toList.map flagByte ++ (Bank.list s.plans.slots).map (fun p => flagByte p.isSome) ++
  [optByte s.plans.active, optByte s.plans.staged]

/-- One entry of READ-OVERRIDES (R141). -/
def Entry.data (e : Entry) : List Byte :=
  [kindCode e.kind, sourceCode e.source, optByte (sourceLane e.source), optByte e.lanes] ++ optBytes16 0xFFFF e.limit ++
  optBytes16 0 e.fixed

/-- READ-OVERRIDES (R141). -/
def State.overridesData (s : State) : List Byte :=
  [byte1 s.ovr.entries.length] ++ s.ovr.entries.flatMap Entry.data ++ [flagByte s.ovr.preLevel]

/-- The FROM band of a selection (R152). -/
def MapSel.fromBand : MapSel → Option Band
  | .none => Option.none
  | .fromHeld b => some b
  | .rangeHeld f _ _ => some f

/-- The TO band of a selection (R152). -/
def MapSel.toBand : MapSel → Option Band
  | .none => Option.none
  | .fromHeld _ => Option.none
  | .rangeHeld _ t _ => some t

/-- Is the band in the skipped set (R152)? -/
def MapSel.skipped (m : MapSel) (b : Band) : Bool :=
  match m with
  | .none => false
  | .fromHeld _ => false
  | .rangeHeld _ _ skips => Bank.at skips b

/-- READ-MAP (R152). -/
def State.mapData (s : State) : List Byte :=
  (Bank.list s.sel.map).map optByte ++
  [optByte s.sel.lastBand, s.sel.sel.code, optByte s.sel.sel.fromBand, optByte s.sel.sel.toBand] ++
  setBytes s.sel.sel.skipped

/-- READ-LOG-STATE: the record count and the lost count (R157). -/
def State.logData (s : State) : List Byte := bytes16 s.log.records.length ++ bytes16 s.log.lost

/-- READ-COUNTS with a LANE prefix (R161). -/
def LaneCounts.data (c : LaneCounts) : List Byte :=
  word16 c.grants ++ word16 c.passages ++ word16 c.noShows ++ word16 c.violations

/-- READ-COUNTS with no LANE prefix (R161). -/
def SlipCounts.data (c : SlipCounts) : List Byte :=
  word16 c.grants ++ word16 c.cuts ++ word16 c.yields ++ word16 c.expired

def State.countsData (s : State) : Option Lane → List Byte
  | some l => (s.log.lanes.get l).data
  | none => s.log.slip.data

/-- The open release of READ-ARBITER: its lane and grant number. The number's bytes while it is absent are free
(log 14). -/
def State.openData (s : State) : List Byte :=
  match s.arb.openRelease with
  | some (l, g) => [byte1 l.val] ++ word16 g
  | none => [0xFF] ++ word16 (Config.freeGrantBytes s.freeCount)

/-- The credits of READ-ARBITER, 0xFF for the priority lane (R114). -/
def State.creditData (s : State) : List Byte :=
  allLanes.map (fun l => if s.desc.priority = some l then 0xFF else byte1 (s.arb.credit.get l))

/-- READ-ARBITER (R114). -/
def State.arbiterData (s : State) : List Byte :=
  [s.arb.own.code, optByte s.arb.owner, s.arb.holdCause.code, optByte s.arb.holdLane, byte1 s.arb.queue.length] ++
  s.arb.queue.map (fun l => byte1 l.val) ++ [flagByte s.arb.prioWaiting] ++ optBytes16 0 s.arb.armed ++
  bytes16 s.arb.elapsed ++ [flagByte s.arb.expired] ++ optBytes16 0 s.intervalInForce ++ s.openData ++
  s.creditData ++ [byte1 s.arb.prioCount, s.arb.reservation.code] ++ bytes16 s.arb.reserveLeft ++
  word16 s.arb.grantNo ++ [s.det.merge.state.code]

/-- One use of a free value (log 14). -/
def useFree (s : State) : State := { s with freeCount := s.freeCount + 1 }

/-- The passage record of a record frame, 8 bytes (R174). -/
def PassRec.data (r : PassRec) : List Byte :=
  [BitVec.ofNat 8 (r.time.toNat / 65536), BitVec.ofNat 8 (r.time.toNat / 256), BitVec.ofNat 8 r.time.toNat,
    byte1 (r.lane.val * 64) ||| r.kind.code, optByte r.plan] ++
  (match r.grant with
   | some g => word16 g
   | none => [0xFF, 0xFF]) ++
  [match r.shortfall with
   | some n => byte1 n
   | none => 0xFF]

/-- The bytes of a reply frame on the line (R174). -/
def Reply.bytes (r : Reply) : List Byte :=
  let covered := byte1 (r.data.length + 2) :: r.code :: r.status :: r.data
  0x5D :: covered ++ [crc8 covered]

/-- The bytes of a record frame on the line (R174). -/
def Flight.bytes (f : Flight) : List Byte :=
  let covered := 0x09 :: 0xF0 :: f.copy.data
  0x5D :: covered ++ [crc8 covered]

end Sys2Proof.Machine
end

