-- ==== Sys2Proof/Machine/ConfigCommands.lean ====
section
/-! DEFINITION. SET-LANE, SET-PRIORITY-LANE, SET-CHANNEL, SET-TIMING, READ-CONFIG, READ-CHANNEL and RESET-CHANNEL
(chapters 1 and 2). -/

namespace Sys2Proof.Machine

/-- The configuration window: DARK and FAILSAFE (R6). -/
def State.window (s : State) : Bool := s.site.state == .dark || s.site.state == .failsafe

/-- A configuration command outside the window is refused with STATE (R6 check 2). -/
def inWindow (s : State) (a : Answer × State) : Answer × State := if s.window then a else (.refused .wrongState, s)

/-- A lane gets a mode; a change sets its consecutive no-show count to 0 (R3). -/
def setMode (l : Lane) (m : LaneMode) (s : State) : State :=
  if s.mode l = m then s
  else (s.modDesc (fun d => { d with modes := d.modes.set l m })).modLane l (fun r => { r with noShows := 0 })

/-- SET-LANE (R3). -/
def actSetLane : Act := fun args held s =>
  let l := held.lane.getD 0
  inWindow s
    (match args with
     | [b] =>
       match modeArg b with
       | some m =>
         if s.desc.priority = some l ∧ m.sequenced = false then (.refused .conflict, s)
         else (.done [], setMode l m s)
       | none => (.range, s)
     | _ => (.range, s))

def execSetLane (args : List Byte) (s : State) : Out := hostFrame .setLane actSetLane args s

/-- Some ADVANCE channel is bound to the lane (R5). -/
def State.hasAdvance (s : State) (l : Lane) : Bool := (s.chanFor .advance l).isSome

/-- The CONFLICT cases of SET-PRIORITY-LANE (R5). -/
def State.prioConflict (s : State) (p : Option Lane) : Bool :=
  (match p with
   | some l => !s.sequenced l
   | none => false) ||
  (match s.desc.priority with
   | some q => p != some q && s.hasAdvance q
   | none => false)

/-- The designation is replaced; a lane that gains it loses its credit (R5, log 31). -/
def setPriority (p : Option Lane) (s : State) : State :=
  if s.desc.priority = p then s
  else
    (s.modDesc (fun d => { d with priority := p })).modArb (fun a =>
      { a with
        credit := match p with
          | some l => a.credit.set l 0
          | none => a.credit })

/-- SET-PRIORITY-LANE (R5). -/
def actSetPriorityLane : Act := fun args _ s =>
  inWindow s
    (match args with
     | [b] =>
       match optArg 4 b with
       | some p => if s.prioConflict p then (.refused .conflict, s) else (.done [], setPriority p s)
       | none => (.range, s)
     | _ => (.range, s))

def execSetPriorityLane (args : List Byte) (s : State) : Out :=
  hostFrame .setPriorityLane actSetPriorityLane args s

/-- SET-CHANNEL (R20, R21). -/
def actSetChannel : Act := fun args held s =>
  let c := held.chan.getD 0
  inWindow s
    (match chanArgs (held.lane.getD 0) args with
     | some k =>
       if chanSetOk s.desc.priority (s.chansWith c k) then (.done [], configure c k s) else (.refused .conflict, s)
     | none => (.range, s))

def execSetChannel (args : List Byte) (s : State) : Out := hostFrame .setChannel actSetChannel args s

/-- The start of the stray measure of an OFF lamp, where strays are judged (R80). -/
def State.strayFrom (s : State) (l : Lane) (col : Colour) : Option Nat :=
  let r := s.lamp l col
  if s.judging && r.commanded == .off && r.sensed then r.window else none

/-- The stray measure reaches more than lamp_prove (R80, log 21). -/
def State.strayIn (s : State) (l : Lane) (col : Colour) : Option Nat :=
  (s.strayFrom l col).map (fun t => s.until (t + s.par .lampProve + 1))

/-- A measure whose time already reaches the new lamp_prove expires at the change (R14). -/
def strayIfOver (l : Lane) (col : Colour) (s : State) : State :=
  match s.strayFrom l col with
  | some t => if t + s.par .lampProve ≤ s.now then strayFound l col s else s
  | none => s

def straysOfLane (l : Lane) (s : State) : State := strayIfOver l .green (strayIfOver l .amber (strayIfOver l .red s))

/-- A timer that is running is compared with the new value of its parameter at once (R14). -/
def reachedAtChange (p : Param) (s : State) : State :=
  match p with
  | .mergeSettle => if s.settleIn = some 0 then mergeSettled s else s
  | .occupancyPeriod => if s.periodIn = some 0 then periodCloses s else s
  | .lampProve => forAll allLanes straysOfLane s
  | _ => s

/-- A timing parameter is written; writing the value it holds has no effect (R7, R14). -/
def setPar (p : Param) (v : Nat) (s : State) : State :=
  if s.par p = v then s
  else reachedAtChange p (s.modDesc (fun d => { d with timing := d.timing.set p v }))

/-- SET-TIMING (R7). -/
def actSetTiming : Act := fun args _ s =>
  inWindow s
    (match timingArgs args with
     | some (p, v) => (.done [], setPar p v s)
     | none => (.range, s))

def execSetTiming (args : List Byte) (s : State) : Out := hostFrame .setTiming actSetTiming args s

/-- READ-CONFIG (R16). -/
def actReadConfig : Act := fun _ _ s => (.done s.configData, s)

def execReadConfig (args : List Byte) (s : State) : Out := hostFrame .readConfig actReadConfig args s

/-- READ-CHANNEL (R28). -/
def actReadChannel : Act := fun _ held s => (.done (s.chan (held.chan.getD 0)).data, s)

def execReadChannel (args : List Byte) (s : State) : Out := hostFrame .readChannel actReadChannel args s

/-- RESET-CHANNEL (R27). -/
def actResetChannel : Act := fun _ held s => (.done [], forceGood (held.chan.getD 0) s)

def execResetChannel (args : List Byte) (s : State) : Out := hostFrame .resetChannel actResetChannel args s

end Sys2Proof.Machine
end

