-- ==== Sys2Proof/Machine/DetectorEvents.lean ====
section
/-! DEFINITION. The detector monitor's events (R22 to R35). -/

namespace Sys2Proof.Machine

/-- The input's level while the reset input is asserted: it is a pending change from the reset on (R36, log 12). -/
def inputInReset (c : Chan) (level : Bool) (s : State) : State :=
  s.modChan c (fun r => Channel.atReset { r with input := level })

/-- DETECTOR_INPUT_CHANGE (R22). -/
def execDetectorInputChange (c : Chan) (occupied : Bool) (s : State) : Out :=
  if s.resetIn then .next (inputInReset c occupied s) else .next (inputChange c occupied s)

/-- ACTUATION (R22). -/
def execActuation (c : Chan) (s : State) : Out := timed (s.actuationIn c) (takeActuation c) s

/-- CLEARING (R22). -/
def execClearing (c : Chan) (s : State) : Out := timed (s.clearingIn c) (takeClearing c) s

/-- STUCK_ON_EXPIRY (R23). -/
def execStuckOnExpiry (c : Chan) (s : State) : Out := timed (s.stuckOnIn c) (becomeStuck c .stuckOn .continuous) s

/-- STUCK_OFF_EXPIRY (R24). -/
def execStuckOffExpiry (c : Chan) (s : State) : Out :=
  timed (s.stuckOffIn c) (becomeStuck c .stuckOff .noActuation) s

/-- The detector monitor takes the oldest claim of a lane (R25). -/
def takeClaimOf (l : Lane) (s : State) : State :=
  match s.waiting (isClaim l) with
  | some (.claim m c) => takeClaim m c (takeOff (isClaim l) s)
  | _ => s

/-- NO_SHOW_CLAIM (R25). -/
def execNoShowClaim (l : Lane) (s : State) : Out := taken (s.waiting (isClaim l)).isSome (takeClaimOf l) s

/-- MERGE_SETTLE_EXPIRY (R31). -/
def execMergeSettleExpiry (s : State) : Out := timed s.settleIn mergeSettled s

def State.queueOnIn (s : State) (l : Lane) : Option Nat := (s.det.queue.get l).onIn (s.par .queueOn) s.now

/-- The monitor triggers whatever becomes of the push (R32). -/
def queueTriggers (l : Lane) (s : State) : State :=
  automaticPush (queueEntry l (s.par .flushLimit)) (s.modQueueMon l (fun m => { m with state := .triggered }))

/-- QUEUE_ON_REACHED (R32). -/
def execQueueOnReached (l : Lane) (s : State) : Out := timed (s.queueOnIn l) (queueTriggers l) s

def State.queueOffIn (s : State) (l : Lane) : Option Nat := (s.det.queue.get l).offIn (s.par .queueOff) s.now

/-- The monitor watches again; from TRIGGERED it asks the removal of its entry (R32, R138). -/
def queueClears (l : Lane) (s : State) : State :=
  let t := s.modQueueMon l (fun m => { m with state := .watching })
  if (s.det.queue.get l).state = .triggered then removeEntry .flush (.queue l) t else t

/-- QUEUE_OFF_REACHED (R32). -/
def execQueueOffReached (l : Lane) (s : State) : Out := timed (s.queueOffIn l) (queueClears l) s

def State.spillOnIn (s : State) : Option Nat := s.det.spill.onIn (s.par .spillOn) s.now

/-- The spill monitor triggers (R34). -/
def spillTriggers (s : State) : State :=
  automaticPush (spillEntry (s.par .flushLimit)) (s.modSpillMon (fun m => { m with state := .triggered }))

/-- SPILL_ON_REACHED (R34). -/
def execSpillOnReached (s : State) : Out := timed s.spillOnIn spillTriggers s

def State.spillOffIn (s : State) : Option Nat := s.det.spill.offIn (s.par .spillOff) s.now

/-- The spill monitor watches again (R34, R138). -/
def spillClears (s : State) : State :=
  let t := s.modSpillMon (fun m => { m with state := .watching })
  if s.det.spill.state = .triggered then removeEntry .flush .spill t else t

/-- SPILL_OFF_REACHED (R34). -/
def execSpillOffReached (s : State) : Out := timed s.spillOffIn spillClears s

/-- OCCUPANCY_PERIOD_CLOSE (R35, R147, R148). -/
def execOccupancyPeriodClose (s : State) : Out := timed s.periodIn periodCloses s

end Sys2Proof.Machine
end

