-- ==== Sys2Proof/Machine/LampEvents.lean ====
section
/-! DEFINITION. The lamp monitor's events (R77 to R85). -/

namespace Sys2Proof.Machine

/-- A sense input while the reset input is asserted: the record is as at the reset (R90, log 12). -/
def senseInReset (l : Lane) (col : Colour) (on : Bool) (s : State) : State :=
  s.modLamp l col (fun r => LampRec.atReset { r with sensed := on })

/-- LAMP_SENSE_CHANGE (R77 to R81, R85). -/
def execLampSenseChange (l : Lane) (col : Colour) (on : Bool) (s : State) : Out :=
  if (s.lamp l col).sensed = on then .next s
  else if s.resetIn then .next (senseInReset l col on s)
  else .next (senseChange l col on s)

/-- The window of an ON command ends (R78). -/
def State.windowIn (s : State) (l : Lane) (col : Colour) : Option Nat :=
  let r := s.lamp l col
  if r.commanded = .on ∧ r.proving = .proving then r.window.map (fun t => s.until (t + s.par .lampProve)) else none

/-- PROVING_WINDOW_END (R78). -/
def execProvingWindowEnd (l : Lane) (col : Colour) (s : State) : Out := timed (s.windowIn l col) (attemptFailed l col) s

/-- The on-phase of a flashing lamp ends (R79). -/
def State.phaseIn (s : State) (l : Lane) (col : Colour) : Option Nat :=
  let r := s.lamp l col
  if r.commanded = .flash then r.phaseEnd.map s.until else none

/-- The cadence goes on: the next on-phase ends 10 tenths later (R75, R79). -/
def LampRec.nextPhase (r : LampRec) : LampRec := { r with phaseEnd := r.phaseEnd.map (fun e => e + 10), phaseSeen := false }

/-- An on-phase in which the sense read ON proves the lamp; one with no sense of ON is a failed attempt, or a loss of
proof (R79, R81). lamp_prove does not enter, although R11 names FLASH beside it (log 20). -/
def phaseEnds (l : Lane) (col : Colour) (s : State) : State :=
  let r := s.lamp l col
  let t :=
    if r.phaseSeen || r.sensed then
      s.modLamp l col (fun q => { q with proving := if q.proving = .proving then .proven else q.proving })
    else
      match r.proving with
      | .proving => attemptFailed l col s
      | .proven => proofLost l col s
      | .unproven => s
  t.modLamp l col LampRec.nextPhase

/-- FLASH_ON_PHASE_END (R79). -/
def execFlashOnPhaseEnd (l : Lane) (col : Colour) (s : State) : Out := timed (s.phaseIn l col) (phaseEnds l col) s

/-- STRAY_MEASURE_EXPIRY (R80). -/
def execStrayMeasureExpiry (l : Lane) (col : Colour) (s : State) : Out := timed (s.strayIn l col) (strayFound l col) s

/-- A PROVEN ON lamp has been sensed OFF for a continuous lamp_prove (R81). -/
def State.lostIn (s : State) (l : Lane) (col : Colour) : Option Nat :=
  let r := s.lamp l col
  if r.commanded = .on ∧ r.proving = .proven then r.lostFrom.map (fun t => s.until (t + s.par .lampProve)) else none

/-- LOSS_OF_PROOF (R81). -/
def execLossOfProof (l : Lane) (col : Colour) (s : State) : Out := timed (s.lostIn l col) (proofLost l col) s

end Sys2Proof.Machine
end

