-- ==== Sys2Proof/Machine/OverrideEvents.lean ====
section
/-! DEFINITION. The override stack's events, and the taking of a new governing entry by the arbiter and by a lane
(R112, R134 to R138, R66). -/

namespace Sys2Proof.Machine

/-- The pre-emption input takes a level: opposite to the filtered level a pending change starts, else it is discarded
(R134). -/
def preemptInput (level : Bool) (s : State) : State :=
  if s.ovr.preInput = level then s
  else
    s.modOvr (fun o =>
      { o with preInput := level, preFrom := if level = o.preLevel then none else some s.now })

/-- The level while the reset input is asserted: it is a pending change from the reset on (R134, log 12). -/
def preemptInReset (level : Bool) (s : State) : State :=
  s.modOvr (fun o => { o with preInput := level, preFrom := if level then some 0 else none })

/-- PREEMPTION_INPUT_CHANGE (R134). -/
def execPreemptionInputChange (asserted : Bool) (s : State) : Out :=
  if s.resetIn then .next (preemptInReset asserted s) else .next (preemptInput asserted s)

/-- The input has held the level opposite to the filtered one for 5 tenths (R134). -/
def State.preemptIn (s : State) (level : Bool) : Option Nat :=
  if s.ovr.preLevel = level then none else s.ovr.preFrom.map (fun t => s.until (t + 5))

def setPreLevel (level : Bool) (s : State) : State := s.modOvr (fun o => { o with preLevel := level, preFrom := none })

/-- An assertion: the stack pushes a CLEAROUT with source PREEMPT where it takes pre-emption events (R135). -/
def preemptAsserted (s : State) : State :=
  if s.takesPreempt then automaticPush preemptEntry (setPreLevel true s) else setPreLevel true s

/-- PREEMPTION_ASSERTION (R135). -/
def execPreemptionAssertion (s : State) : Out := timed (s.preemptIn true) preemptAsserted s

/-- A release: the stack removes the PREEMPT entry, if one stands (R135, R138). -/
def preemptReleased (s : State) : State :=
  if s.takesPreempt then removeEntry .clearout .preempt (setPreLevel false s) else setPreLevel false s

/-- PREEMPTION_RELEASE (R135). -/
def execPreemptionRelease (s : State) : Out := timed (s.preemptIn false) preemptReleased s

/-- The time an entry's limit still has (R137). -/
def State.limitIn (s : State) (k : OvKind) (src : OvSource) : Option Nat :=
  (s.ovr.entries.find? (Entry.isId k src)).bind Entry.limit

/-- A removal by limit is reported to the monitor that pushed the entry (R137). -/
def tellMonitor (src : OvSource) (s : State) : State :=
  match src with
  | .queue l => s.modQueueMon l (Monitor.spend (s.par .queueOff) s.now)
  | .spill => s.modSpillMon (Monitor.spend (s.par .spillOff) s.now)
  | .link => s
  | .preempt => s

/-- OVERRIDE_LIMIT_EXPIRY (R137). -/
def execOverrideLimitExpiry (k : OvKind) (src : OvSource) (s : State) : Out :=
  timed (s.limitIn k src) (fun t => tellMonitor src (removeEntry k src t)) s

/-- The arbiter takes a governing entry (R93, R94, R112): it enters SHUT, leaves it, or compares the interval and
derives the hold. The lanes hear of the emptied queue (R63). -/
def arbiterTakes (g : Option Gov) (s : State) : State :=
  let t := s.modArb (fun a => { a with gov := g })
  if s.metering then
    if govShuts g then
      if s.arb.own = .shut then t else settleReds (enterShut true t)
    else if s.arb.own = .shut then leaveShut t
    else rederive (checkInterval t)
  else t

/-- The arbiter takes the oldest governing entry handed to it. -/
def takeArbiterGov (s : State) : State :=
  match s.waiting isArbiterGov with
  | some (.arbiterGov g) => arbiterTakes g (takeOff isArbiterGov s)
  | _ => s

/-- ARBITER_GOVERNING_CHANGE (R112). -/
def execArbiterGoverningChange (s : State) : Out := taken (s.waiting isArbiterGov).isSome takeArbiterGov s

/-- A lane in OPEN whose CLEAROUT has gone returns to AMBER from min_green (R64). -/
def tryCloseOpen (l : Lane) (s : State) : State := if s.openCloses l then openToAmber l s else s

/-- A lane takes a governing entry as its new target from where it stands (R59, R60, R63, R64, R66, R67). -/
def laneTakes (l : Lane) (g : Option Gov) (s : State) : State :=
  let t := s.modLane l (fun r => { r with gov := g })
  if s.metering then
    match (s.lane l).state with
    | .green => if govIs g .clearout then greenToOpen l t else tryEndGreen l t
    | .opened => tryCloseOpen l t
    | .red => settleRed l t
    | .off => t
    | .warning => t
    | .amber => t
  else t

/-- A lane takes the oldest governing entry handed to it. -/
def takeLaneGov (l : Lane) (s : State) : State :=
  match s.waiting (isLaneGov l) with
  | some (.laneGov m g) => laneTakes m g (takeOff (isLaneGov l) s)
  | _ => s

/-- LANE_GOVERNING_CHANGE (R66). -/
def execLaneGoverningChange (l : Lane) (s : State) : Out := taken (s.waiting (isLaneGov l)).isSome (takeLaneGov l) s

end Sys2Proof.Machine
end

