-- ==== Sys2Proof/Machine/LaneEvents.lean ====
section
/-! DEFINITION. The lane sequencers' events (R56 to R64, R71). -/

namespace Sys2Proof.Machine

/-- min_green since green onset, in GREEN or OPEN. A green whose min_green has elapsed waits for an end condition, and
an OPEN for its CLEAROUT to go: their own events end them (R56, R64). -/
def State.minGreenIn (s : State) (l : Lane) : Option Nat :=
  match (s.lane l).onsetAt with
  | none => none
  | some t =>
    let w := s.until (t + s.par .minGreen)
    match (s.lane l).state with
    | .green => if w = 0 ∧ s.greenEnds l = false then none else some w
    | .opened => if w = 0 ∧ s.openCloses l = false then none else some w
    | .off => none
    | .warning => none
    | .red => none
    | .amber => none

/-- min_green has elapsed (R56, R64). -/
def minGreenOver (l : Lane) (s : State) : State := tryCloseOpen l (tryEndGreen l s)

/-- MIN_GREEN_ELAPSED (R56, R64). -/
def execMinGreenElapsed (l : Lane) (s : State) : Out := timed (s.minGreenIn l) (minGreenOver l) s

/-- The green duration since green onset, and no sooner than min_green (R56). -/
def State.durationIn (s : State) (l : Lane) : Option Nat :=
  if (s.lane l).state = .green then
    match (s.lane l).onsetAt, (s.lane l).greenFor with
    | some t, some n => some (s.until (t + max n (s.par .minGreen)))
    | _, _ => none
  else none

/-- GREEN_DURATION_ELAPSED (R56). -/
def execGreenDurationElapsed (l : Lane) (s : State) : Out := timed (s.durationIn l) (tryEndGreen l) s

/-- amber_time since amber onset (R62). -/
def State.amberIn (s : State) (l : Lane) : Option Nat :=
  if (s.lane l).state = .amber then some (s.until ((s.lane l).entryAt + s.par .amberTime)) else none

/-- AMBER_TIME_ELAPSED (R62). -/
def execAmberTimeElapsed (l : Lane) (s : State) : Out := timed (s.amberIn l) (goRed l) s

/-- min_red since red onset, while the flag is clear (R62). -/
def State.minRedIn (s : State) (l : Lane) : Option Nat :=
  if (s.lane l).state = .red ∧ (s.lane l).minRed = false then
    some (s.until ((s.lane l).entryAt + s.par .minRed))
  else none

/-- The flag is set, and the lane may request or go to OPEN (R62, R63, R68). -/
def minRedOver (l : Lane) (s : State) : State := settleRed l (s.modLane l (fun r => { r with minRed := true }))

/-- MIN_RED_ELAPSED (R63). -/
def execMinRedElapsed (l : Lane) (s : State) : Out := timed (s.minRedIn l) (minRedOver l) s

/-- The time since red onset exceeds red_grace while a grant is open for passages (R71). -/
def State.graceIn (s : State) (l : Lane) : Option Nat :=
  if (s.lane l).state = .red ∧ (s.lane l).grant.isSome = true then
    some (s.until ((s.lane l).entryAt + s.par .redGrace + 1))
  else none

/-- RED_GRACE_EXPIRY (R71). -/
def execRedGraceExpiry (l : Lane) (s : State) : Out :=
  timed (s.graceIn l) (fun t => t.modLane l LaneRec.closeGrant) s

/-- The lane in GREEN is short of its release size and not yet cut (R58). -/
def State.cuttable (s : State) (l : Lane) : Bool :=
  (s.lane l).state == .green && !(s.lane l).cut &&
    (match (s.lane l).size with
     | some n => decide ((s.lane l).passages < n)
     | none => false)

/-- A lane takes an entry of the merge monitor to BUSY (R58). -/
def takeBusy (l : Lane) (s : State) : State :=
  if s.cuttable l then tryEndGreen l (s.modLane l (fun r => { r with cut := true })) else s

/-- RELEASE_CUT (R58). -/
def execReleaseCut (l : Lane) (s : State) : Out :=
  taken (s.waiting (isBusyEntry l)).isSome (fun t => takeBusy l (takeOff (isBusyEntry l) t)) s

end Sys2Proof.Machine
end

