-- ==== Sys2Proof/Machine/LinkCommands.lean ====
section
/-! DEFINITION. BEGIN, GET-STATUS, TAKE-NOTICE, SET-NOTICE-MASK, SET-TIME and the prefix frames (chapters 3 and 11). -/

namespace Sys2Proof.Machine

/-- The first BEGIN taken starts the link-loss count (R39, R145). -/
def markBegun (s : State) : State := s.modLink (fun k => { k with begun := true, lossFrom := some s.now })

/-- BEGIN in START enters LAMPTEST and arms the lamp-test timer with 10 tenths (R39). -/
def enterLampTest (s : State) : State :=
  s.modSite (fun c => { c with state := .lamptest, lampTestAt := some (s.now + 10) })

/-- BEGIN (R39). -/
def actBegin : Act := fun _ _ s =>
  let t := markBegun s
  (.done [], if s.site.state = .start then enterLampTest t else t)

def execBegin (args : List Byte) (s : State) : Out := hostFrame .beginCmd actBegin args s

/-- GET-STATUS (R171). -/
def actGetStatus : Act := fun _ _ s => (.done s.statusRecord, s)

def execGetStatus (args : List Byte) (s : State) : Out := hostFrame .getStatus actGetStatus args s

/-- The highest-priority class both pending and in the mask (R170). -/
def State.topNotice (s : State) : Option Notice :=
  Notice.byPriority.find? (fun n => (s.link.notices &&& s.link.mask &&& n.bit) != 0)

/-- A class leaves the pending set (R170). -/
def clearNotice (n : Notice) (s : State) : State :=
  s.modLink (fun k => { k with notices := k.notices &&& ~~~n.bit })

/-- TAKE-NOTICE: the class code, or 0 for none, and the pending set after the clearing (R170). -/
def actTakeNotice : Act := fun _ _ s =>
  match s.topNotice with
  | some n => (.done [n.code, (clearNotice n s).link.notices], clearNotice n s)
  | none => (.done [0, s.link.notices], s)

def execTakeNotice (args : List Byte) (s : State) : Out := hostFrame .takeNotice actTakeNotice args s

/-- SET-NOTICE-MASK (R170). -/
def actSetNoticeMask : Act := fun args _ s =>
  match args with
  | [m] => (.done [], s.modLink (fun k => { k with mask := m }))
  | _ => (.range, s)

def execSetNoticeMask (args : List Byte) (s : State) : Out := hostFrame .setNoticeMask actSetNoticeMask args s

/-- SET-TIME: site time alone changes; no moment of `State.now` moves (R172, log 9). -/
def actSetTime : Act := fun args _ s =>
  match args with
  | [b2, b1, b0] => (.done [], { s with siteTime := timeArg b2 b1 b0 })
  | _ => (.range, s)

def execSetTime (args : List Byte) (s : State) : Out := hostFrame .setTime actSetTime args s

/-! ### Prefix frames (R167) -/

/-- The held set and the IGNORED byte of a prefix frame's reply (R167). -/
def State.heldData (s : State) (ignored : Bool) : List Byte :=
  [optByte s.link.held.lane, optByte s.link.held.slot, optByte s.link.held.chan, flagByte ignored]

/-- A prefix is held; the prefix-hold time starts if no other was held (R167). -/
def holdPrefix (f : HeldSet → HeldSet) (s : State) : State :=
  s.modLink (fun k =>
    { k with held := { f k.held with since := if k.held.any then k.held.since else some s.now } })

/-- A prefix frame whose argument is in range: held if none of its kind is held, else ignored (R167). -/
def takePrefix (already : Bool) (f : HeldSet → HeldSet) (s : State) : Answer × State :=
  if already then (.done (s.heldData true), s) else (.done ((holdPrefix f s).heldData false), holdPrefix f s)

/-- PFX-LANE (R167). -/
def actPfxLane : Act := fun args _ s =>
  match args with
  | [b] =>
    match numArg 4 b with
    | some l => takePrefix s.link.held.lane.isSome (fun h => { h with lane := some l }) s
    | none => (.range, s)
  | _ => (.range, s)

def execPfxLane (args : List Byte) (s : State) : Out := hostFrame .pfxLane actPfxLane args s

/-- PFX-PLAN (R167). -/
def actPfxPlan : Act := fun args _ s =>
  match args with
  | [b] =>
    match numArg 16 b with
    | some i => takePrefix s.link.held.slot.isSome (fun h => { h with slot := some i }) s
    | none => (.range, s)
  | _ => (.range, s)

def execPfxPlan (args : List Byte) (s : State) : Out := hostFrame .pfxPlan actPfxPlan args s

/-- PFX-CHANNEL (R167). -/
def actPfxChannel : Act := fun args _ s =>
  match args with
  | [b] =>
    match numArg 16 b with
    | some c => takePrefix s.link.held.chan.isSome (fun h => { h with chan := some c }) s
    | none => (.range, s)
  | _ => (.range, s)

def execPfxChannel (args : List Byte) (s : State) : Out := hostFrame .pfxChannel actPfxChannel args s

end Sys2Proof.Machine
end

