-- ==== Sys2Proof/Machine/LinkEvents.lean ====
section
/-! DEFINITION. The link's events beside command frames (R145, R158, R163, R165, R168). -/

namespace Sys2Proof.Machine

/-- A good frame whose code is not in the command table: UNKNOWN, the prefixes consumed, a selection ended (R165). -/
def takeUndefined (code : Byte) (s : State) : State :=
  if s.listFull then discardAll s
  else reply code .unknown [] (discardSelection (consumeHeld (goodFrame s)))

def execUndefinedCodeFrame (code : Byte) (_args : List Byte) (s : State) : Out :=
  taken (Cmd.ofCode code).isNone (takeUndefined code) s

/-- A complete frame whose CRC is not 0: CODE 0x00 and CHECK; it ends a stream, and discards prefixes and selection
(R159, R165). -/
def takeBadCheck (s : State) : State :=
  if s.listFull then discardAll s else reply 0x00 .check [] (discardAll (endStream s))

def execBadCheckFrame (s : State) : Out := taken true takeBadCheck s

/-- More than 5 tenths since the last byte of a frame in progress (R163). -/
def State.gapIn (s : State) : Option Nat :=
  match s.link.receiver with
  | .hunting => none
  | .length => some (s.until (s.link.lastByte + 6))
  | .body _ _ => some (s.until (s.link.lastByte + 6))

/-- FRAME_GAP_TIMEOUT. With no frame in progress the row stands for a frame that begins now and stops (log 18). -/
def execFrameGapTimeout (s : State) : Out := timed (some (s.gapIn.getD 6)) discardAll s

/-- The LEN byte breaks the frame off and is examined as in HUNTING (R163). -/
def breakOff (len : Byte) (s : State) : State :=
  (discardAll s).modLink (fun k => { k with receiver := hunt len, lastByte := s.now })

def execLenOutOfRange (len : Byte) (s : State) : Out := taken (!lenInRange len) (breakOff len) s

/-- A complete frame with eight replies waiting (R163). -/
def execFrameOverrun (s : State) : Out := taken s.listFull discardAll s

/-- The prefix-hold time reaches prefix_hold (R168). -/
def State.prefixIn (s : State) : Option Nat := s.link.held.since.map (fun t => s.until (t + s.par .prefixHold))

def execPrefixHoldExpiry (s : State) : Out := timed s.prefixIn discardHeld s

/-- The time since the last good frame reaches link_loss, which is not 0 (R145). -/
def State.lossIn (s : State) : Option Nat :=
  if s.par .linkLoss = 0 then none else s.link.lossFrom.map (fun t => s.until (t + s.par .linkLoss))

/-- The link mode becomes LOCAL and the timer stops until the next good frame (R145). -/
def loseLink (s : State) : State := raise .link (s.modLink (fun k => { k with mode := .localMode, lossFrom := none }))

def execLinkLossExpiry (s : State) : Out := timed s.lossIn loseLink s

/-- Is a record frame in flight (R158)? -/
def State.inFlight (s : State) : Bool :=
  match s.link.stream with
  | some st => st.flight.isSome
  | none => false

def execRecordFrameCompletion (s : State) : Out := taken s.inFlight recordSent s

def execReplyFrameTransmitted (s : State) : Out := taken s.link.sending.isSome replySent s

end Sys2Proof.Machine
end

