-- ==== Sys2Proof/Machine/LogCommands.lean ====
section
/-! DEFINITION. STREAM-LOG, STOP-STREAM, READ-LOG-STATE, READ-COUNTS, CLEAR-COUNTS and READ-ARBITER (chapters 6 and
10). -/

namespace Sys2Proof.Machine

/-- A stream of up to `n` records, 0 for until the log is empty (R158). -/
def Stream.fresh (n : Nat) : Stream := { asked := n, delivered := 0, flight := none }

/-- A stream starts; its first record frame starts when the line is free (R158, log 28). -/
def startStream (n : Nat) (s : State) : State := pump (s.modLink (fun k => { k with stream := some (Stream.fresh n) }))

/-- STREAM-LOG: with the log empty an end frame with delivered count 0 at once (R158). -/
def actStreamLog : Act := fun args _ s =>
  match args with
  | [n] => if s.log.records.isEmpty then (.done (bytes16 0), s) else (.streaming, startStream n.toNat s)
  | _ => (.range, s)

def execStreamLog (args : List Byte) (s : State) : Out := hostFrame .streamLog actStreamLog args s

/-- STOP-STREAM: the frame itself has ended a stream in progress (R159). -/
def actStopStream : Act := fun _ _ s => (.done [], s)

def execStopStream (args : List Byte) (s : State) : Out := hostFrame .stopStream actStopStream args s

/-- READ-LOG-STATE: reports the counts and clears the lost count (R157). -/
def actReadLogState : Act := fun _ _ s => (.done s.logData, s.modLog (fun g => { g with lost := 0 }))

def execReadLogState (args : List Byte) (s : State) : Out := hostFrame .readLogState actReadLogState args s

/-- READ-COUNTS (R161). -/
def actReadCounts : Act := fun _ held s => (.done (s.countsData held.lane), s)

def execReadCounts (args : List Byte) (s : State) : Out := hostFrame .readCounts actReadCounts args s

/-- The four counters of a lane at 0. -/
def LaneCounts.zero : LaneCounts := { grants := 0, passages := 0, noShows := 0, violations := 0 }

/-- The four counters of the slip at 0. -/
def SlipCounts.zero : SlipCounts := { grants := 0, cuts := 0, yields := 0, expired := 0 }

/-- CLEAR-COUNTS's effect (R161). -/
def clearCounts (l : Option Lane) (s : State) : State :=
  match l with
  | some m => s.modLog (fun g => { g with lanes := g.lanes.set m LaneCounts.zero })
  | none => s.modLog (fun g => { g with lanes := Quad.all LaneCounts.zero, slip := SlipCounts.zero })

/-- CLEAR-COUNTS (R161). -/
def actClearCounts : Act := fun _ held s => (.done [], clearCounts held.lane s)

def execClearCounts (args : List Byte) (s : State) : Out := hostFrame .clearCounts actClearCounts args s

/-- READ-ARBITER (R114). With no open release a free value is used (log 14). -/
def actReadArbiter : Act := fun _ _ s =>
  (.done s.arbiterData, if s.arb.openRelease = none then useFree s else s)

def execReadArbiter (args : List Byte) (s : State) : Out := hostFrame .readArbiter actReadArbiter args s

end Sys2Proof.Machine
end

