-- ==== Sys2Proof/Machine/MapCommands.lean ====
section
/-! DEFINITION. MAP-FROM, MAP-TO, MAP-SKIP, MAP-ASSIGN and READ-MAP (chapter 9). -/

namespace Sys2Proof.Machine

/-- A map command whose argument is a band: out of range is answered RANGE before the order is looked at (log 26) and
ends the selection (R151). -/
def onBand (f : Band → State → Answer × State) (args : List Byte) (s : State) : Answer × State :=
  match args with
  | [b] =>
    match numArg 16 b with
    | some d => f d s
    | none => (.range, setSelection .none s)
  | _ => (.range, setSelection .none s)

/-- A map command out of order ends the selection (R149, R151). -/
def outOfOrder (s : State) : Answer × State := (.order, setSelection .none s)

/-- MAP-FROM (R149). -/
def actMapFrom : Act := fun args _ s => onBand (fun b t => (.done [], setSelection (.fromHeld b) t)) args s

def execMapFrom (args : List Byte) (s : State) : Out := hostFrame .mapFrom actMapFrom args s

/-- MAP-TO's move of the selection (R149). -/
def mapTo (b : Band) (s : State) : Answer × State :=
  match s.sel.sel with
  | .fromHeld f =>
    if f ≤ b then (.done [], setSelection (.rangeHeld f b (Bank.fill false)) s) else outOfOrder s
  | .none => outOfOrder s
  | .rangeHeld _ _ _ => outOfOrder s

def actMapTo : Act := fun args _ s => onBand mapTo args s

def execMapTo (args : List Byte) (s : State) : Out := hostFrame .mapTo actMapTo args s

/-- MAP-SKIP's move of the selection (R149). -/
def mapSkip (b : Band) (s : State) : Answer × State :=
  match s.sel.sel with
  | .rangeHeld f t skips =>
    if f ≤ b ∧ b ≤ t then (.done [], setSelection (.rangeHeld f t (Bank.put skips b true)) s) else outOfOrder s
  | .none => outOfOrder s
  | .fromHeld _ => outOfOrder s

def actMapSkip : Act := fun args _ s => onBand mapSkip args s

def execMapSkip (args : List Byte) (s : State) : Out := hostFrame .mapSkip actMapSkip args s

/-- MAP-ASSIGN (R150). -/
def actMapAssign : Act := fun args _ s =>
  match args with
  | [b] =>
    match optArg 16 b with
    | some e => if s.sel.sel = .none then outOfOrder s else (.done [], assignMap e s)
    | none => (.range, setSelection .none s)
  | _ => (.range, setSelection .none s)

def execMapAssign (args : List Byte) (s : State) : Out := hostFrame .mapAssign actMapAssign args s

/-- READ-MAP (R152). -/
def actReadMap : Act := fun _ _ s => (.done s.mapData, s)

def execReadMap (args : List Byte) (s : State) : Out := hostFrame .readMap actReadMap args s

end Sys2Proof.Machine
end

