-- ==== Sys2Proof/Machine/OverrideCommands.lean ====
section
/-! DEFINITION. PUSH-OVERRIDE, REMOVE-OVERRIDE and READ-OVERRIDES (chapter 8). -/

namespace Sys2Proof.Machine

/-- A LINK push: the duplicate is replaced in its place, else the entry is placed, else FULL (R133). -/
def linkPush (e : Entry) (s : State) : Answer × State :=
  if s.stands e.kind .link then (.done [], setStack (replaceEntry e s.ovr.entries) s)
  else if s.ovr.entries.length < stackRoom then (.done [], setStack (placeEntry e s.ovr.entries) s)
  else (.refused .full, s)

/-- PUSH-OVERRIDE (R132, R133). -/
def actPushOverride : Act := fun args held s =>
  if s.site.state = .failsafe then (.refused .wrongState, s)
  else
    match pushArgs held.lane args with
    | some e => linkPush e s
    | none => (.range, s)

def execPushOverride (args : List Byte) (s : State) : Out := hostFrame .pushOverride actPushOverride args s

/-- REMOVE-OVERRIDE (R139). -/
def actRemoveOverride : Act := fun args _ s =>
  match args with
  | [b] =>
    match kindArg b with
    | some k => if s.stands k .link then (.done [], removeEntry k .link s) else (.refused .notFound, s)
    | none => (.range, s)
  | _ => (.range, s)

def execRemoveOverride (args : List Byte) (s : State) : Out := hostFrame .removeOverride actRemoveOverride args s

/-- READ-OVERRIDES (R141). -/
def actReadOverrides : Act := fun _ _ s => (.done s.overridesData, s)

def execReadOverrides (args : List Byte) (s : State) : Out := hostFrame .readOverrides actReadOverrides args s

end Sys2Proof.Machine
end

