-- ==== Sys2Proof/Machine/PlanCommands.lean ====
section
/-! DEFINITION. WRITE-PLAN, READ-PLAN, ERASE-PLAN, SELECT-PLAN, PROTECT-GROUP and UNPROTECT-GROUP (chapter 7). -/

namespace Sys2Proof.Machine

/-- A change of a slot's content: PROTECTED before IN-USE, else it is done (R117, R119). -/
def changeSlot (i : Slot) (p : Option Plan) (s : State) : Answer × State :=
  if s.guardedSlot i then (.refused .guarded, s)
  else if s.inUse i then (.refused .inUse, s)
  else (.done [], setSlot i p s)

/-- WRITE-PLAN (R117). -/
def actWritePlan : Act := fun args held s =>
  match planArgs args with
  | some p => if p.valid then changeSlot (held.slot.getD 0) (some p) s else (.range, s)
  | none => (.range, s)

def execWritePlan (args : List Byte) (s : State) : Out := hostFrame .writePlan actWritePlan args s

/-- READ-PLAN (R118). -/
def actReadPlan : Act := fun _ held s =>
  match held.slot with
  | some i =>
    match s.slot i with
    | some p => (.done p.data, s)
    | none => (.refused .emptySlot, s)
  | none => (.done s.summary, s)

def execReadPlan (args : List Byte) (s : State) : Out := hostFrame .readPlan actReadPlan args s

/-- ERASE-PLAN (R119). -/
def actErasePlan : Act := fun _ held s => changeSlot (held.slot.getD 0) none s

def execErasePlan (args : List Byte) (s : State) : Out := hostFrame .erasePlan actErasePlan args s

/-- SELECT-PLAN (R122, R123). -/
def actSelectPlan : Act := fun _ held s =>
  match held.slot with
  | some i =>
    match s.slot i with
    | some _ => (.done [], selectSlot i s)
    | none => (.refused .emptySlot, s)
  | none => (.done [], clearStaged s)

def execSelectPlan (args : List Byte) (s : State) : Out := hostFrame .selectPlan actSelectPlan args s

/-- The flag of a group is set or cleared (R120). -/
def guardGroup (on : Bool) (args : List Byte) (s : State) : Answer × State :=
  match args with
  | [b] =>
    match numArg 4 b with
    | some g => (.done [], setGuard g on s)
    | none => (.range, s)
  | _ => (.range, s)

/-- PROTECT-GROUP (R120). -/
def actProtectGroup : Act := fun args _ s => guardGroup true args s

def execProtectGroup (args : List Byte) (s : State) : Out := hostFrame .protectGroup actProtectGroup args s

/-- UNPROTECT-GROUP (R120). -/
def actUnprotectGroup : Act := fun args _ s => guardGroup false args s

def execUnprotectGroup (args : List Byte) (s : State) : Out := hostFrame .unprotectGroup actUnprotectGroup args s

end Sys2Proof.Machine
end

