-- ==== Sys2Proof/Machine/ResetEvents.lean ====
section
/-! DEFINITION. POWER_ON, RESET_INPUT_ASSERTED and RESET_INPUT_RELEASED (R38). -/

namespace Sys2Proof.Machine

/-- A power-on: every block at its power-on values (R38, log 13). -/
def execPowerOn (s : State) : Out := .next (powerUp s)

/-- The reset input is asserted: everything in flight ends at once; the outputs are off and the link answers nothing
while it stands (R38, log 12). -/
def execResetInputAsserted (s : State) : Out := .next (powerUp { s with resetIn := true })

/-- The reset input is released: the site is START with every block at its power-on values (R38). -/
def execResetInputReleased (s : State) : Out :=
  if s.resetIn then .next (powerUp { s with resetIn := false }) else .next s

end Sys2Proof.Machine
end

