-- ==== Sys2Proof/Machine/SiteCommands.lean ====
section
/-! DEFINITION. SITE-RESET, START-METERING, STOP-METERING, CLEAR-FAILSAFE, READ-LAMPS and CLEAR-AMBER-FAULT
(chapters 3 and 5). -/

namespace Sys2Proof.Machine

/-- SITE-RESET: refused with STATE in FAILSAFE (R50). -/
def actSiteReset : Act := fun _ _ s =>
  if s.site.state = .failsafe then (.refused .wrongState, s) else (.done [], siteToDark s)

def execSiteReset (args : List Byte) (s : State) : Out := hostFrame .siteReset actSiteReset args s

/-- START-METERING (R42). -/
def actStartMetering : Act := fun _ _ s =>
  match s.startCheck with
  | .passes => (.done [], enterStarting s)
  | .wrongState => (.refused .wrongState, s)
  | .noPlan => (.refused .noPlan, s)
  | .noLane => (.refused .conflict, s)

def execStartMetering (args : List Byte) (s : State) : Out := hostFrame .startMetering actStartMetering args s

/-- STOP-METERING (R45). -/
def actStopMetering : Act := fun _ _ s => (.done [], stopMetering s)

def execStopMetering (args : List Byte) (s : State) : Out := hostFrame .stopMetering actStopMetering args s

/-- CLEAR-FAILSAFE: only in FAILSAFE with every lamp sensed OFF (R49). -/
def actClearFailsafe : Act := fun _ _ s =>
  if s.site.state = .failsafe ∧ s.allSensedOff = true then (.done [], clearFailsafe s)
  else (.refused .wrongState, s)

def execClearFailsafe (args : List Byte) (s : State) : Out := hostFrame .clearFailsafe actClearFailsafe args s

/-- READ-LAMPS (R87). -/
def actReadLamps : Act := fun _ held s => (.done (s.lampsData held.lane), s)

def execReadLamps (args : List Byte) (s : State) : Out := hostFrame .readLamps actReadLamps args s

/-- CLEAR-AMBER-FAULT at one lane's amber lamp (R88). -/
def clearAmber (l : Lane) (s : State) : State :=
  s.modLamp l .amber (LampRec.clearNoticeOnly s.now (s.par .lampRetries))

/-- CLEAR-AMBER-FAULT (R88). -/
def actClearAmberFault : Act := fun _ held s => (.done [], forAll (lanesFor held.lane) clearAmber s)

def execClearAmberFault (args : List Byte) (s : State) : Out := hostFrame .clearAmberFault actClearAmberFault args s

end Sys2Proof.Machine
end

