-- ==== Sys2Proof/Machine/SiteEvents.lean ====
section
/-! DEFINITION. The site controller's events (R40, R44, R47, R86). -/

namespace Sys2Proof.Machine

/-- The lamp-test timer runs in LAMPTEST (R40). -/
def State.lampTestIn (s : State) : Option Nat :=
  if s.site.state = .lamptest then s.site.lampTestAt.map s.until else none

/-- LAMP_TEST_EXPIRY (R40). -/
def execLampTestExpiry (s : State) : Out := timed s.lampTestIn endLampTest s

/-- The warning timer runs in STARTING (R44). -/
def State.warningIn (s : State) : Option Nat :=
  if s.site.state = .starting then s.site.warningAt.map s.until else none

/-- WARNING_EXPIRY (R44). -/
def execWarningExpiry (s : State) : Out := timed s.warningIn enterMetering s

/-- The stop-flush timer runs in STOPPING once it is armed (R47). -/
def State.stopFlushIn (s : State) : Option Nat :=
  if s.site.state = .stopping then s.site.stopFlushAt.map s.until else none

/-- STOP_FLUSH_EXPIRY (R47). -/
def execStopFlushExpiry (s : State) : Out := timed s.stopFlushIn finishToDark s

/-- LAMP_FAILURE_REPORT (R86). -/
def execLampFailureReport (s : State) : Out :=
  taken (s.waiting isReport).isSome (fun t => takeReport (takeOff isReport t)) s

end Sys2Proof.Machine
end

