-- ==== Sys2Proof/Machine/Dispatch.lean ====
section
/-! DEFINITION. The one table from commands to their meanings. -/

namespace Sys2Proof.Machine

def exec (i : Instr) (s : State) : Host.Outcome State Fault Refusal :=
  match i with
  | .powerOn => Sys2Proof.Machine.execPowerOn s
  | .resetInputAsserted => Sys2Proof.Machine.execResetInputAsserted s
  | .resetInputReleased => Sys2Proof.Machine.execResetInputReleased s
  | .beginCmd args => Sys2Proof.Machine.execBegin args s
  | .getStatus args => Sys2Proof.Machine.execGetStatus args s
  | .takeNotice args => Sys2Proof.Machine.execTakeNotice args s
  | .setNoticeMask args => Sys2Proof.Machine.execSetNoticeMask args s
  | .siteReset args => Sys2Proof.Machine.execSiteReset args s
  | .setTime args => Sys2Proof.Machine.execSetTime args s
  | .pfxLane args => Sys2Proof.Machine.execPfxLane args s
  | .pfxPlan args => Sys2Proof.Machine.execPfxPlan args s
  | .pfxChannel args => Sys2Proof.Machine.execPfxChannel args s
  | .setLane args => Sys2Proof.Machine.execSetLane args s
  | .setPriorityLane args => Sys2Proof.Machine.execSetPriorityLane args s
  | .setChannel args => Sys2Proof.Machine.execSetChannel args s
  | .setTiming args => Sys2Proof.Machine.execSetTiming args s
  | .readConfig args => Sys2Proof.Machine.execReadConfig args s
  | .readChannel args => Sys2Proof.Machine.execReadChannel args s
  | .resetChannel args => Sys2Proof.Machine.execResetChannel args s
  | .startMetering args => Sys2Proof.Machine.execStartMetering args s
  | .stopMetering args => Sys2Proof.Machine.execStopMetering args s
  | .clearFailsafe args => Sys2Proof.Machine.execClearFailsafe args s
  | .readLamps args => Sys2Proof.Machine.execReadLamps args s
  | .clearAmberFault args => Sys2Proof.Machine.execClearAmberFault args s
  | .writePlan args => Sys2Proof.Machine.execWritePlan args s
  | .readPlan args => Sys2Proof.Machine.execReadPlan args s
  | .erasePlan args => Sys2Proof.Machine.execErasePlan args s
  | .selectPlan args => Sys2Proof.Machine.execSelectPlan args s
  | .protectGroup args => Sys2Proof.Machine.execProtectGroup args s
  | .unprotectGroup args => Sys2Proof.Machine.execUnprotectGroup args s
  | .pushOverride args => Sys2Proof.Machine.execPushOverride args s
  | .removeOverride args => Sys2Proof.Machine.execRemoveOverride args s
  | .readOverrides args => Sys2Proof.Machine.execReadOverrides args s
  | .mapFrom args => Sys2Proof.Machine.execMapFrom args s
  | .mapTo args => Sys2Proof.Machine.execMapTo args s
  | .mapSkip args => Sys2Proof.Machine.execMapSkip args s
  | .mapAssign args => Sys2Proof.Machine.execMapAssign args s
  | .readMap args => Sys2Proof.Machine.execReadMap args s
  | .streamLog args => Sys2Proof.Machine.execStreamLog args s
  | .stopStream args => Sys2Proof.Machine.execStopStream args s
  | .readLogState args => Sys2Proof.Machine.execReadLogState args s
  | .readCounts args => Sys2Proof.Machine.execReadCounts args s
  | .clearCounts args => Sys2Proof.Machine.execClearCounts args s
  | .readArbiter args => Sys2Proof.Machine.execReadArbiter args s
  | .undefinedCodeFrame code args => Sys2Proof.Machine.execUndefinedCodeFrame code args s
  | .badCheckFrame => Sys2Proof.Machine.execBadCheckFrame s
  | .frameGapTimeout => Sys2Proof.Machine.execFrameGapTimeout s
  | .lenOutOfRange len => Sys2Proof.Machine.execLenOutOfRange len s
  | .frameOverrun => Sys2Proof.Machine.execFrameOverrun s
  | .prefixHoldExpiry => Sys2Proof.Machine.execPrefixHoldExpiry s
  | .linkLossExpiry => Sys2Proof.Machine.execLinkLossExpiry s
  | .recordFrameCompletion => Sys2Proof.Machine.execRecordFrameCompletion s
  | .detectorInputChange c occupied => Sys2Proof.Machine.execDetectorInputChange c occupied s
  | .actuation c => Sys2Proof.Machine.execActuation c s
  | .clearing c => Sys2Proof.Machine.execClearing c s
  | .stuckOnExpiry c => Sys2Proof.Machine.execStuckOnExpiry c s
  | .stuckOffExpiry c => Sys2Proof.Machine.execStuckOffExpiry c s
  | .noShowClaim l => Sys2Proof.Machine.execNoShowClaim l s
  | .mergeSettleExpiry => Sys2Proof.Machine.execMergeSettleExpiry s
  | .queueOnReached l => Sys2Proof.Machine.execQueueOnReached l s
  | .queueOffReached l => Sys2Proof.Machine.execQueueOffReached l s
  | .spillOnReached => Sys2Proof.Machine.execSpillOnReached s
  | .spillOffReached => Sys2Proof.Machine.execSpillOffReached s
  | .occupancyPeriodClose => Sys2Proof.Machine.execOccupancyPeriodClose s
  | .preemptionInputChange asserted => Sys2Proof.Machine.execPreemptionInputChange asserted s
  | .preemptionAssertion => Sys2Proof.Machine.execPreemptionAssertion s
  | .preemptionRelease => Sys2Proof.Machine.execPreemptionRelease s
  | .overrideLimitExpiry kind source => Sys2Proof.Machine.execOverrideLimitExpiry kind source s
  | .arbiterGoverningChange => Sys2Proof.Machine.execArbiterGoverningChange s
  | .laneGoverningChange l => Sys2Proof.Machine.execLaneGoverningChange l s
  | .lampTestExpiry => Sys2Proof.Machine.execLampTestExpiry s
  | .warningExpiry => Sys2Proof.Machine.execWarningExpiry s
  | .stopFlushExpiry => Sys2Proof.Machine.execStopFlushExpiry s
  | .lampFailureReport => Sys2Proof.Machine.execLampFailureReport s
  | .lampSenseChange l col on => Sys2Proof.Machine.execLampSenseChange l col on s
  | .provingWindowEnd l col => Sys2Proof.Machine.execProvingWindowEnd l col s
  | .flashOnPhaseEnd l col => Sys2Proof.Machine.execFlashOnPhaseEnd l col s
  | .strayMeasureExpiry l col => Sys2Proof.Machine.execStrayMeasureExpiry l col s
  | .lossOfProof l col => Sys2Proof.Machine.execLossOfProof l col s
  | .minGreenElapsed l => Sys2Proof.Machine.execMinGreenElapsed l s
  | .greenDurationElapsed l => Sys2Proof.Machine.execGreenDurationElapsed l s
  | .amberTimeElapsed l => Sys2Proof.Machine.execAmberTimeElapsed l s
  | .minRedElapsed l => Sys2Proof.Machine.execMinRedElapsed l s
  | .redGraceExpiry l => Sys2Proof.Machine.execRedGraceExpiry l s
  | .releaseCut l => Sys2Proof.Machine.execReleaseCut l s
  | .releaseEnd l => Sys2Proof.Machine.execReleaseEnd l s
  | .request l => Sys2Proof.Machine.execRequest l s
  | .withdrawal l => Sys2Proof.Machine.execWithdrawal l s
  | .mergeMonitorChange => Sys2Proof.Machine.execMergeMonitorChange s
  | .intervalExpiry => Sys2Proof.Machine.execIntervalExpiry s
  | .grant => Sys2Proof.Machine.execGrant s
  | .advanceActuation => Sys2Proof.Machine.execAdvanceActuation s
  | .reservationExpiry => Sys2Proof.Machine.execReservationExpiry s
  | .replyFrameTransmitted => Sys2Proof.Machine.execReplyFrameTransmitted s

end Sys2Proof.Machine
end

