-- ==== Sys2Proof/Machine/Idle.lean ====
section
/-! DEFINITION. What the part does by itself on an empty queue: the events that are due, the bytes and frames on its
lines, and the passing of a tenth (log 1, 2, 5, 18). -/

namespace Sys2Proof.Machine

/-- The tenths until an event of the table is due as the state stands; none for a row that only the outside world can
send, and for an event whose condition does not hold. -/
def dueIn (i : Instr) (s : State) : Option Nat :=
  match i with
  | .frameGapTimeout => s.gapIn
  | .prefixHoldExpiry => s.prefixIn
  | .linkLossExpiry => s.lossIn
  | .actuation c => s.actuationIn c
  | .clearing c => s.clearingIn c
  | .stuckOnExpiry c => s.stuckOnIn c
  | .stuckOffExpiry c => s.stuckOffIn c
  | .noShowClaim l => atOnce (s.waiting (isClaim l)).isSome
  | .mergeSettleExpiry => s.settleIn
  | .queueOnReached l => s.queueOnIn l
  | .queueOffReached l => s.queueOffIn l
  | .spillOnReached => s.spillOnIn
  | .spillOffReached => s.spillOffIn
  | .occupancyPeriodClose => s.periodIn
  | .preemptionAssertion => s.preemptIn true
  | .preemptionRelease => s.preemptIn false
  | .overrideLimitExpiry k src => s.limitIn k src
  | .arbiterGoverningChange => atOnce (s.waiting isArbiterGov).isSome
  | .laneGoverningChange l => atOnce (s.waiting (isLaneGov l)).isSome
  | .lampTestExpiry => s.lampTestIn
  | .warningExpiry => s.warningIn
  | .stopFlushExpiry => s.stopFlushIn
  | .lampFailureReport => atOnce (s.waiting isReport).isSome
  | .provingWindowEnd l col => s.windowIn l col
  | .flashOnPhaseEnd l col => s.phaseIn l col
  | .strayMeasureExpiry l col => s.strayIn l col
  | .lossOfProof l col => s.lostIn l col
  | .minGreenElapsed l => s.minGreenIn l
  | .greenDurationElapsed l => s.durationIn l
  | .amberTimeElapsed l => s.amberIn l
  | .minRedElapsed l => s.minRedIn l
  | .redGraceExpiry l => s.graceIn l
  | .releaseCut l => atOnce (s.waiting (isBusyEntry l)).isSome
  | .releaseEnd l => atOnce (s.waiting (isReleaseEnd l)).isSome
  | .request l => atOnce (s.requestFirst l)
  | .withdrawal l => atOnce (s.withdrawalFirst l)
  | .mergeMonitorChange => atOnce (s.waiting isMergeChange).isSome
  | .intervalExpiry => s.intervalIn
  | .grant => atOnce s.canGrant
  | .advanceActuation => atOnce (s.waiting isAdvance).isSome
  | .reservationExpiry => s.reserveIn
  | _ => none

/-- The events of one lane. -/
def laneEvents (l : Lane) : List Instr :=
  [.noShowClaim l, .queueOnReached l, .queueOffReached l, .laneGoverningChange l, .minGreenElapsed l,
    .greenDurationElapsed l, .amberTimeElapsed l, .minRedElapsed l, .redGraceExpiry l, .releaseCut l, .releaseEnd l,
    .request l, .withdrawal l]

/-- The events of one lamp. -/
def lampEvents (l : Lane) (col : Colour) : List Instr :=
  [.provingWindowEnd l col, .flashOnPhaseEnd l col, .strayMeasureExpiry l col, .lossOfProof l col]

/-- The events of one channel. -/
def chanEvents (c : Chan) : List Instr := [.actuation c, .clearing c, .stuckOnExpiry c, .stuckOffExpiry c]

/-- The events that belong to no lane, lamp or channel. -/
def partEvents : List Instr :=
  [.frameGapTimeout, .prefixHoldExpiry, .linkLossExpiry, .mergeSettleExpiry, .spillOnReached, .spillOffReached,
    .occupancyPeriodClose, .preemptionAssertion, .preemptionRelease, .arbiterGoverningChange, .lampTestExpiry,
    .warningExpiry, .stopFlushExpiry, .lampFailureReport, .mergeMonitorChange, .intervalExpiry, .grant,
    .advanceActuation, .reservationExpiry]

/-- Every event that the part itself can bring about in this state. -/
def State.ownEvents (s : State) : List Instr :=
  partEvents ++ allLanes.flatMap laneEvents ++
  allLanes.flatMap (fun l => [Colour.red, .amber, .green].flatMap (lampEvents l)) ++ allSixteen.flatMap chanEvents ++
  s.ovr.entries.map (fun e => .overrideLimitExpiry e.kind e.source)

/-- The events that are due now. -/
def State.dueNow (s : State) : List Instr := s.ownEvents.filter (fun i => dueIn i s == some 0)

/-- What can come next on an empty queue. -/
inductive Move where
  | event (i : Instr)
  /-- the receiver takes the next byte of the host's line -/
  | byte
  /-- a tenth passes -/
  | tenth
  deriving DecidableEq, Repr

/-- What the lines may bring at any moment: the next byte received, the end of the frame being sent (log 17, 18). -/
def State.lineMoves (s : State) : List Move :=
  (if s.rxLine.isEmpty then [] else [.byte]) ++
  (if s.inFlight then [.event .recordFrameCompletion] else []) ++
  (if s.link.sending.isSome then [.event .replyFrameTransmitted] else [])

/-- What can come next: the events due now, or with none due the passing of a tenth; and what the lines bring. -/
def State.moves (s : State) : List Move :=
  (if s.dueNow.isEmpty then [.tenth] else s.dueNow.map .event) ++ s.lineMoves

/-- A byte that arrives after a gap finds the frame in progress broken off (R163). -/
def breakAtGap (s : State) : State := if s.gapIn = some 0 then discardAll s else s

/-- The receiver takes the next byte of the host's line (R163, log 18). -/
def takeByte (s : State) : Out :=
  match s.rxLine with
  | [] => .next s
  | b :: rest =>
    let u := breakAtGap s
    let r := receiveByte u.link.receiver b
    let t := { u with rxLine := rest }.modLink (fun k => { k with receiver := r.1, lastByte := s.now })
    match r.2 with
    | .nothing => .next t
    | .badLength len => exec (.lenOutOfRange len) t
    | .frame len body => exec (frameInstr len body) t

def runMove (m : Move) (s : State) : Out :=
  match m with
  | .event i => exec i s
  | .byte => takeByte s
  | .tenth => .next (advance 1 s)

/-- Of the moves that come together one is picked by a free value (log 5). -/
def pickMove (ms : List Move) (n : Nat) : Move := ms.getD (Config.freePick n % ms.length) .tenth

/-- While the reset input is asserted the part stands still and the host's bytes are lost (R38, R163, log 12, 35). -/
def idleInReset (s : State) : State := { s with rxLine := s.rxLine.tail }

/-- On an empty queue: the one thing that can come next, or one of several by a free value (log 1, 5). -/
def idle (s : State) : Out :=
  if s.resetIn then .next (idleInReset s)
  else
    match s.moves with
    | [m] => runMove m s
    | ms => runMove (pickMove ms s.freeCount) { s with freeCount := s.freeCount + 1 }

end Sys2Proof.Machine
end

