-- ==== Sys2Proof/Machine/Observe.lean ====
section
/-! DEFINITION. The words the statements are written in: the parts of the state and what agrees in them, the replies
outstanding on the link, and when a command frame passes the checks of the link (R165). -/

namespace Sys2Proof.Machine

/-- The parts of the state. `env` is what no block's operation changes: the queue, the clock, site time, the reset
input, the host's line and the count of free values. -/
inductive Part where
  | env
  | site
  | desc
  | chans
  | merge
  | monitors
  | occupancy
  | lanes
  | lamps
  | arb
  | plans
  | entries
  | preempt
  | map
  | selection
  | records
  | counts
  | notices
  | stream
  | link
  | handoffs
  deriving DecidableEq

/-- The two states agree in a part. -/
def agree (s t : State) : Part → Prop
  | .env => t.pending = s.pending ∧ t.now = s.now ∧ t.siteTime = s.siteTime ∧ t.resetIn = s.resetIn ∧
      t.rxLine = s.rxLine ∧ t.freeCount = s.freeCount
  | .site => t.site = s.site
  | .desc => t.desc = s.desc
  | .chans => t.det.chans = s.det.chans
  | .merge => t.det.merge = s.det.merge
  | .monitors => t.det.queue = s.det.queue ∧ t.det.spill = s.det.spill
  | .occupancy => t.det.occupancy = s.det.occupancy ∧ t.det.periodFrom = s.det.periodFrom
  | .lanes => t.lanes = s.lanes
  | .lamps => t.lamps = s.lamps
  | .arb => t.arb = s.arb
  | .plans => t.plans = s.plans
  | .entries => t.ovr.entries = s.ovr.entries
  | .preempt => t.ovr.preInput = s.ovr.preInput ∧ t.ovr.preLevel = s.ovr.preLevel ∧ t.ovr.preFrom = s.ovr.preFrom
  | .map => t.sel.map = s.sel.map ∧ t.sel.lastBand = s.sel.lastBand
  | .selection => t.sel.sel = s.sel.sel
  | .records => t.log.records = s.log.records ∧ t.log.lost = s.log.lost
  | .counts => t.log.lanes = s.log.lanes ∧ t.log.slip = s.log.slip
  | .notices => t.link.notices = s.link.notices
  | .stream => t.link.stream = s.link.stream
  | .link => { t.link with notices := 0, stream := none } = { s.link with notices := 0, stream := none }
  | .handoffs => t.handoffs = s.handoffs

/-- `t` differs from `s` at most in the parts listed: the frame of an operation. -/
def Only (bs : List Part) (s t : State) : Prop := ∀ b, b ∉ bs → agree s t b

/-- The replies not yet sent whole, oldest first: the one being sent, then those waiting (R165). -/
def Link.outstanding (k : Link) : List Reply := k.sending.toList ++ k.waiting

/-- A frame of a code and arguments is taken by the link and passes its checks 3, 4 and 5 (R163, R165). -/
def State.passes (s : State) (c : Cmd) (args : List Byte) : Bool :=
  !s.resetIn && decide (s.link.waiting.length < 8) && decide (args.length = c.argBytes) &&
    (c.isPrefix || s.link.held.fits c) && (!s.startingUp || c.atStart)

/-- The end frame that an answered frame brings, if a stream is in progress (R159). -/
def State.endFrames (s : State) : List Reply :=
  match s.link.stream with
  | some st => [{ code := 0x70, status := s.status .accepted, data := bytes16 st.delivered }]
  | none => []

/-- A status byte with this DISCARD bit (R166). -/
def State.statusWith (s : State) (discard : Bool) (v : Verdict) : Byte :=
  s.startingFlag ||| (if discard then 0x40 else 0x00) ||| v.bits ||| s.attnFlag

/-- A command frame is taken and answered `a`; before its answer the state is `f` of what its opening leaves (R165). -/
def Answers (o : Out) (c : Cmd) (s : State) (a : Answer) (f : State → State) : Prop :=
  o = .next (answer c.code a (f (openFrame c s)))

/-- Checks 3, 4 and 5 of a command frame, in their order: the length, the held prefixes, the start-up. A map command
or READ-MAP that fails one ends its selection (R151, R165; the prefix codes pass check 4, log 27). -/
def LinkChecks (s : State) (c : Cmd) (args : List Byte) : Prop :=
  s.resetIn = false → s.link.waiting.length < 8 →
    (args.length ≠ c.argBytes → Answers (exec (c.instr args) s) c s .range (endIfMap c)) ∧
    (args.length = c.argBytes → c.isPrefix = false → s.link.held.fits c = false →
      Answers (exec (c.instr args) s) c s (.refused .badPrefix) (endIfMap c)) ∧
    (args.length = c.argBytes → (c.isPrefix = true ∨ s.link.held.fits c = true) → s.startingUp = true →
      c.atStart = false → Answers (exec (c.instr args) s) c s (.refused .wrongState) (endIfMap c))

/-- The configuration window is open (R6). -/
def State.configurable (s : State) : Prop := s.site.state = .dark ∨ s.site.state = .failsafe

/-- `t` holds the power-on values in every block; the inputs are as they read in `s`, an occupied, asserted or lit
one a pending change or a running stray measure (R17, R36, R38, R74, R90, R115, R128, R144, R153, R162, R172, R173). -/
def PoweredUp (s t : State) : Prop :=
  t.siteTime = 0 ∧ t.site = State.reset.site ∧ t.desc = State.reset.desc ∧ t.lanes = Quad.all LaneRec.reset ∧
  t.arb = Arbiter.reset ∧ t.plans = PlanStore.reset ∧ t.sel = State.reset.sel ∧ t.log = PassLog.reset ∧
  t.link = Link.reset ∧ t.handoffs = [] ∧ t.ovr.entries = [] ∧ t.ovr.preLevel = false ∧
  t.ovr.preInput = s.ovr.preInput ∧ t.ovr.preFrom = (if s.ovr.preInput then some t.now else none) ∧
  t.lamps.sign = .off ∧
  (∀ c, t.chan c = { Channel.reset with
    input := (s.chan c).input, changeFrom := if (s.chan c).input then some t.now else none }) ∧
  (∀ l col, t.lamp l col = { LampRec.reset with
    sensed := (s.lamp l col).sensed
    proving := if (s.lamp l col).sensed then .proving else .proven
    window := if (s.lamp l col).sensed then some t.now else none }) ∧
  t.det.merge.state = .clear ∧ t.det.occupancy = none ∧ t.det.periodFrom = t.now ∧
  (∀ l, t.det.queue.get l = Monitor.reset) ∧ t.det.spill = Monitor.reset

/-- The stack's content became `es`: if that changed the governing entry, OVERRIDE is raised, the entry is handed to the
arbiter and the lanes, and the sign follows; else nothing but the stack changed (R130, R51). -/
def StackBecomes (es : List Entry) (s t : State) : Prop :=
  Only [.entries, .notices, .handoffs, .lamps] s t ∧ t.ovr.entries = es ∧
  (t.topGov = s.topGov → t.link.notices = s.link.notices ∧ t.handoffs = s.handoffs ∧ t.lamps = s.lamps) ∧
  (t.topGov ≠ s.topGov →
    t.link.notices = s.link.notices ||| Notice.override.bit ∧
    t.handoffs = s.handoffs ++ [.arbiterGov t.topGov, .laneGov 0 t.topGov, .laneGov 1 t.topGov, .laneGov 2 t.topGov,
      .laneGov 3 t.topGov] ∧
    t.lamps.heads = s.lamps.heads ∧ t.lamps.sign = signFor s.site.state t.topGov)

/-- What a change of the governing entry hands on: the entry, to the arbiter and to every lane (R130). -/
def govSignals (s t : State) : List Handoff :=
  if t.topGov = s.topGov then []
  else [.arbiterGov t.topGov, .laneGov 0 t.topGov, .laneGov 1 t.topGov, .laneGov 2 t.topGov, .laneGov 3 t.topGov]

/-- What the stack holds after an automatic push (R136). -/
def afterAutomaticPush (e : Entry) (es : List Entry) : List Entry :=
  if es.any (fun f => f.isId e.kind e.source) then renewLimit e es
  else if es.length < 4 then placeEntry e es
  else
    match es.getLast? with
    | some bottom => if rankOf bottom.kind < rankOf e.kind then placeEntry e es.dropLast else es
    | none => es

/-- A lane's record as it enters AMBER, RED, OPEN from RED, or OFF (R54, R56, R62 to R65, R71). -/
def LaneRec.toAmber (now : Nat) (r : LaneRec) : LaneRec :=
  { r with state := .amber, entryAt := now, minRed := false, onsetAt := none }

def LaneRec.toRed (now : Nat) (r : LaneRec) : LaneRec :=
  { r with state := .red, entryAt := now, minRed := false, onsetAt := none }

def LaneRec.toOpen (now : Nat) (r : LaneRec) : LaneRec :=
  { r with
    state := .opened, entryAt := now, minRed := false, onsetAt := some now, grant := none, size := none, greenFor := none }

def LaneRec.toOff (now : Nat) (r : LaneRec) : LaneRec :=
  { r with
    state := .off, entryAt := now, minRed := false, onsetAt := none, grant := none, size := none, greenFor := none
    passages := 0, cut := false, inQueue := false }

/-- The three lamps of a head are commanded as the aspect of a lane state says (R53). -/
def Head.shows (h : Head) (st : LaneState) : Prop :=
  h.red.commanded = (aspectOf st).red ∧ h.amber.commanded = (aspectOf st).amber ∧
    h.green.commanded = (aspectOf st).green

/-- One lane's record became `r` and its head shows `st`; no other lane and no other head changed. -/
def LaneBecomes (l : Lane) (r : LaneRec) (st : LaneState) (s t : State) : Prop :=
  t.lane l = r ∧ (t.head l).shows st ∧ (∀ m, m ≠ l → t.lane m = s.lane m ∧ t.head m = s.head m)

/-- The record of a cut release of the lane, as its green ends: site time, active slot, the grant, and the shortfall,
absent without a GOOD STOP channel (R61, R154). -/
def State.cutRecord (s : State) (l : Lane) : PassRec :=
  { time := s.siteTime, lane := l, kind := .cut, plan := s.plans.active, grant := (s.lane l).grant
    shortfall := if s.goodStop l then (s.lane l).size.map (fun n => n - (s.lane l).passages) else none }

/-- The lane's green has ended: of a cut release one CUT record is written and one cut counted; of any other, nothing of
the log, the counters and the link changed (R61, R160). -/
def CutWritten (l : Lane) (s t : State) : Prop :=
  ((s.lane l).cut = false → t.log = s.log ∧ t.link = s.link) ∧
  ((s.lane l).cut = true → ∀ w, w = writeRec (s.cutRecord l) s →
    t.log = { w.log with slip := { w.log.slip with cuts := w.log.slip.cuts + 1 } } ∧ t.link = w.link)

/-- What a lane whose green ends hands the arbiter: the end of the release of its grant (R61). -/
def LaneRec.releaseEnds (l : Lane) (r : LaneRec) : List Handoff :=
  match r.grant with
  | some g => [.releaseEnd l g]
  | none => []

/-! ### What the consumers of the detector channels make of a change (R29 to R34, R67 to R69) -/

/-- What the merge monitor hands on: a change to the arbiter, an entry to BUSY also to every lane (R31). -/
def mergeSignals (s t : State) : List Handoff :=
  if t.det.merge.state = s.det.merge.state then []
  else
    .mergeChange ::
      (if t.det.merge.state = .busy then [.busyEntry 0, .busyEntry 1, .busyEntry 2, .busyEntry 3] else [])

/-- The merge monitor has moved from where it stood in `s` as the MERGE channels read in `t` (R31). -/
def MergeFollows (s t : State) : Prop :=
  (t.anyGood .merge = false → t.det.merge = { state := .clear, settleFrom := none }) ∧
  (t.anyGood .merge = true → t.anyReads .merge = true → t.det.merge = { state := .busy, settleFrom := none }) ∧
  (t.anyGood .merge = true → t.anyReads .merge = false → s.det.merge.state = .busy →
    t.det.merge =
      (if t.par .mergeSettle = 0 then { state := .clear, settleFrom := none }
        else { state := .settling, settleFrom := some t.now })) ∧
  (t.anyGood .merge = true → t.anyReads .merge = false → s.det.merge.state ≠ .busy → t.det.merge = s.det.merge)

/-- A monitor `m` became `n` as its reading took a level: a spell of that level runs on, any other is discarded and one
of that level starts now (R32). -/
def SpellFollows (now : Nat) (level : Bool) (m n : Monitor) : Prop :=
  n.state = m.state ∧ (∀ sp, m.spell = some sp → sp.occupied = level → n.spell = some sp) ∧
  ((∀ sp, m.spell = some sp → sp.occupied ≠ level) → n.spell = some { occupied := level, since := now })

/-- The queue and spill monitors have taken the readings of `t`; one that does not run is WATCHING with its spells
discarded (R32, R34). -/
def MonitorsFollow (s t : State) : Prop :=
  (∀ l,
    (∀ c, t.site.state = .metering → t.sequenced l = true → t.chanFor .queue l = some c →
      SpellFollows t.now (t.chan c).reading (s.det.queue.get l) (t.det.queue.get l)) ∧
    (t.site.state ≠ .metering ∨ t.sequenced l = false ∨ t.chanFor .queue l = none →
      t.det.queue.get l = { state := .watching, spell := none })) ∧
  (t.site.state = .metering → (∃ c, (t.chan c).role = .spill) →
    SpellFollows t.now (t.anyReads .spill) s.det.spill t.det.spill) ∧
  (t.site.state ≠ .metering ∨ (∀ c, (t.chan c).role ≠ .spill) → t.det.spill = { state := .watching, spell := none })

/-- What a lane hands the arbiter as the state stands: a request, a withdrawal, or nothing; nothing while its last one
is on its way (R67, R68, R69, log 11). -/
def State.asks (s : State) (l : Lane) : List Handoff :=
  if s.handoffs.any (isAsking l) then []
  else if (s.lane l).state ≠ .red then []
  else if (s.lane l).inQueue = true then (if s.hasDemand l then [] else [.withdrawal l])
  else if (s.lane l).minRed = true ∧ s.hasDemand l = true ∧ s.site.state = .metering ∧ s.arb.own ≠ .shut ∧
    (s.desc.priority = some l ∨ 0 < s.weight l) then [.request l]
  else []

/-- What waits in `t` is `hs` and then what each lane asks. -/
def Asked (hs : List Handoff) (t : State) : Prop :=
  t.handoffs = hs ++ [0, 1, 2, 3].flatMap (fun l => { t with handoffs := hs }.asks l)

/-- Every consumer of the channels' readings has taken them as they are in `t`; `hs` waited before. -/
def ReadingsTaken (hs : List Handoff) (s t : State) : Prop :=
  MergeFollows s t ∧ MonitorsFollow s t ∧ Asked (hs ++ mergeSignals s t) t

/-! ### The arbiter's hold and its settling (R92, R107) -/

/-- The hold is derived: RESERVE for the priority lane before FLUSH for the lane of a governing single-lane FLUSH before
NONE (R107). -/
def HoldDerived (t : State) : Prop :=
  (t.arb.reservation ≠ .none → t.arb.holdCause = .reserve ∧ t.arb.holdLane = t.desc.priority) ∧
  (∀ g l, t.arb.reservation = .none → t.site.state = .metering → t.arb.gov = some g → g.kind = .flush →
    g.lanes = some l → t.arb.holdCause = .flush ∧ t.arb.holdLane = some l) ∧
  (t.arb.reservation = .none →
    (t.site.state ≠ .metering ∨ ∀ g, t.arb.gov = some g → g.kind = .flush → g.lanes = none) →
    t.arb.holdCause = .none ∧ t.arb.holdLane = none)

/-- The arbiter of `s` has settled to HELD, YIELD or FREE, an entry to YIELD counting one yield (R92). -/
def SettledFrom (s t : State) : Prop :=
  t.arb.own = (if t.arb.holdCause ≠ .none ∧ t.arb.holdLane ≠ t.arb.openRelease.map Prod.fst then .held
    else if t.det.merge.state ≠ .clear then .yielding else .free) ∧
  t.arb.owner = (if t.arb.own = .held then t.arb.holdLane else none) ∧
  t.log.slip = (if t.arb.own = .yielding ∧ s.arb.own ≠ .yielding then
    { s.log.slip with yields := s.log.slip.yields + 1 } else s.log.slip)

/-! ### What is broken off or found at a change -/

/-- What a broken-off frame and an overrun leave: the receiver HUNTING, no prefix and no selection, DISCARD if either was
held (R163). -/
def State.brokenOff (s : State) : State :=
  { s with
    link := { s.link with
      receiver := .hunting, held := HeldSet.empty
      discard := s.link.discard || s.link.held.any || s.sel.sel != .none }
    sel := { s.sel with sel := .none } }

/-- A lamp lit against a command of OFF whose stray measure has run for `n` tenths or more (R14, R80). -/
def LampRec.strayFor (n now : Nat) (r : LampRec) : Bool :=
  r.commanded == .off && r.sensed &&
    (match r.window with
     | some t0 => decide (t0 + n ≤ now)
     | none => false)

end Sys2Proof.Machine
end

