-- ==== Sys2Proof/Safety.lean ====
section
/-! DEFINITION. What must always hold of the part: the spec's own invariants, as predicates on the state. -/

namespace Sys2Proof.Machine

/-! ### The override stack (R131) -/

/-- Ranks do not increase from the top down (R130, R131). -/
def ranksFall (es : List Entry) : Prop := es.Pairwise (fun e f => rankOf f.kind ≤ rankOf e.kind)

/-- No two entries of the same kind and source (R131). -/
def identitiesDiffer (es : List Entry) : Prop := es.Pairwise (fun e f => e.sameId f = false)

/-- At most four entries, ordered by rank, no two of one identity (R131). -/
def State.stackSound (s : State) : Prop :=
  s.ovr.entries.length ≤ stackRoom ∧ ranksFall s.ovr.entries ∧ identitiesDiffer s.ovr.entries

/-! ### The passage log (R155) -/

/-- The log holds at most 256 records and the lost count stays within its sixteen bits (R155). -/
def State.logSound (s : State) : Prop := s.log.records.length ≤ logRoom ∧ s.log.lost ≤ 65535

/-! ### The plan store (R116, R121) -/

/-- Every slot that is not EMPTY holds a valid record (R116). -/
def State.plansValid (s : State) : Prop := ∀ (i : Slot) (p : Plan), s.slot i = some p → p.valid = true

/-- The active and the staged slot name slots that hold plans, and they differ (R121). -/
def State.plansInUse (s : State) : Prop :=
  (∀ i, s.plans.active = some i → (s.slot i).isSome = true) ∧
  (∀ i, s.plans.staged = some i → (s.slot i).isSome = true ∧ s.plans.active ≠ some i)

/-! ### The heads (R53, R75, R77) -/

/-- A head is not commanded to show red and green together, and only its amber lamp is commanded FLASH (R53, R75). -/
def Head.commandSound (h : Head) : Prop :=
  ¬(h.red.commanded = .on ∧ h.green.commanded = .on) ∧ h.red.commanded ≠ .flash ∧ h.green.commanded ≠ .flash

def State.headsSound (s : State) : Prop := ∀ l : Lane, (s.head l).commandSound

/-! ### The merge (R92, R103) -/

/-- A lane in GREEN holds the grant of the open release (R103). -/
def State.greenOwned (s : State) : Prop :=
  ∀ l : Lane, (s.lane l).state = .green → ∃ g, (s.lane l).grant = some g ∧ s.arb.openRelease = some (l, g)

/-- A release end on its way is the open release's, its lane has left GREEN, and there is at most one (R106). -/
def State.endsOwned (s : State) : Prop :=
  (∀ l g, Handoff.releaseEnd l g ∈ s.handoffs → s.arb.openRelease = some (l, g) ∧ (s.lane l).state ≠ .green) ∧
  (s.handoffs.countP (fun h => allLanes.any (fun l => isReleaseEnd l h))) ≤ 1

/-- The merge is in one hand: what R103 rests on. -/
def State.mergeSound (s : State) : Prop := s.greenOwned ∧ s.endsOwned

/-- At most one lane is in GREEN (R103). -/
def State.oneGreen (s : State) : Prop := ∀ l m : Lane, (s.lane l).state = .green → (s.lane m).state = .green → l = m

/-- A non-priority lane's credit never exceeds its weight in the active plan (R101); the priority lane holds none. -/
def State.creditsSound (s : State) : Prop :=
  ∀ l : Lane, s.arb.credit.get l ≤ (if s.desc.priority = some l then 0 else s.weight l)

/-- What SHUT means (R92). -/
def Arbiter.shutSound (a : Arbiter) : Prop :=
  a.own = .shut →
    a.owner = none ∧ a.queue = [] ∧ a.prioWaiting = false ∧ a.holdCause = .none ∧ a.holdLane = none ∧
      a.reservation = .none ∧ a.armed = none ∧ a.elapsed = 0 ∧ a.expired = false

/-- The arbiter is SHUT in every site state except METERING, and SHUT means what R92 says (R37, R92, R93). -/
def State.arbiterSound (s : State) : Prop :=
  (s.site.state ≠ .metering → s.arb.own = .shut) ∧ s.arb.shutSound

/-! ### The detector channels (R18) -/

/-- A channel has a fault cause exactly while it is not GOOD, the cause fits its health (R18), and a channel of role
NONE is GOOD (R19). -/
def Channel.healthSound (r : Channel) : Prop :=
  (r.health = .good ↔ r.cause = none) ∧ (r.health = .stuckOff ↔ r.cause = some .noActuation) ∧
    (r.role = .none → r.health = .good)

def State.channelsSound (s : State) : Prop := ∀ c : Chan, (s.chan c).healthSound

/-! ### The link (R167, R168) -/

/-- The prefix-hold time runs exactly while a prefix is held (R167). -/
def State.prefixSound (s : State) : Prop := s.link.held.since.isSome = s.link.held.any

/-! ### The site timing record (R7) -/

/-- Every parameter lies in its range (R7). -/
def State.timingSound (s : State) : Prop := ∀ p : Param, p.inRange (s.par p) = true

/-- Every invariant together. -/
structure State.sound (s : State) : Prop where
  stack : s.stackSound
  log : s.logSound
  plansValid : s.plansValid
  plansInUse : s.plansInUse
  heads : s.headsSound
  merge : s.mergeSound
  credits : s.creditsSound
  arbiter : s.arbiterSound
  channels : s.channelsSound
  held : s.prefixSound
  timing : s.timingSound

end Sys2Proof.Machine
end

