-- ==== Sys2Proof/Certificates/Slice0/Obligations.lean ====
section
/-! DEFINITION. The statements for the provers. A command frame's statement gives, through `Answers`, its answer and the
state before the answer in terms of what the opening of the frame leaves; the opening and the answer have statements of
their own. -/

open Sys2Proof Sys2Proof.Machine

/-! ### The machine -/

/-- A step takes the command at the front of the queue (log 1). -/
def Obligations.StepTakesTheFrontCommand : Prop :=
  ∀ (c : Instr) (rest : List Instr) (s : State),
    step { s with pending := c :: rest } = exec c { s with pending := rest }

/-- No command and no step stops: each answers a next state. A command that only reads, and passes the link's checks,
is accepted with data (R16, R28, R87, R114, R141, R152, R171). -/
def Obligations.EveryCommandAndEveryStepAnswersANextState : Prop :=
  (∀ (i : Instr) (s : State), ∃ t, exec i s = .next t) ∧ (∀ s : State, ∃ t, step s = .next t) ∧
  (∀ (s : State) (c : Cmd),
    c = .getStatus ∨ c = .readConfig ∨ c = .readChannel ∨ c = .readLamps ∨ c = .readOverrides ∨ c = .readMap ∨
      c = .readArbiter →
    s.passes c [] = true →
    ∃ data u, exec (c.instr []) s = .next (answer c.code (.done data) u) ∧
      (u = openFrame c s ∨ (c = .readArbiter ∧ u = { openFrame c s with freeCount := s.freeCount + 1 })))

/-- On an empty queue the part runs by itself (log 1, 2, 5): the one thing that is due, or a tenth, in which site time
rises by 1 and wraps (R172), the times of channels (for a channel of role NONE too, log 24), arbiter and entries move,
and a lamp in FLASH whose sense reads ON in its on-phase is proved (R79).
A row given before its moment lets the missing tenths pass and is then taken; a row whose condition does not hold
has no effect (log 3, 4). -/
def Obligations.ThePartRunsByItself : Prop :=
  (∀ s : State, s.pending = [] → s.resetIn = false →
    (∀ i, s.moves = [.event i] → step s = exec i s) ∧
    (s.dueNow = [] → s.lineMoves = [] →
      ∃ t, step s = .next t ∧ t.now = s.now + 1 ∧ t.siteTime = s.siteTime + 1 ∧
        (s.siteTime.toNat = 16777215 → t.siteTime.toNat = 0) ∧
        t.pending = s.pending ∧ t.resetIn = s.resetIn ∧ t.rxLine = s.rxLine ∧ t.freeCount = s.freeCount ∧
        Only [.env, .chans, .lamps, .arb, .entries] s t ∧
        t.lamps.sign = s.lamps.sign ∧ t.lamps.signFrom = s.lamps.signFrom ∧
        (∀ l col r, r = s.lamp l col →
          (∀ e, r.commanded = .flash → r.sensed = true → r.proving = .proving → r.phaseEnd = some e → e ≤ s.now + 6 →
            t.lamp l col = { r with proving := .proven, phaseSeen := true }) ∧
          (r.commanded ≠ .flash ∨ r.sensed = false ∨ r.proving ≠ .proving ∨
            (∀ e, r.phaseEnd = some e → s.now + 6 < e) → t.lamp l col = r)) ∧
        (∀ c, t.chan c = { s.chan c with
          contOccupied := if (s.chan c).occupied then min 65535 ((s.chan c).contOccupied + 1) else (s.chan c).contOccupied
          sinceActuation := if s.site.state = .metering ∧ (s.chan c).health = .good then
              min 65535 ((s.chan c).sinceActuation + 1) else (s.chan c).sinceActuation
          occupiedPeriod := if (s.chan c).role = .mainline ∧ (s.chan c).reading = true then
              min 65535 ((s.chan c).occupiedPeriod + 1) else (s.chan c).occupiedPeriod }) ∧
        t.arb = { s.arb with
          elapsed := if s.arb.armed = none then s.arb.elapsed else min 65535 (s.arb.elapsed + 1)
          reserveLeft := if s.arb.reservation = .pending then s.arb.reserveLeft - 1 else s.arb.reserveLeft } ∧
        t.ovr.entries = s.ovr.entries.map (fun e => { e with limit := e.limit.map (fun n => n - 1) }))) ∧
  (∀ (i : Instr) (s : State), s.resetIn = false →
    (∀ k, dueIn i s = some (k + 1) → dueIn i (advance (k + 1) s) = some 0 → exec i s = exec i (advance (k + 1) s)) ∧
    ((∃ u, (dueIn i u).isSome = true) → i ≠ .frameGapTimeout → dueIn i s = none → exec i s = .next s))

/-! ### Reset -/

/-- What the spec states of the part right after a reset, each block's record written out; the moments and the bookkeeping
the model adds are at rest (log 7, 9, 12).
A power-on and the reset input load the power-on values, an input that reads occupied, asserted or lit being a pending change
from the reset on (R36, R90, R134); while the input is asserted every output is off and every
other row but the inputs' own has no effect (R38, log 12, 13). -/
def Obligations.ResetLoadsThePowerOnValues : Prop :=
  (State.reset.site = { state := .start, lampTestAt := none, warningAt := none, stopFlushAt := none } ∧
  (∀ l, State.reset.mode l = .unused) ∧ State.reset.desc.priority = none ∧
  Param.all.map State.reset.par =
    [100, 10, 15, 30, 20, 5, 15, 150, 150, 3, 2, 1, 100, 50, 50, 100, 1200, 3, 10, 600, 300, 0] ∧
  (∀ c, (State.reset.chan c).role = .none ∧ (State.reset.chan c).lane = none ∧ (State.reset.chan c).filter = 1 ∧
    (State.reset.chan c).onLimit = 0 ∧ (State.reset.chan c).offLimit = 0 ∧ (State.reset.chan c).occupied = false ∧
    (State.reset.chan c).health = .good ∧ (State.reset.chan c).cause = none ∧ (State.reset.chan c).count = 0 ∧
    (State.reset.chan c).contOccupied = 0 ∧ (State.reset.chan c).sinceActuation = 0 ∧
    (State.reset.chan c).occupiedPeriod = 0) ∧
  (∀ l, (State.reset.lane l).state = .off ∧ (State.reset.lane l).onsetAt = none ∧ (State.reset.lane l).minRed = false ∧
    (State.reset.lane l).grant = none ∧ (State.reset.lane l).passages = 0 ∧ (State.reset.lane l).cut = false ∧
    (State.reset.lane l).noShows = 0 ∧ (State.reset.lane l).inQueue = false) ∧
  (∀ l col, (State.reset.lamp l col).commanded = .off ∧ (State.reset.lamp l col).output = .dark ∧
    (State.reset.lamp l col).retries = 2 ∧ (State.reset.lamp l col).fault = .none) ∧
  State.reset.arb.own = .shut ∧ State.reset.arb.owner = none ∧ State.reset.arb.queue = [] ∧
  State.reset.arb.armed = none ∧ State.reset.arb.openRelease = none ∧ (∀ l, State.reset.arb.credit.get l = 0) ∧
  State.reset.arb.prioCount = 0 ∧ State.reset.arb.reservation = .none ∧ State.reset.arb.grantNo = 0 ∧
  (∀ i, State.reset.slot i = none) ∧ (∀ g, State.reset.plans.guarded.get g = false) ∧
  State.reset.plans.active = none ∧ State.reset.plans.staged = none ∧
  State.reset.ovr.entries = [] ∧ (∀ b, Bank.at State.reset.sel.map b = none) ∧ State.reset.sel.lastBand = none ∧
  State.reset.log.records = [] ∧ State.reset.log.lost = 0 ∧
  State.reset.link.receiver = .hunting ∧ State.reset.link.held.any = false ∧ State.reset.link.outstanding = [] ∧
  State.reset.link.stream = none ∧ State.reset.link.discard = false ∧ State.reset.link.notices = 0 ∧
  State.reset.link.mask = 0xFF ∧ State.reset.link.mode = .central ∧ State.reset.link.lossFrom = none ∧
  State.reset.siteTime = 0 ∧ State.reset.attn = false) ∧
  (Channel.reset =
      { role := .none, lane := none, filter := 1, onLimit := 0, offLimit := 0, occupied := false, health := .good
        cause := none, count := 0, contOccupied := 0, sinceActuation := 0, occupiedPeriod := 0, input := false
        changeFrom := none } ∧
    Monitor.reset = { state := .watching, spell := none } ∧
    LaneRec.reset =
      { state := .off, entryAt := 0, onsetAt := none, minRed := false, grant := none, size := none, greenFor := none
        passages := 0, cut := false, noShows := 0, inQueue := false, gov := none } ∧
    LampRec.reset =
      { commanded := .off, output := .dark, sensed := false, proving := .proven, retries := 2, window := none
        fault := .none, noticeOnly := false, phaseEnd := none, phaseSeen := false, lostFrom := none } ∧
    Arbiter.reset =
      { own := .shut, owner := none, holdCause := .none, holdLane := none, queue := [], prioWaiting := false
        armed := none, elapsed := 0, expired := false, openRelease := none, credit := ⟨0, 0, 0, 0⟩, prioCount := 0
        reservation := .none, reserveLeft := 0, grantNo := 0, gov := none } ∧
    (∀ i, Bank.at PlanStore.reset.slots i = none) ∧ PlanStore.reset.guarded = ⟨false, false, false, false⟩ ∧
    PlanStore.reset.active = none ∧ PlanStore.reset.staged = none ∧
    PassLog.reset =
      { records := [], lost := 0
        lanes := ⟨{ grants := 0, passages := 0, noShows := 0, violations := 0 },
          { grants := 0, passages := 0, noShows := 0, violations := 0 },
          { grants := 0, passages := 0, noShows := 0, violations := 0 },
          { grants := 0, passages := 0, noShows := 0, violations := 0 }⟩
        slip := { grants := 0, cuts := 0, yields := 0, expired := 0 } } ∧
    Link.reset =
      { receiver := .hunting, lastByte := 0, held := { lane := none, slot := none, chan := none, since := none }
        discard := false, notices := 0, mask := 0xFF, waiting := [], sending := none, stream := none, mode := .central
        begun := false, lossFrom := none } ∧
    State.reset.sel.sel = .none ∧ State.reset.lanes = Quad.all LaneRec.reset ∧ State.reset.arb = Arbiter.reset ∧
    State.reset.plans = PlanStore.reset ∧ State.reset.log = PassLog.reset ∧ State.reset.link = Link.reset ∧
    State.reset.lamps.sign = .off ∧ (∀ l col, State.reset.lamp l col = LampRec.reset) ∧
    State.reset.det.merge.state = .clear ∧ (∀ l, State.reset.det.queue.get l = Monitor.reset) ∧
    State.reset.det.spill = Monitor.reset ∧ State.reset.det.occupancy = none ∧ State.reset.ovr.preLevel = false) ∧
  (∀ s : State,
    (∃ t, exec .powerOn s = .next t ∧ PoweredUp s t ∧ t.resetIn = s.resetIn) ∧
    (∃ t, exec .resetInputAsserted s = .next t ∧ PoweredUp s t ∧ t.resetIn = true ∧ t.attn = false ∧
      t.signLit = false ∧ ∀ l col, t.lampLit l col = false) ∧
    (s.resetIn = true →
      (∃ t, exec .resetInputReleased s = .next t ∧ PoweredUp s t ∧ t.resetIn = false) ∧
      (∀ c args, exec (Cmd.instr args c) s = .next s) ∧
      (∀ i, (∃ u, (dueIn i u).isSome = true) → exec i s = .next s)) ∧
    (s.resetIn = false → exec .resetInputReleased s = .next s))

/-! ### The line -/

/-- The receiver, given the bytes of a command frame, completes one frame, and that frame spells the command with its
arguments (R163, R164, R165). -/
def Obligations.TheReceiverReadsBackEveryCommandFrame : Prop :=
  ∀ (c : Cmd) (args : List Byte), args.length ≤ 47 →
    ∃ len body, receiveBytes .hunting (frameBytes c.code args) = (.hunting, [.frame len body]) ∧
      frameInstr len body = c.instr args

/-- The frame check (R164). -/
def Obligations.TheCheckIsTheCrcOfTheManual : Prop :=
  crc8 [] = 0 ∧
  (∀ bs b, crc8 (bs ++ [b]) = crcByte (crc8 bs) b) ∧
  (∀ r b : Byte, crcByte r b = crcShift (crcShift (crcShift (crcShift (crcShift (crcShift (crcShift (crcShift
    (r ^^^ b))))))))) ∧
  (∀ r : Byte, crcShift r = if r.getMsbD 0 then (r <<< 1) ^^^ 0x07 else r <<< 1) ∧
  (∀ code args, frameBytes code args = 0xD5 :: BitVec.ofNat 8 (args.length + 1) :: code :: args ++
    [crc8 (BitVec.ofNat 8 (args.length + 1) :: code :: args)]) ∧
  (∀ r : Reply, r.bytes = 0x5D :: BitVec.ofNat 8 (r.data.length + 2) :: r.code :: r.status :: r.data ++
    [crc8 (BitVec.ofNat 8 (r.data.length + 2) :: r.code :: r.status :: r.data)]) ∧
  (∀ f : Flight, f.bytes = 0x5D :: 0x09 :: 0xF0 :: f.copy.data ++ [crc8 (0x09 :: 0xF0 :: f.copy.data)]) ∧
  (∀ bs, crc8 (bs ++ [crc8 bs]) = 0) ∧
  frameBytes 0x01 [] = [0xD5, 0x01, 0x01, 0x12] ∧
  crc8 [0x01] = 0x07 ∧ crc8 [0x01, 0x01] = 0x12 ∧
  ({ code := 0x01, status := 0x00, data := [] } : Reply).bytes = [0x5D, 0x02, 0x01, 0x00, 0xC3] ∧
  crc8 [0x02] = 0x0E ∧ crc8 [0x02, 0x01] = 0x2D ∧ crc8 [0x02, 0x01, 0x00] = 0xC3 ∧
  (∀ s : State, s.passes .beginCmd [] = true → s.site.state = .dark → s.link.notices = 0 → s.link.discard = false →
    s.link.mode = .central → s.link.held = HeldSet.empty → s.sel.sel = .none → s.link.stream = none →
    ∃ t, exec (.beginCmd []) s = .next t ∧
      t.link.outstanding = s.link.outstanding ++ [{ code := 0x01, status := 0x00, data := [] }])

/-- The receiver's table (R163), and the byte it takes from the line on an empty queue (log 18): one that comes more than
5 tenths after the last byte of a frame breaks that frame off and is examined as in HUNTING.
A broken-off frame and an overrun get no reply, do nothing, end no stream and discard the held prefixes and a map
selection; a discard is noted for the next reply (R163). -/
def Obligations.TheReceiverTakesAndBreaksOffFrames : Prop :=
  ((receiveByte .hunting 0xD5 = (.length, .nothing)) ∧
  (∀ b, b ≠ 0xD5 → receiveByte .hunting b = (.hunting, .nothing)) ∧
  (∀ b : Byte, 1 ≤ b.toNat → b.toNat ≤ 48 → receiveByte .length b = (.body b [], .nothing)) ∧
  (∀ b : Byte, b.toNat = 0 ∨ 48 < b.toNat → b ≠ 0xD5 → receiveByte .length b = (.hunting, .badLength b)) ∧
  (receiveByte .length 0xD5 = (.length, .badLength 0xD5)) ∧
  (∀ len got b, got.length < len.toNat → receiveByte (.body len got) b = (.body len (got ++ [b]), .nothing)) ∧
  (∀ len got b, len.toNat ≤ got.length → receiveByte (.body len got) b = (.hunting, .frame len (got ++ [b]))) ∧
  (∀ (s u : State) (b : Byte) (rest : List Byte), s.rxLine = b :: rest →
    (u = s ∧ (s.link.receiver = .hunting ∨ s.now ≤ s.link.lastByte + 5)) ∨
      (u = s.brokenOff ∧ s.link.receiver ≠ .hunting ∧ s.link.lastByte + 5 < s.now) →
    ∀ t, t = { u with rxLine := rest
                      link := { u.link with receiver := (receiveByte u.link.receiver b).1, lastByte := s.now } } →
    ((receiveByte u.link.receiver b).2 = .nothing → takeByte s = .next t) ∧
    (∀ len body, (receiveByte u.link.receiver b).2 = .frame len body → takeByte s = exec (frameInstr len body) t) ∧
    (∀ len, (receiveByte u.link.receiver b).2 = .badLength len → takeByte s = exec (.lenOutOfRange len) t))) ∧
  (∀ s : State, s.resetIn = false →
    ∀ t, t = s.brokenOff →
      (s.link.receiver ≠ .hunting → s.link.lastByte + 5 < s.now → exec .frameGapTimeout s = .next t) ∧
      (∀ len : Byte, len.toNat = 0 ∨ 48 < len.toNat → len ≠ 0xD5 →
        exec (.lenOutOfRange len) s = .next { t with link := { t.link with lastByte := s.now } }) ∧
      (exec (.lenOutOfRange 0xD5) s = .next { t with link := { t.link with receiver := .length, lastByte := s.now } }) ∧
      (8 ≤ s.link.waiting.length →
        exec .frameOverrun s = .next t ∧ exec .badCheckFrame s = .next t ∧
        (∀ c args, exec (Cmd.instr args c) s = .next t) ∧
        (∀ code args, Cmd.ofCode code = none → exec (.undefinedCodeFrame code args) s = .next t)))

/-- A complete frame that fails check 1 or 2 is still answered: CHECK under code 0x00, UNKNOWN under its own code and with
no data (log 16); each ends a stream, its end frame formed before the frame's own discards (log 28), and the prefixes
(R159, R165, R166, R168). One that fails check 2 is a good frame: it returns the link mode to CENTRAL, with the LINK notice
if that is a change, and restarts the link-loss time (R145, R146).
Checks 3, 4 and 5 of every command frame, in their order; a map command that fails one ends its selection (R151,
R165; the prefix codes pass check 4 and keep what is held, log 27). -/
def Obligations.TheLinkChecksEveryFrame : Prop :=
  (∀ s : State, s.resetIn = false → s.link.waiting.length < 8 →
    (∃ t, exec .badCheckFrame s = .next t ∧ Only [.link, .stream, .selection] s t ∧
      t.link.outstanding = s.link.outstanding ++ s.endFrames ++
        [{ code := 0x00
           status := s.statusWith
             ((s.link.discard && s.link.stream.isNone) || s.link.held.any || s.sel.sel != .none) .check
           data := [] }] ∧
      t.link.stream = none ∧ t.link.held = HeldSet.empty ∧ t.sel.sel = .none ∧ t.link.discard = false ∧
      t.link.receiver = .hunting ∧ t.link.mode = s.link.mode ∧ t.link.lossFrom = s.link.lossFrom ∧
      t.link.mask = s.link.mask ∧ t.link.begun = s.link.begun) ∧
    (∀ code args, Cmd.ofCode code = none →
      ∃ t, exec (.undefinedCodeFrame code args) s = .next t ∧ Only [.link, .stream, .notices, .selection] s t ∧
        (∃ u, openFrame .readConfig s = u ∧ t.link.outstanding =
          u.link.outstanding ++ [{ code := code, status := u.status .unknown, data := [] }]) ∧
        t.link.stream = none ∧ t.link.held = HeldSet.empty ∧ t.sel.sel = .none ∧ t.link.discard = false ∧
        t.link.receiver = .hunting ∧ t.link.mode = .central ∧ t.link.mask = s.link.mask ∧ t.link.begun = s.link.begun ∧
        t.link.notices =
          (if s.link.mode = .localMode then s.link.notices ||| Notice.link.bit else s.link.notices) ∧
        t.link.lossFrom = (if s.link.begun then some s.now else none))) ∧
  (∀ (c : Cmd) (args : List Byte) (s : State), LinkChecks s c args)

/-- What a good frame does before check 2: CENTRAL mode with its LINK notice, the link-loss time at 0, a stream ended
with its end frame, which reports an earlier DISCARD before the frame's own discards (log 28); the prefixes are consumed
and an unrelated command ends a map selection (R145, R146, R151, R159, R165, R168). The frame of CLEAR-FAILSAFE does all this
like any other, its stream and its selection ended too (log 40).
An answer forms one reply from the state as it then stands, appends it to the reply list, and clears DISCARD; the
line sends as soon as it is free (R165, R166, R174); RANGE and ORDER carry no data (log 16). -/
def Obligations.FramesAreOpenedAndAnswered : Prop :=
  (∀ (c : Cmd) (s u : State), u = openFrame c s →
    Only [.link, .stream, .notices, .selection] s u ∧
    u.link.receiver = .hunting ∧ u.link.mode = .central ∧ u.link.begun = s.link.begun ∧ u.link.mask = s.link.mask ∧
    u.link.lossFrom = (if s.link.begun then some s.now else none) ∧ u.link.stream = none ∧
    u.link.notices =
      (if s.link.mode = .localMode then s.link.notices ||| Notice.link.bit else s.link.notices) ∧
    u.link.held = (if c.isPrefix then s.link.held else HeldSet.empty) ∧
    u.sel.sel = (if c.keepsSelection then s.sel.sel else .none) ∧
    u.link.discard =
      ((s.link.discard && s.link.stream.isNone) || (!c.keepsSelection && s.sel.sel != .none)) ∧
    u.link.outstanding = s.link.outstanding ++
      (match s.link.stream with
       | some st =>
         [{ code := 0x70
            status := s.startingFlag ||| s.discardFlag ||| u.attnFlag
            data := [BitVec.ofNat 8 (st.delivered / 256), BitVec.ofNat 8 st.delivered] }]
       | none => [])) ∧
  ((∀ (code : Byte) (a : Answer) (s : State), s.link.stream = none → a ≠ .streaming →
    ∃ t, answer code a s = t ∧ Only [.link] s t ∧
      t.link.outstanding = s.link.outstanding ++
        [match a with
         | .done data => { code := code, status := s.statusWith s.link.discard .accepted, data := data }
         | .range => { code := code, status := s.statusWith s.link.discard .range, data := [] }
         | .order => { code := code, status := s.statusWith s.link.discard .order, data := [] }
         | .refused r => { code := code, status := s.statusWith s.link.discard .refused, data := [r.code] }
         | .streaming => { code := code, status := 0, data := [] }] ∧
      t.link.discard = false ∧ t.link.sending.isSome = true ∧
      { t.link with waiting := s.link.waiting, sending := s.link.sending, discard := s.link.discard } = s.link) ∧
  (∀ s : State, s.startingFlag = (if s.site.state = .start ∨ s.site.state = .lamptest then 0x80 else 0x00) ∧
    s.attnFlag = (if s.link.notices &&& s.link.mask = 0 then 0x00 else 0x01)) ∧
  [Verdict.accepted, .unknown, .check, .order, .range, .refused].map Verdict.bits =
    [0x00, 0x20, 0x10, 0x08, 0x04, 0x02] ∧
  [Reason.wrongState, .guarded, .inUse, .full, .noPlan, .emptySlot, .conflict, .badPrefix, .notFound].map Reason.code =
    [1, 2, 3, 4, 5, 6, 7, 8, 9])

/-- The prefix-hold time discards the held prefixes (R168); the link-loss time, where link_loss is not 0, makes the mode
LOCAL with a LINK notice (R145).
A record frame sent whole is delivered, and its record is removed if it is still the oldest; a reply sent whole
leaves the line, and the next waiting one begins (R158, R165). Waiting replies go before a stream's next frame, and a
stream goes on when the line is free with none waiting (log 28). -/
def Obligations.TheLinkTimersAndTheLineRun : Prop :=
  (∀ s : State, s.resetIn = false →
    (∀ t0, s.link.held.since = some t0 → t0 + s.par .prefixHold ≤ s.now →
      exec .prefixHoldExpiry s =
        .next { s with link := { s.link with held := HeldSet.empty, discard := s.link.discard || s.link.held.any } }) ∧
    (∀ t0, s.link.lossFrom = some t0 → s.par .linkLoss ≠ 0 → t0 + s.par .linkLoss ≤ s.now →
      exec .linkLossExpiry s =
        .next { s with link := { s.link with
          mode := .localMode, lossFrom := none, notices := s.link.notices ||| Notice.link.bit } }) ∧
    (s.par .linkLoss = 0 → exec .linkLossExpiry s = .next s)) ∧
  (∀ s : State, s.resetIn = false →
    (∀ st f, s.link.stream = some st → st.flight = some f →
      ∃ t, exec .recordFrameCompletion s = .next t ∧ Only [.records, .stream, .link] s t ∧
        t.log.records = (if f.overwritten then s.log.records else s.log.records.tail) ∧ t.log.lost = s.log.lost ∧
        (s.link.sending = none → s.link.waiting = [] →
          ((st.asked ≠ 0 ∧ st.asked ≤ min 65535 (st.delivered + 1)) ∨ t.log.records = [] →
            t.link.stream = none ∧ t.link.outstanding = [{ code := 0x70
                                                           status := s.status .accepted
                                                           data := bytes16 (min 65535 (st.delivered + 1)) }]) ∧
          (∀ r rs, t.log.records = r :: rs → st.asked = 0 ∨ min 65535 (st.delivered + 1) < st.asked →
            t.link.outstanding = [] ∧
            t.link.stream = some { asked := st.asked
                                   delivered := min 65535 (st.delivered + 1)
                                   flight := some { copy := r, overwritten := false } }))) ∧
    (∀ r, s.link.sending = some r →
      ∃ t, exec .replyFrameTransmitted s = .next t ∧ Only [.stream, .link] s t ∧
        (∀ q qs, s.link.waiting = q :: qs → (∀ st, s.link.stream = some st → st.flight = none) →
          t.link.sending = some q ∧ t.link.waiting = qs ∧ t.link.stream = s.link.stream) ∧
        (∀ st q qs, s.link.waiting = [] → s.link.stream = some st → st.flight = none → s.log.records = q :: qs →
          st.asked = 0 ∨ st.delivered < st.asked →
          t.link.outstanding = [] ∧ t.link.stream = some { st with flight := some { copy := q, overwritten := false } }) ∧
        (s.link.waiting = [] → s.link.stream = none → t.link.outstanding = [] ∧ t.link.stream = none)))

/-! ### Commands of the link -/

/-- BEGIN is accepted in every state: in START it enters LAMPTEST with the timer at 10 tenths, in every other state the
site is as it was; the link-loss count starts (R39, R145).
The lamp test ends in DARK with every lamp sensed OFF, else in FAILSAFE with each lamp sensed ON FAILED-ON (R40,
R48, R135). -/
def Obligations.BeginStartsTheLampTestAndItsEndJudges : Prop :=
  (∀ s : State, s.passes .beginCmd [] = true →
    Answers (exec (.beginCmd []) s) .beginCmd s (.done []) (fun u =>
      { u with
        link := { u.link with begun := true, lossFrom := some s.now }
        site := if s.site.state = .start then { s.site with state := .lamptest, lampTestAt := some (s.now + 10) }
          else s.site })) ∧
  (∀ (s : State) (t0 : Nat), s.resetIn = false → s.site.state = .lamptest → s.site.lampTestAt = some t0 → t0 ≤ s.now →
    ((∀ l col, (s.lamp l col).sensed = false) →
      ∃ t, exec .lampTestExpiry s = .next t ∧ Only [.site, .lamps, .entries, .notices, .handoffs] s t ∧
        t.site = SiteCtl.at .dark ∧ t.link.notices &&& Notice.site.bit ≠ 0 ∧ t.lamps.heads = s.lamps.heads ∧
        t.ovr.entries = (if s.ovr.preLevel then afterAutomaticPush preemptEntry s.ovr.entries else s.ovr.entries)) ∧
    ((∃ l col, (s.lamp l col).sensed = true) →
      ∃ t, exec .lampTestExpiry s = .next t ∧ t.site = SiteCtl.at .failsafe ∧
        t.link.notices &&& Notice.failsafe.bit ≠ 0 ∧ t.arb.own = .shut ∧
        (∀ l col, (t.lamp l col).fault = (if (s.lamp l col).sensed then .failedOn else (s.lamp l col).fault))))

/-- The reading commands answer their data and change nothing that any block holds (R16, R28, R87, R114, R118, R141,
R152, R161, R171). READ-ARBITER's grant number while no release is open is a free value (log 14).
The layouts of the readings, field by field (R16, R28, R87, R114, R118, R141, R152, R171, R174; the store summary's by log
15), the record of a record frame, and every value code of R174 in them. -/
def Obligations.ReadingsChangeNothingAndHaveTheirLayouts : Prop :=
  (∀ s : State,
    (s.passes .getStatus [] = true → ∀ u, u = openFrame .getStatus s →
      Answers (exec (.getStatus []) s) .getStatus s (.done u.statusRecord) id) ∧
    (s.passes .readConfig [] = true →
      Answers (exec (.readConfig []) s) .readConfig s (.done s.configData) id) ∧
    (s.passes .readChannel [] = true →
      Answers (exec (.readChannel []) s) .readChannel s (.done (s.chan (s.link.held.chan.getD 0)).data) id) ∧
    (s.passes .readLamps [] = true →
      Answers (exec (.readLamps []) s) .readLamps s (.done (s.lampsData s.link.held.lane)) id) ∧
    (s.passes .readPlan [] = true →
      (∀ i p, s.link.held.slot = some i → s.slot i = some p →
        Answers (exec (.readPlan []) s) .readPlan s (.done p.data) id) ∧
      (∀ i, s.link.held.slot = some i → s.slot i = none →
        Answers (exec (.readPlan []) s) .readPlan s (.refused .emptySlot) id) ∧
      (s.link.held.slot = none → Answers (exec (.readPlan []) s) .readPlan s (.done s.summary) id)) ∧
    (s.passes .readOverrides [] = true →
      Answers (exec (.readOverrides []) s) .readOverrides s (.done s.overridesData) id) ∧
    (s.passes .readMap [] = true → Answers (exec (.readMap []) s) .readMap s (.done s.mapData) id) ∧
    (s.passes .readArbiter [] = true →
      (s.arb.openRelease ≠ none → Answers (exec (.readArbiter []) s) .readArbiter s (.done s.arbiterData) id) ∧
      (s.arb.openRelease = none → Answers (exec (.readArbiter []) s) .readArbiter s (.done s.arbiterData)
        (fun u => { u with freeCount := s.freeCount + 1 })))) ∧
  ((∀ s : State, s.statusRecord =
    [s.site.state.code, s.link.mode.code, optByte s.plans.active, optByte s.plans.staged, s.arb.own.code,
      optByte s.arb.owner, s.governingCode, s.occupancyByte] ++ s.faultSet ++
    setBytes (fun c => (s.chan c).health != .good) ++ [s.link.notices] ++ bytes16 s.log.records.length) ∧
  (∀ s : State, s.statusRecord.length = 15) ∧
  (∀ s : State, s.configData = [(s.mode 0).code, (s.mode 1).code, (s.mode 2).code, (s.mode 3).code,
    optByte s.desc.priority] ++ (Param.all.map s.par).flatMap bytes16 ∧ s.configData.length = 49) ∧
  (∀ r : Channel, r.data = [r.role.code, optByte r.lane, byte1 r.filter] ++ bytes16 r.onLimit ++ bytes16 r.offLimit ++
    [flagByte r.occupied, flagByte (if r.health = .good then r.occupied else r.role == .demand), r.health.code,
      causeCode r.cause] ++ bytes16 r.count.toNat ++ bytes16 r.contOccupied ++ bytes16 r.sinceActuation) ∧
  (∀ (s : State) (l : Lane) (lampBytes : Lane → Colour → List Byte), lampBytes = (fun m col =>
      [(s.lamp m col).commanded.code, (s.lamp m col).output.code, flagByte (s.lamp m col).sensed,
        (s.lamp m col).proving.code, byte1 (s.lamp m col).retries, (s.lamp m col).fault.code,
        flagByte (s.lamp m col).noticeOnly]) →
    s.lampsData (some l) = [Colour.red, .amber, .green].flatMap (lampBytes l) ++ [s.lamps.sign.code] ∧
    s.lampsData none =
      [0, 1, 2, 3].flatMap (fun m => [Colour.red, .amber, .green].flatMap (lampBytes m)) ++ [s.lamps.sign.code]) ∧
  (∀ p : Plan, p.data = bytes16 p.interval ++ bytes16 p.flushInterval ++
    [byte1 p.size, byte1 (p.weights.get 0), byte1 (p.weights.get 1), byte1 (p.weights.get 2), byte1 (p.weights.get 3),
      byte1 p.prioEvery]) ∧
  (∀ s : State, s.summary =
    [0, 1, 2, 3].map (fun g => flagByte (s.plans.guarded.get g)) ++ allSixteen.map (fun i => flagByte (s.slot i).isSome) ++
      [optByte s.plans.active, optByte s.plans.staged]) ∧
  (∀ s : State, s.overridesData =
    byte1 s.ovr.entries.length ::
      s.ovr.entries.flatMap (fun e =>
        [kindCode e.kind, sourceCode e.source,
          match e.source with
          | .queue l => byte1 l.val
          | _ => 0xFF,
          optByte e.lanes] ++
        (match e.limit with
         | some n => bytes16 n
         | none => [0xFF, 0xFF]) ++
        (match e.fixed with
         | some n => bytes16 n
         | none => [0, 0])) ++ [flagByte s.ovr.preLevel]) ∧
  (∀ s : State, ∃ codes skips : List Byte,
    s.mapData = allSixteen.map (fun b => optByte (Bank.at s.sel.map b)) ++ [optByte s.sel.lastBand] ++ codes ++ skips ∧
    (s.sel.sel = .none → codes = [0, 0xFF, 0xFF] ∧ skips = [0, 0]) ∧
    (∀ f, s.sel.sel = .fromHeld f → codes = [1, byte1 f.val, 0xFF] ∧ skips = [0, 0]) ∧
    (∀ f g k, s.sel.sel = .rangeHeld f g k → codes = [2, byte1 f.val, byte1 g.val] ∧ skips = setBytes (Bank.at k))) ∧
  (∀ s : State, ∃ hi lo, s.arbiterData =
    [s.arb.own.code, optByte s.arb.owner, s.arb.holdCause.code, optByte s.arb.holdLane, byte1 s.arb.queue.length] ++
    s.arb.queue.map (fun l => byte1 l.val) ++ [flagByte s.arb.prioWaiting] ++ bytes16 (s.arb.armed.getD 0) ++
    bytes16 s.arb.elapsed ++ [flagByte s.arb.expired] ++ bytes16 (s.intervalInForce.getD 0) ++
    [optByte (s.arb.openRelease.map Prod.fst), hi, lo] ++
    [0, 1, 2, 3].map (fun l => if s.desc.priority = some l then 0xFF else byte1 (s.arb.credit.get l)) ++
    [byte1 s.arb.prioCount, s.arb.reservation.code] ++ bytes16 s.arb.reserveLeft ++ bytes16 s.arb.grantNo.toNat ++
    [s.det.merge.state.code] ∧
    ∀ l g, s.arb.openRelease = some (l, g) → [hi, lo] = bytes16 g.toNat) ∧
  (∀ s : State,
    (s.arb.armed = none → s.intervalInForce = none) ∧
    (∀ n, s.arb.armed = some n → s.governingInterval = none → s.intervalInForce = some n) ∧
    (∀ n m, s.arb.armed = some n → s.governingInterval = some m → s.intervalInForce = some (min n m))) ∧
  (∀ r : PassRec, r.data =
    [BitVec.ofNat 8 (r.time.toNat / 65536), BitVec.ofNat 8 (r.time.toNat / 256), BitVec.ofNat 8 r.time.toNat,
      BitVec.ofNat 8 (r.lane.val * 64) ||| r.kind.code, optByte r.plan] ++
    (match r.grant with
     | some g => bytes16 g.toNat
     | none => [0xFF, 0xFF]) ++
    [match r.shortfall with
     | some n => byte1 n
     | none => 0xFF])) ∧
  ([SiteState.start, .lamptest, .dark, .starting, .metering, .stopping, .failsafe].map SiteState.code =
      [0, 1, 2, 3, 4, 5, 6] ∧
    [LinkMode.central, .localMode].map LinkMode.code = [0, 1] ∧
    [Ownership.shut, .free, .yielding, .releasing, .held].map Ownership.code = [0, 1, 2, 3, 4] ∧
    [HoldCause.none, .flush, .reserve].map HoldCause.code = [0, 1, 2] ∧
    [Reservation.none, .pending, .granted].map Reservation.code = [0, 1, 2] ∧
    [MergeState.clear, .settling, .busy].map MergeState.code = [0, 1, 2] ∧
    [Health.good, .stuckOn, .stuckOff].map Health.code = [0, 1, 2] ∧
    [some Cause.noActuation, some .continuous, some .noShow, none].map causeCode = [0, 1, 2, 0xFF] ∧
    [Role.none, .stop, .demand, .queue, .spill, .merge, .mainline, .advance].map Role.code =
      [0, 1, 2, 3, 4, 5, 6, 7] ∧
    [LaneMode.unused, .counted, .metered, .timed].map LaneMode.code = [0, 1, 2, 3] ∧
    [LampCmd.off, .on, .flash].map LampCmd.code = [0, 1, 2] ∧
    [LampOut.dark, .driven, .held].map LampOut.code = [0, 1, 2] ∧
    [Proving.proven, .proving, .unproven].map Proving.code = [0, 1, 2] ∧
    [LampFault.none, .failedOn, .failedOff].map LampFault.code = [0, 1, 2] ∧
    [OvKind.fixed, .flush, .close, .clearout].map kindCode = [1, 2, 3, 4] ∧
    [OvSource.link, .preempt, .queue 0, .queue 1, .queue 2, .queue 3, .spill].map sourceCode = [0, 1, 2, 2, 2, 2, 3] ∧
    [RecKind.released, .late, .violation, .noShow, .cut, .unmetered].map RecKind.code = [1, 2, 3, 4, 5, 6]) ∧
  ((∀ n, byte1 n = BitVec.ofNat 8 n ∧ bytes16 n = [BitVec.ofNat 8 (n / 256), BitVec.ofNat 8 n]) ∧
    (∀ n, n < 65536 → be16 (BitVec.ofNat 8 (n / 256)) (BitVec.ofNat 8 n) = n) ∧
    (flagByte false = 0 ∧ flagByte true = 1) ∧
    ((∀ l : Lane, optByte (some l) = BitVec.ofNat 8 l.val) ∧ optByte (none : Option Lane) = 0xFF ∧
      (∀ i : Fin 16, optByte (some i) = BitVec.ofNat 8 i.val) ∧ optByte (none : Option (Fin 16)) = 0xFF) ∧
    (∀ (f : Fin 16 → Bool), ∃ hi lo, setBytes f = [hi, lo] ∧ ∀ c, (hi ++ lo : BitVec 16).getLsbD c.val = f c) ∧
    (∀ s : State, ∃ hi lo, s.faultSet = [hi, lo] ∧ (hi ++ lo : BitVec 16).toNat < 4096 ∧
      ∀ l, (hi ++ lo : BitVec 16).getLsbD (l.val * 3) = ((s.lamp l .red).fault != .none) ∧
        (hi ++ lo : BitVec 16).getLsbD (l.val * 3 + 1) = ((s.lamp l .amber).fault != .none) ∧
        (hi ++ lo : BitVec 16).getLsbD (l.val * 3 + 2) = ((s.lamp l .green).fault != .none)) ∧
    (∀ s : State,
      (s.ovr.entries = [] → s.governingCode = 0) ∧
      (∀ e es, s.ovr.entries = e :: es → s.governingCode = kindCode e.kind) ∧
      (s.det.occupancy = none → s.occupancyByte = 0xFF) ∧
      (∀ n, s.det.occupancy = some n → s.occupancyByte = BitVec.ofNat 8 n)))

/-- TAKE-NOTICE returns and clears the highest class that is pending and in the mask; SET-NOTICE-MASK replaces the mask
(R170); ATTN follows the two at once (R169).
SET-TIME sets site time alone: every start time keeps its distance from it, so no duration in progress changes
(R172). -/
def Obligations.NoticesAndSiteTimeAreSet : Prop :=
  (∀ s : State,
    (s.passes .takeNotice [] = true → ∀ u, u = openFrame .takeNotice s →
      (∀ n : Notice, u.link.notices &&& u.link.mask &&& n.bit ≠ 0 →
        (∀ m : Notice, m.code < n.code → u.link.notices &&& u.link.mask &&& m.bit = 0) →
        Answers (exec (.takeNotice []) s) .takeNotice s (.done [n.code, u.link.notices &&& ~~~n.bit])
          (fun v => { v with link := { v.link with notices := u.link.notices &&& ~~~n.bit } })) ∧
      (u.link.notices &&& u.link.mask = 0 →
        Answers (exec (.takeNotice []) s) .takeNotice s (.done [0, u.link.notices]) id)) ∧
    (∀ m, s.passes .setNoticeMask [m] = true →
      Answers (exec (.setNoticeMask [m]) s) .setNoticeMask s (.done [])
        (fun u => { u with link := { u.link with mask := m } })) ∧
    (s.attn = true ↔ s.resetIn = false ∧ s.link.notices &&& s.link.mask ≠ 0)) ∧
  ([Notice.failsafe, .lamp, .detector, .override, .priority, .site, .link, .log].map Notice.bit =
      [0x80, 0x40, 0x20, 0x10, 0x08, 0x04, 0x02, 0x01] ∧
    [Notice.failsafe, .lamp, .detector, .override, .priority, .site, .link, .log].map Notice.code =
      [1, 2, 3, 4, 5, 6, 7, 8] ∧
    (∀ n s, (raise n s).link.notices = s.link.notices ||| n.bit ∧ Only [.notices] s (raise n s))) ∧
  ((∀ b2 b1 b0 s, s.passes .setTime [b2, b1, b0] = true →
    Answers (exec (.setTime [b2, b1, b0]) s) .setTime s (.done []) (fun u => { u with siteTime := b2 ++ b1 ++ b0 })) ∧
  (∀ (s : State) (v : BitVec 24) (l : Lane), { s with siteTime := v }.entryTime l - v = s.entryTime l - s.siteTime))

/-- A prefix frame holds its designation if none of its kind is held, else is ignored; out of range it holds nothing.
The prefix-hold time runs from the first held prefix (R167). -/
def Obligations.PrefixFramesHoldOnePrefixOfEachKind : Prop :=
  ∀ (s : State) (b : Byte),
    (∀ args, LinkChecks s .pfxLane args ∧ LinkChecks s .pfxPlan args ∧ LinkChecks s .pfxChannel args) ∧
    (∀ c : Cmd, c.isPrefix = true → (openFrame c s).link.held = s.link.held ∧ (openFrame c s).sel = s.sel ∧
      (openFrame c s).link.stream = none) ∧
    (s.passes .pfxLane [b] = true →
      (4 ≤ b.toNat → Answers (exec (.pfxLane [b]) s) .pfxLane s .range id) ∧
      (∀ l : Lane, b.toNat = l.val →
        (s.link.held.lane = none → ∀ h, h = { s.link.held with
              lane := some l, since := if s.link.held.any then s.link.held.since else some s.now } →
          Answers (exec (.pfxLane [b]) s) .pfxLane s (.done [optByte h.lane, optByte h.slot, optByte h.chan, 0])
            (fun u => { u with link := { u.link with held := h } })) ∧
        (∀ k, s.link.held.lane = some k → Answers (exec (.pfxLane [b]) s) .pfxLane s
          (.done [optByte s.link.held.lane, optByte s.link.held.slot, optByte s.link.held.chan, 1]) id))) ∧
    (s.passes .pfxPlan [b] = true →
      (16 ≤ b.toNat → Answers (exec (.pfxPlan [b]) s) .pfxPlan s .range id) ∧
      (∀ i : Slot, b.toNat = i.val →
        (s.link.held.slot = none → ∀ h, h = { s.link.held with
              slot := some i, since := if s.link.held.any then s.link.held.since else some s.now } →
          Answers (exec (.pfxPlan [b]) s) .pfxPlan s (.done [optByte h.lane, optByte h.slot, optByte h.chan, 0])
            (fun u => { u with link := { u.link with held := h } })) ∧
        (∀ k, s.link.held.slot = some k → Answers (exec (.pfxPlan [b]) s) .pfxPlan s
          (.done [optByte s.link.held.lane, optByte s.link.held.slot, optByte s.link.held.chan, 1]) id))) ∧
    (s.passes .pfxChannel [b] = true →
      (16 ≤ b.toNat → Answers (exec (.pfxChannel [b]) s) .pfxChannel s .range id) ∧
      (∀ c : Chan, b.toNat = c.val →
        (s.link.held.chan = none → ∀ h, h = { s.link.held with
              chan := some c, since := if s.link.held.any then s.link.held.since else some s.now } →
          Answers (exec (.pfxChannel [b]) s) .pfxChannel s (.done [optByte h.lane, optByte h.slot, optByte h.chan, 0])
            (fun u => { u with link := { u.link with held := h } })) ∧
        (∀ k, s.link.held.chan = some k → Answers (exec (.pfxChannel [b]) s) .pfxChannel s
          (.done [optByte s.link.held.lane, optByte s.link.held.slot, optByte s.link.held.chan, 1]) id)))

/-! ### Configuration -/

/-- SET-LANE (R3). -/
def Obligations.SetLaneSetsOneMode : Prop :=
  ∀ (s : State) (b : Byte) (l : Lane), LinkChecks s .setLane [b] ∧
    (s.passes .setLane [b] = true → ¬s.configurable →
      Answers (exec (.setLane [b]) s) .setLane s (.refused .wrongState) id) ∧
    (s.passes .setLane [b] = true → s.configurable → l = s.link.held.lane.getD 0 →
    (4 ≤ b.toNat → Answers (exec (.setLane [b]) s) .setLane s .range id) ∧
    (b.toNat = 0 ∨ b.toNat = 1 → s.desc.priority = some l →
      Answers (exec (.setLane [b]) s) .setLane s (.refused .conflict) id) ∧
    (∀ m : LaneMode, b = m.code → (m = .unused ∨ m = .counted → s.desc.priority ≠ some l) →
      Answers (exec (.setLane [b]) s) .setLane s (.done []) (fun u =>
        { u with
          desc := { s.desc with modes := s.desc.modes.set l m }
          lanes := if s.mode l = m then s.lanes else s.lanes.set l { s.lane l with noShows := 0 } }))) ∧
    [LaneMode.unused, .counted, .metered, .timed].map LaneMode.code = [0, 1, 2, 3]

/-- SET-PRIORITY-LANE (R5; the credit of a lane that gains the designation is stored as 0, log 31). -/
def Obligations.SetPriorityLaneSetsTheDesignation : Prop :=
  ∀ (s : State) (b : Byte), s.passes .setPriorityLane [b] = true →
    (¬s.configurable → Answers (exec (.setPriorityLane [b]) s) .setPriorityLane s (.refused .wrongState) id) ∧
    (s.configurable →
    (4 ≤ b.toNat → b ≠ 0xFF → Answers (exec (.setPriorityLane [b]) s) .setPriorityLane s .range id) ∧
    (∀ p : Option Lane, b = optByte p →
      ((∃ l, p = some l ∧ (s.mode l = .unused ∨ s.mode l = .counted)) ∨
        (∃ q c, s.desc.priority = some q ∧ p ≠ some q ∧ (s.chan c).role = .advance ∧ (s.chan c).lane = some q) →
        Answers (exec (.setPriorityLane [b]) s) .setPriorityLane s (.refused .conflict) id) ∧
      ((∀ l, p = some l → s.mode l = .metered ∨ s.mode l = .timed) →
        (∀ q c, s.desc.priority = some q → p ≠ some q → (s.chan c).role = .advance → (s.chan c).lane ≠ some q) →
        Answers (exec (.setPriorityLane [b]) s) .setPriorityLane s (.done []) (fun u =>
          { u with
            desc := { s.desc with priority := p }
            arb := { s.arb with
              credit := match p with
                | some l => if s.desc.priority = p then s.arb.credit else s.arb.credit.set l 0
                | none => s.arb.credit } }))))

/-- SET-CHANNEL (R20, R21). A pending change that has already held the new filter time is taken at the command (R22; also
where the role or the lane changes, log 36), before the stuck-on limit is compared (R23, log 38).
The limits of R21 on a set of channels, one by one. -/
def Obligations.SetChannelConfiguresOneChannel : Prop :=
  (∀ (s : State) (role filter onHi onLo offHi offLo : Byte) (c : Chan),
    s.passes .setChannel [role, filter, onHi, onLo, offHi, offLo] = true → c = s.link.held.chan.getD 0 →
    (¬s.configurable → Answers (exec (.setChannel [role, filter, onHi, onLo, offHi, offLo]) s) .setChannel s
      (.refused .wrongState) id) ∧
    (s.configurable → 7 < role.toNat ∨ 5 < filter.toNat ∨ (0 < be16 onHi onLo ∧ be16 onHi onLo < 10) ∨ 65000 < be16 onHi onLo ∨
      (0 < be16 offHi offLo ∧ be16 offHi offLo < 600) ∨ 65000 < be16 offHi offLo →
      Answers (exec (.setChannel [role, filter, onHi, onLo, offHi, offLo]) s) .setChannel s .range id) ∧
    (∀ (r : Role) (k : ChanConfig), s.configurable → role = r.code → filter.toNat ≤ 5 →
      (be16 onHi onLo = 0 ∨ (10 ≤ be16 onHi onLo ∧ be16 onHi onLo ≤ 65000)) →
      (be16 offHi offLo = 0 ∨ (600 ≤ be16 offHi offLo ∧ be16 offHi offLo ≤ 65000)) →
      k = { role := r
            lane := if r = .stop ∨ r = .demand ∨ r = .queue ∨ r = .advance then some (s.link.held.lane.getD 0) else none
            filter := filter.toNat, onLimit := be16 onHi onLo, offLimit := be16 offHi offLo } →
      (chanSetOk s.desc.priority (s.chansWith c k) = false →
        Answers (exec (.setChannel [role, filter, onHi, onLo, offHi, offLo]) s) .setChannel s (.refused .conflict) id) ∧
      (chanSetOk s.desc.priority (s.chansWith c k) = true → (s.chan c).config = k →
        Answers (exec (.setChannel [role, filter, onHi, onLo, offHi, offLo]) s) .setChannel s (.done []) id) ∧
      (chanSetOk s.desc.priority (s.chansWith c k) = true →
        ∃ t, exec (.setChannel [role, filter, onHi, onLo, offHi, offLo]) s =
            .next (answer Cmd.setChannel.code (.done []) t) ∧
          Only [.chans, .merge, .monitors, .lanes, .lamps, .records, .counts, .notices, .stream, .handoffs]
            (openFrame .setChannel s) t ∧
          (t.chan c).config = k ∧ (∀ d, d ≠ c → t.chan d = s.chan d) ∧
          ((s.chan c).role ≠ k.role ∨ (s.chan c).lane ≠ k.lane → (s.chan c).changeFrom = none →
            t.chan c = { (s.chan c).withConfig k with
              health := .good, cause := none, contOccupied := 0, sinceActuation := 0, occupiedPeriod := 0, count := 0 } ∧
            t.link.notices = (if (s.chan c).health = .good then (openFrame .setChannel s).link.notices
              else (openFrame .setChannel s).link.notices ||| Notice.detector.bit)) ∧
          ((s.chan c).role = k.role → (s.chan c).lane = k.lane → (s.chan c).changeFrom = none →
            (s.chan c).occupied = false → t.chan c = (s.chan c).withConfig k) ∧
          ((t.chan c).health ≠ (s.chan c).health → t.link.notices &&& Notice.detector.bit ≠ 0) ∧
          (∀ (kept : Bool) (q : Channel), (s.chan c).config ≠ k →
            (kept = true ↔ (s.chan c).role = k.role ∧ (s.chan c).lane = k.lane) →
            q = (if kept then (s.chan c).withConfig k
              else { (s.chan c).withConfig k with
                health := .good, cause := none, contOccupied := 0, sinceActuation := 0, occupiedPeriod := 0, count := 0 }) →
            (∀ t0, q.changeFrom = some t0 → t0 + k.filter ≤ s.now →
              (q.occupied = false → t.chan c = { q with
                occupied := true, changeFrom := none, count := q.count + 1, sinceActuation := 0, contOccupied := 0
                health := if q.health = .stuckOff then .good else q.health
                cause := if q.health = .stuckOff then none else q.cause }) ∧
              (q.occupied = true → t.chan c = { q with
                occupied := false, changeFrom := none, contOccupied := 0
                sinceActuation := if q.health = .stuckOn then 0 else q.sinceActuation
                health := if q.health = .stuckOn then .good else q.health
                cause := if q.health = .stuckOn then none else q.cause })) ∧
            ((∀ t0, q.changeFrom = some t0 → s.now < t0 + k.filter) →
              (kept = true → k.role ≠ .none → q.health = .good → k.onLimit ≠ 0 → q.occupied = true →
                k.onLimit < q.contOccupied → t.chan c = { q with health := .stuckOn, cause := some .continuous }) ∧
              (kept = false ∨ k.role = .none ∨ q.health ≠ .good ∨ k.onLimit = 0 ∨ q.occupied = false ∨
                q.contOccupied ≤ k.onLimit → t.chan c = q ∧ ReadingsTaken s.handoffs s t)))))) ∧
  (∀ (prio : Option Lane) (b : Bank Channel), chanSetOk prio b = true ↔
    ((∀ (l : Lane) (r : Role), r = .stop ∨ r = .demand ∨ r = .queue ∨ r = .advance → ∀ c d : Chan,
        (Bank.at b c).role = r → (Bank.at b c).lane = some l → (Bank.at b d).role = r → (Bank.at b d).lane = some l →
        c = d) ∧
      (∀ c : Chan, (Bank.at b c).role = .advance → prio ≠ none ∧ (Bank.at b c).lane = prio) ∧
      (allSixteen.filter (fun c => (Bank.at b c).role == .merge)).length ≤ 2 ∧
      (allSixteen.filter (fun c => (Bank.at b c).role == .spill)).length ≤ 2 ∧
      (allSixteen.filter (fun c => (Bank.at b c).role == .mainline)).length ≤ 4))

/-- SET-TIMING (R7), and a timer that runs is compared with its new value at once (R14): the settle time, the stray measures
of the lamps and the occupancy period in progress. -/
def Obligations.SetTimingSetsOneParameter : Prop :=
  ∀ (s : State) (n hi lo : Byte), s.passes .setTiming [n, hi, lo] = true →
    (¬s.configurable → Answers (exec (.setTiming [n, hi, lo]) s) .setTiming s (.refused .wrongState) id) ∧
    (s.configurable → n = 0 ∨ 22 < n.toNat → Answers (exec (.setTiming [n, hi, lo]) s) .setTiming s .range id) ∧
    (∀ p : Param, s.configurable → Param.all[n.toNat - 1]? = some p → n ≠ 0 →
      (p.inRange (be16 hi lo) = false → Answers (exec (.setTiming [n, hi, lo]) s) .setTiming s .range id) ∧
      (p.inRange (be16 hi lo) = true →
        ((s.par p = be16 hi lo ∨ (p ≠ .mergeSettle ∧ p ≠ .lampProve ∧ p ≠ .occupancyPeriod)) →
          Answers (exec (.setTiming [n, hi, lo]) s) .setTiming s (.done [])
            (fun u => { u with desc := { s.desc with timing := s.desc.timing.set p (be16 hi lo) } })) ∧
        (∃ t, exec (.setTiming [n, hi, lo]) s = .next (answer Cmd.setTiming.code (.done []) t) ∧
          t.desc = { s.desc with timing := s.desc.timing.set p (be16 hi lo) } ∧ t.par p = be16 hi lo ∧
          (∀ q, q ≠ p → t.par q = s.par q) ∧
          Only [.desc, .merge, .handoffs, .lamps, .chans, .occupancy, .map] (openFrame .setTiming s) t ∧
          (∀ t0, p = .mergeSettle → s.par p ≠ be16 hi lo → s.det.merge.state = .settling →
            s.det.merge.settleFrom = some t0 →
            t.det.merge.state = (if t0 + be16 hi lo ≤ s.now then .clear else .settling)) ∧
          (p = .occupancyPeriod → s.par p ≠ be16 hi lo → s.det.periodFrom + be16 hi lo ≤ s.now →
            t.det.periodFrom = s.now ∧ t.det.occupancy = s.occupancyNow) ∧
          (p = .occupancyPeriod → s.now < s.det.periodFrom + be16 hi lo → Only [.desc] (openFrame .setTiming s) t) ∧
          (p = .lampProve → s.par p ≠ be16 hi lo →
            Only [.desc, .lamps, .handoffs] (openFrame .setTiming s) t ∧ t.lamps.sign = s.lamps.sign ∧
            (∀ l col r, r = s.lamp l col →
              (r.strayFor (be16 hi lo) s.now = true → t.lamp l col = { r with
                fault := .failedOn, noticeOnly := if r.fault = .failedOn then r.noticeOnly else false
                proving := .unproven, window := none, lostFrom := none }) ∧
              (r.strayFor (be16 hi lo) s.now = false → t.lamp l col = r)) ∧
            t.handoffs = s.handoffs ++ [0, 1, 2, 3].flatMap (fun l => [Colour.red, .amber, .green].flatMap (fun col =>
              if (s.lamp l col).strayFor (be16 hi lo) s.now = true ∧ (s.lamp l col).fault ≠ .failedOn then [.report]
              else [])))))) ∧
    Param.all.map Param.bounds =
      [(30, 600), (5, 30), (5, 40), (20, 50), (10, 100), (0, 10), (0, 50), (0, 600), (20, 300), (1, 10), (0, 7), (0, 1),
        (10, 600), (10, 600), (10, 600), (10, 600), (100, 3000), (1, 7), (2, 50), (50, 6000), (100, 1200), (0, 1)] ∧
    (∀ (p : Param) (v : Nat), p.inRange v = true ↔
      (p.bounds.1 ≤ v ∧ v ≤ p.bounds.2) ∨ (p = .linkLoss ∧ v = 0))

/-- RESET-CHANNEL (R27). The change of reading is taken by the merge monitor (R29, R31), the queue and spill monitors (R32,
R34) and the lanes' requests (R67 to R69); a lane has one message on its way at a time, the model's choice (log 11). -/
def Obligations.ResetChannelForcesGood : Prop :=
  ∀ (s : State) (c : Chan), LinkChecks s .resetChannel [] ∧
    (s.passes .resetChannel [] = true → c = s.link.held.chan.getD 0 →
    ((s.chan c).health = .good → Answers (exec (.resetChannel []) s) .resetChannel s (.done []) id) ∧
    ((s.chan c).health ≠ .good →
      ∃ t, exec (.resetChannel []) s = .next (answer Cmd.resetChannel.code (.done []) t) ∧
        Only [.chans, .merge, .monitors, .notices, .handoffs] (openFrame .resetChannel s) t ∧
        t.chan c = { s.chan c with health := .good, cause := none, contOccupied := 0, sinceActuation := 0 } ∧
        (t.chan c).reading = (s.chan c).occupied ∧ (∀ d, d ≠ c → t.chan d = s.chan d) ∧
        ReadingsTaken s.handoffs s t ∧
        t.link.notices = (openFrame .resetChannel s).link.notices ||| Notice.detector.bit))

/-! ### The site and the lamps -/

/-- START-METERING: its checks in their order, and the entry to STARTING (R42, R43, R51, R54). -/
def Obligations.StartMeteringEntersStarting : Prop :=
  ∀ s : State, s.passes .startMetering [] = true →
    (s.site.state ≠ .dark → Answers (exec (.startMetering []) s) .startMetering s (.refused .wrongState) id) ∧
    (s.site.state = .dark → s.plans.active = none →
      Answers (exec (.startMetering []) s) .startMetering s (.refused .noPlan) id) ∧
    (s.site.state = .dark → s.plans.active ≠ none → (∀ l, s.mode l = .unused ∨ s.mode l = .counted) →
      Answers (exec (.startMetering []) s) .startMetering s (.refused .conflict) id) ∧
    (s.site.state = .dark → s.plans.active ≠ none → (∃ l, s.mode l = .metered ∨ s.mode l = .timed) →
      ∃ t, exec (.startMetering []) s = .next (answer Cmd.startMetering.code (.done []) t) ∧
        Only [.site, .lanes, .lamps] (openFrame .startMetering s) t ∧
        t.site = { state := .starting, lampTestAt := none, warningAt := some (s.now + s.par .warnTime)
                   stopFlushAt := none } ∧
        t.lamps.sign = .flash ∧ (s.lamps.sign ≠ .flash → t.lamps.signFrom = s.now) ∧
        (∀ l, s.mode l = .metered ∨ s.mode l = .timed →
          t.lane l = { s.lane l with state := .warning, entryAt := s.now, minRed := false } ∧
          (t.head l).shows .warning) ∧
        (∀ l, s.mode l = .unused ∨ s.mode l = .counted → t.lane l = s.lane l ∧ t.head l = s.head l))

/-- STOP-METERING, state by state (R45), and the entry to STOPPING (R46, R47): a green goes to OPEN at once, its head as it
was, and hands its release end; a cut one writes its CUT record and counts one cut (R60, R61). A request on its way of a
red that opens is taken back (log 10).
The stop flush ends in DARK with every lane OFF (R47, R64). -/
def Obligations.StopMeteringAndTheStopFlushEndMetering : Prop :=
  (∀ s : State, s.passes .stopMetering [] = true →
    (s.site.state ≠ .starting → s.site.state ≠ .metering →
      Answers (exec (.stopMetering []) s) .stopMetering s (.done []) id) ∧
    (s.site.state = .starting →
      ∃ t, exec (.stopMetering []) s = .next (answer Cmd.stopMetering.code (.done []) t) ∧
        Only [.site, .lanes, .lamps, .notices] (openFrame .stopMetering s) t ∧
        t.site = SiteCtl.at .dark ∧ t.lamps.sign = .off ∧
        t.link.notices = (openFrame .stopMetering s).link.notices ||| Notice.site.bit ∧
        (∀ l, (s.lane l).state ≠ .off → t.lane l = (s.lane l).toOff s.now ∧ (t.head l).shows .off) ∧
        (∀ l, (s.lane l).state = .off → t.lane l = s.lane l)) ∧
    (s.site.state = .metering →
      ∃ t, exec (.stopMetering []) s = .next (answer Cmd.stopMetering.code (.done []) t) ∧
        Only [.site, .monitors, .lanes, .lamps, .arb, .entries, .records, .counts, .notices, .stream, .handoffs]
          (openFrame .stopMetering s) t ∧
        t.site.state = .stopping ∧ t.arb.shutSound ∧ t.arb.own = .shut ∧ t.arb.openRelease = s.arb.openRelease ∧
        t.arb.credit = s.arb.credit ∧ t.arb.grantNo = s.arb.grantNo ∧ t.lamps.sign = .off ∧
        t.ovr.entries = s.ovr.entries.filter (fun e => e.source == .link || e.source == .preempt) ∧
        (∀ l, t.det.queue.get l = Monitor.reset) ∧ t.det.spill = Monitor.reset ∧
        (∀ l, (t.lane l).inQueue = false ∧ (t.lane l).state =
          match (s.lane l).state with
          | .green => .opened
          | .red => if (s.lane l).minRed then .opened else .red
          | x => x) ∧
        (∀ l, (s.lane l).state = .green → t.head l = s.head l ∧ t.lane l = { s.lane l with
          state := .opened, entryAt := s.now, grant := none, size := none, greenFor := none, inQueue := false }) ∧
        (∀ l, (s.lane l).state = .red → (s.lane l).minRed = true →
          t.lane l = { (s.lane l).toOpen s.now with inQueue := false } ∧ (t.head l).shows .opened) ∧
        (∀ l, (s.lane l).state ≠ .green → (s.lane l).state ≠ .red ∨ (s.lane l).minRed = false →
          t.lane l = { s.lane l with inQueue := false } ∧ t.head l = s.head l) ∧
        t.handoffs =
          (s.handoffs ++ govSignals s t).filter (fun h => [0, 1, 2, 3].all (fun l =>
            !((s.lane l).state == .red && (s.lane l).minRed && isAsking l h))) ++
          [0, 1, 2, 3].flatMap (fun l => if (s.lane l).state = .green then (s.lane l).releaseEnds l else []) ∧
        (∀ u, u = { openFrame .stopMetering s with link := { (openFrame .stopMetering s).link with
            notices := (openFrame .stopMetering s).link.notices |||
              (if t.topGov = s.topGov then 0 else Notice.override.bit) } } →
          ((∀ l, (s.lane l).state = .green → (s.lane l).cut = false) → t.log = s.log ∧ t.link = u.link) ∧
          (∀ l, (s.lane l).state = .green → (∀ m, m ≠ l → (s.lane m).state = .green → (s.lane m).cut = false) →
            CutWritten l u t)) ∧
        ((∀ l, s.sequenced l = true → (t.lane l).state = .opened) → t.site.stopFlushAt = some (s.now + s.par .stopFlush)) ∧
        ((∃ l, s.sequenced l = true ∧ (t.lane l).state ≠ .opened) → t.site.stopFlushAt = none))) ∧
  (∀ (s : State) (t0 : Nat), s.resetIn = false → s.site.state = .stopping → s.site.stopFlushAt = some t0 → t0 ≤ s.now →
    ∃ t, exec .stopFlushExpiry s = .next t ∧ Only [.site, .lanes, .lamps, .notices] s t ∧
      t.site = SiteCtl.at .dark ∧ t.link.notices = s.link.notices ||| Notice.site.bit ∧ t.lamps.sign = .off ∧
      (∀ l, (s.lane l).state ≠ .off → t.lane l = (s.lane l).toOff s.now ∧ (t.head l).shows .off) ∧
      (∀ l, (s.lane l).state = .off → t.lane l = s.lane l))

/-- SITE-RESET (R50; refused in FAILSAFE): SITE is raised unless the site was DARK (R41), OVERRIDE if the stack held an
entry or a held pre-emption input is pushed. The last clause, that a release end already handed does not outlive the
lane's OFF, is the model's (log 10). -/
def Obligations.SiteResetReturnsToDark : Prop :=
  ∀ s : State, s.passes .siteReset [] = true →
    (s.site.state = .failsafe → Answers (exec (.siteReset []) s) .siteReset s (.refused .wrongState) id) ∧
    (s.site.state ≠ .failsafe →
      ∃ t, exec (.siteReset []) s = .next (answer Cmd.siteReset.code (.done []) t) ∧
        Only [.site, .monitors, .lanes, .lamps, .arb, .entries, .notices, .handoffs] (openFrame .siteReset s) t ∧
        t.site = SiteCtl.at .dark ∧ t.lamps.sign = .off ∧
        (∀ l, t.lane l = (s.lane l).toOff s.now ∧ (t.head l).shows .off) ∧
        t.arb.own = .shut ∧ t.arb.shutSound ∧ t.arb.openRelease = none ∧ t.arb.credit = s.arb.credit ∧
        t.arb.prioCount = s.arb.prioCount ∧ t.arb.grantNo = s.arb.grantNo ∧
        t.ovr.entries = (if s.ovr.preLevel then [preemptEntry] else []) ∧
        (∀ l, t.det.queue.get l = Monitor.reset) ∧ t.det.spill = Monitor.reset ∧
        t.link.notices = (openFrame .siteReset s).link.notices |||
          (if s.site.state = .dark then 0 else Notice.site.bit) |||
          (if s.ovr.entries = [] ∧ s.ovr.preLevel = false then 0 else Notice.override.bit) ∧
        (∀ l g, Handoff.releaseEnd l g ∉ t.handoffs))

/-- CLEAR-FAILSAFE: only in FAILSAFE with every lamp sensed OFF (R49, R135); every lamp is then PROVEN with no fault, no
window and its retries loaded, and its command and output stand (R89).
CLEAR-AMBER-FAULT clears the notice-only faults of the amber lamps it covers, proves their present command as at a new
command, a FLASH from a whole on-phase (log 37), and touches no other lamp (R88). -/
def Obligations.LampFaultsAreCleared : Prop :=
  (∀ s : State, s.passes .clearFailsafe [] = true →
    (s.site.state ≠ .failsafe ∨ (∃ l col, (s.lamp l col).sensed = true) →
      Answers (exec (.clearFailsafe []) s) .clearFailsafe s (.refused .wrongState) id) ∧
    (s.site.state = .failsafe → (∀ l col, (s.lamp l col).sensed = false) →
      ∃ t, exec (.clearFailsafe []) s = .next (answer Cmd.clearFailsafe.code (.done []) t) ∧
        Only [.site, .lamps, .entries, .notices, .handoffs] (openFrame .clearFailsafe s) t ∧
        t.site = SiteCtl.at .dark ∧ t.link.notices &&& Notice.site.bit ≠ 0 ∧
        (∀ l col, t.lamp l col = { s.lamp l col with
          fault := .none, noticeOnly := false, proving := .proven, window := none, retries := s.par .lampRetries }) ∧
        (s.ovr.preLevel = false → t.ovr.entries = s.ovr.entries) ∧
        (s.ovr.preLevel = true → s.ovr.entries = [] → t.ovr.entries = [preemptEntry]))) ∧
  (∀ s : State, s.passes .clearAmberFault [] = true →
    ∃ t, exec (.clearAmberFault []) s = .next (answer Cmd.clearAmberFault.code (.done []) t) ∧
      Only [.lamps] (openFrame .clearAmberFault s) t ∧ t.lamps.sign = s.lamps.sign ∧
      ∀ l, (t.lamp l .red = s.lamp l .red ∧ t.lamp l .green = s.lamp l .green) ∧
        ((s.link.held.lane = none ∨ s.link.held.lane = some l) → (s.lamp l .amber).fault = .failedOff →
          (s.lamp l .amber).noticeOnly = true →
          (t.lamp l .amber).fault = .none ∧ (t.lamp l .amber).noticeOnly = false ∧
          (t.lamp l .amber).retries = s.par .lampRetries ∧
          (t.lamp l .amber).commanded = (s.lamp l .amber).commanded ∧
          ((s.lamp l .amber).commanded = .on → (t.lamp l .amber).output = .driven ∧
            (t.lamp l .amber).proving = (if (s.lamp l .amber).sensed then .proven else .proving) ∧
            (t.lamp l .amber).window = (if (s.lamp l .amber).sensed then none else some s.now)) ∧
          ((s.lamp l .amber).commanded = .off → (t.lamp l .amber).output = .dark ∧
            (t.lamp l .amber).proving = (if (s.lamp l .amber).sensed then .proving else .proven) ∧
            (t.lamp l .amber).window = (if (s.lamp l .amber).sensed then some s.now else none)) ∧
          ((s.lamp l .amber).commanded = .flash → (t.lamp l .amber).output = .driven ∧
            (t.lamp l .amber).proving = (if (s.lamp l .amber).sensed then .proven else .proving) ∧
            (t.lamp l .amber).window = none ∧ (t.lamp l .amber).phaseEnd = some (s.now + 5) ∧
            (t.lamp l .amber).phaseSeen = (s.lamp l .amber).sensed)) ∧
        ((∃ k, s.link.held.lane = some k ∧ k ≠ l) ∨ (s.lamp l .amber).fault ≠ .failedOff ∨
          (s.lamp l .amber).noticeOnly = false → t.lamp l .amber = s.lamp l .amber))

/-! ### Plans -/

/-- WRITE-PLAN and ERASE-PLAN change one slot; an invalid record, a protected slot and a slot in use are refused in
that order (R116, R117, R119, R121). A record written is laid out as READ-PLAN gives it. -/
def Obligations.PlansAreWrittenAndErased : Prop :=
  ∀ (s : State) (i : Slot), i = s.link.held.slot.getD 0 →
    (∀ p : Plan, p.valid = true → s.passes .writePlan p.data = true →
      (s.plans.guarded.get (groupOf i) = true →
        Answers (exec (.writePlan p.data) s) .writePlan s (.refused .guarded) id) ∧
      (s.plans.guarded.get (groupOf i) = false → (s.plans.active = some i ∨ s.plans.staged = some i) →
        Answers (exec (.writePlan p.data) s) .writePlan s (.refused .inUse) id) ∧
      (s.plans.guarded.get (groupOf i) = false → s.plans.active ≠ some i → s.plans.staged ≠ some i →
        Answers (exec (.writePlan p.data) s) .writePlan s (.done [])
          (fun u => { u with plans := { s.plans with slots := Bank.put s.plans.slots i (some p) } }))) ∧
    (∀ iHi iLo fHi fLo n w0 w1 w2 w3 every : Byte,
      s.passes .writePlan [iHi, iLo, fHi, fLo, n, w0, w1, w2, w3, every] = true →
      (be16 iHi iLo < 8 ∨ 600 < be16 iHi iLo ∨ be16 fHi fLo < 8 ∨ be16 iHi iLo < be16 fHi fLo ∨ n.toNat = 0 ∨
        3 < n.toNat ∨ (∃ w ∈ [w0, w1, w2, w3], 7 < w.toNat) ∨ (∀ w ∈ [w0, w1, w2, w3], w = 0) ∨ 15 < every.toNat) →
      Answers (exec (.writePlan [iHi, iLo, fHi, fLo, n, w0, w1, w2, w3, every]) s) .writePlan s .range id) ∧
    (s.passes .erasePlan [] = true →
      (s.plans.guarded.get (groupOf i) = true →
        Answers (exec (.erasePlan []) s) .erasePlan s (.refused .guarded) id) ∧
      (s.plans.guarded.get (groupOf i) = false → (s.plans.active = some i ∨ s.plans.staged = some i) →
        Answers (exec (.erasePlan []) s) .erasePlan s (.refused .inUse) id) ∧
      (s.plans.guarded.get (groupOf i) = false → s.plans.active ≠ some i → s.plans.staged ≠ some i →
        Answers (exec (.erasePlan []) s) .erasePlan s (.done [])
          (fun u => { u with plans := { s.plans with slots := Bank.put s.plans.slots i none } }))) ∧
    (∀ (b : Bank (Option Plan)) (q : Option Plan) (j : Slot),
      Bank.at (Bank.put b i q) j = (if j = i then q else Bank.at b j))

/-- SELECT-PLAN outside METERING takes effect at once and clamps the credits; in METERING it stages (R122, R123, R101). -/
def Obligations.SelectPlanSelectsOrStages : Prop :=
  ∀ s : State, s.passes .selectPlan [] = true →
    (∀ i, s.link.held.slot = some i → s.slot i = none →
      Answers (exec (.selectPlan []) s) .selectPlan s (.refused .emptySlot) id) ∧
    (s.link.held.slot = none → Answers (exec (.selectPlan []) s) .selectPlan s (.done [])
      (fun u => { u with plans := { s.plans with staged := none } })) ∧
    (∀ i p, s.link.held.slot = some i → s.slot i = some p → s.site.state = .metering →
      Answers (exec (.selectPlan []) s) .selectPlan s (.done []) (fun u =>
        { u with plans := { s.plans with staged := if s.plans.active = some i then none else some i } })) ∧
    (∀ i p, s.link.held.slot = some i → s.slot i = some p → s.site.state ≠ .metering →
      Answers (exec (.selectPlan []) s) .selectPlan s (.done []) (fun u =>
        { u with
          plans := { s.plans with active := some i, staged := none }
          arb := { s.arb with
            credit := Quad.tab (fun l =>
              if s.desc.priority = some l then s.arb.credit.get l
              else min (s.arb.credit.get l) (p.weights.get l)) } }))

/-- PROTECT-GROUP and UNPROTECT-GROUP set and clear the flag of one group, and touch nothing else; while the flag is
set a write and an erase of any slot of the group are refused with PROTECTED, while READ-PLAN, SELECT-PLAN, the local
selector's selection and a promotion go on as for any other slot (R120). -/
def Obligations.GroupsAreProtectedAndUnprotected : Prop :=
  ∀ (s : State) (b : Byte), LinkChecks s .protectGroup [b] ∧ LinkChecks s .unprotectGroup [b] ∧
    (s.passes .protectGroup [b] = true →
      (4 ≤ b.toNat → Answers (exec (.protectGroup [b]) s) .protectGroup s .range id) ∧
      (∀ g : Fin 4, b.toNat = g.val → Answers (exec (.protectGroup [b]) s) .protectGroup s (.done [])
        (fun u => { u with plans := { s.plans with guarded := s.plans.guarded.set g true } }))) ∧
    (s.passes .unprotectGroup [b] = true →
      (4 ≤ b.toNat → Answers (exec (.unprotectGroup [b]) s) .unprotectGroup s .range id) ∧
      (∀ g : Fin 4, b.toNat = g.val → Answers (exec (.unprotectGroup [b]) s) .unprotectGroup s (.done [])
        (fun u => { u with plans := { s.plans with guarded := s.plans.guarded.set g false } }))) ∧
    (∀ i : Slot, (groupOf i).val = i.val / 4) ∧
    (∀ p : Plan, p.valid = true → s.passes .writePlan p.data = true →
      s.plans.guarded.get (groupOf (s.link.held.slot.getD 0)) = true →
      Answers (exec (.writePlan p.data) s) .writePlan s (.refused .guarded) id) ∧
    (s.passes .erasePlan [] = true → s.plans.guarded.get (groupOf (s.link.held.slot.getD 0)) = true →
      Answers (exec (.erasePlan []) s) .erasePlan s (.refused .guarded) id) ∧
    (∀ (i : Slot) (p : Plan), s.link.held.slot = some i → s.slot i = some p →
      (s.passes .readPlan [] = true → Answers (exec (.readPlan []) s) .readPlan s (.done p.data) id) ∧
      (s.passes .selectPlan [] = true →
        Answers (exec (.selectPlan []) s) .selectPlan s (.done []) (selectSlot i))) ∧
    (∀ (f : State → State) (q : Quad Bool), ((∃ i, f = selectSlot i) ∨ (∃ l, f = promote l)) →
      f { s with plans := { s.plans with guarded := q } } =
        { f s with plans := { (f s).plans with guarded := q } })

/-! ### Overrides -/

/-- PUSH-OVERRIDE: refused in FAILSAFE, RANGE, then the duplicate is replaced in its place, a new entry is placed by
rank, or a full stack refuses it (R130, R132, R133).
An automatic push: a duplicate's limit is renewed, a new entry is placed, a full stack evicts a bottom entry of
lower rank or drops the push, each with an OVERRIDE notice (R136); a change of the governing entry is handed on, at an
eviction too (R130). -/
def Obligations.PushesKeepTheStackOrdered : Prop :=
  (∀ (s : State) (kind lHi lLo fHi fLo : Byte), s.passes .pushOverride [kind, lHi, lLo, fHi, fLo] = true →
    ∀ o, o = exec (.pushOverride [kind, lHi, lLo, fHi, fLo]) s →
    (s.site.state = .failsafe → Answers o .pushOverride s (.refused .wrongState) id) ∧
    (s.site.state ≠ .failsafe →
      (kind = 0 ∨ 4 < kind.toNat ∨ (0 < be16 lHi lLo ∧ be16 lHi lLo < 10) ∨ 60000 < be16 lHi lLo ∨
        (kind = 1 ∧ (be16 fHi fLo < 8 ∨ 600 < be16 fHi fLo)) → Answers o .pushOverride s .range id) ∧
      (∀ (k : OvKind) (e : Entry), kind = kindCode k →
        (be16 lHi lLo = 0 ∨ (10 ≤ be16 lHi lLo ∧ be16 lHi lLo ≤ 60000)) →
        (k = .fixed → 8 ≤ be16 fHi fLo ∧ be16 fHi fLo ≤ 600) →
        e = { kind := k, source := .link
              lanes := if k = .flush then s.link.held.lane else none
              limit := if be16 lHi lLo = 0 then none else some (be16 lHi lLo)
              fixed := if k = .fixed then some (be16 fHi fLo) else none } →
        ((∃ f ∈ s.ovr.entries, f.kind = k ∧ f.source = .link) →
          ∃ t, o = .next (answer Cmd.pushOverride.code (.done []) t) ∧
            StackBecomes (s.ovr.entries.map (fun f => if f.kind = k ∧ f.source = .link then e else f))
              (openFrame .pushOverride s) t) ∧
        ((∀ f ∈ s.ovr.entries, f.kind = k → f.source ≠ .link) → s.ovr.entries.length < 4 →
          ∃ t, o = .next (answer Cmd.pushOverride.code (.done []) t) ∧
            StackBecomes
              (s.ovr.entries.takeWhile (fun f => decide (rankOf k < rankOf f.kind)) ++
                e :: s.ovr.entries.dropWhile (fun f => decide (rankOf k < rankOf f.kind)))
              (openFrame .pushOverride s) t) ∧
        ((∀ f ∈ s.ovr.entries, f.kind = k → f.source ≠ .link) → 4 ≤ s.ovr.entries.length →
          Answers o .pushOverride s (.refused .full) id))) ∧
    [OvKind.clearout, .close, .flush, .fixed].map rankOf = [4, 3, 2, 1]) ∧
  (∀ (e : Entry) (s : State),
    Only [.entries, .notices, .handoffs, .lamps] s (automaticPush e s) ∧
    (automaticPush e s).ovr.entries = afterAutomaticPush e s.ovr.entries ∧
    ((s.ovr.entries.length < 4 ∨ ∃ f ∈ s.ovr.entries, f.kind = e.kind ∧ f.source = e.source) →
      StackBecomes (afterAutomaticPush e s.ovr.entries) s (automaticPush e s)) ∧
    (∀ bottom u, s.ovr.entries.length = 4 → (∀ f ∈ s.ovr.entries, ¬(f.kind = e.kind ∧ f.source = e.source)) →
      s.ovr.entries.getLast? = some bottom →
      u = { s with link := { s.link with notices := s.link.notices ||| Notice.override.bit } } →
      (rankOf bottom.kind < rankOf e.kind →
        StackBecomes
          (s.ovr.entries.dropLast.takeWhile (fun f => decide (rankOf e.kind < rankOf f.kind)) ++
            e :: s.ovr.entries.dropLast.dropWhile (fun f => decide (rankOf e.kind < rankOf f.kind)))
          u (automaticPush e s)) ∧
      (rankOf e.kind ≤ rankOf bottom.kind → automaticPush e s = u)) ∧
    (s.ovr.entries.length = 4 → (∀ f ∈ s.ovr.entries, ¬(f.kind = e.kind ∧ f.source = e.source)) →
      (automaticPush e s).link.notices &&& Notice.override.bit ≠ 0))

/-- REMOVE-OVERRIDE removes the LINK entry of one kind at once, and no entry of another source; with none it is refused
with NOT-FOUND (R139). -/
def Obligations.RemoveOverrideRemovesTheLinkEntry : Prop :=
  ∀ (s : State) (b : Byte), s.passes .removeOverride [b] = true →
    (b = 0 ∨ 4 < b.toNat → Answers (exec (.removeOverride [b]) s) .removeOverride s .range id) ∧
    (∀ k : OvKind, b = kindCode k →
      ((∃ f ∈ s.ovr.entries, f.kind = k ∧ f.source = .link) →
        ∃ t, exec (.removeOverride [b]) s = .next (answer Cmd.removeOverride.code (.done []) t) ∧
          StackBecomes (s.ovr.entries.filter (fun f => !(f.kind == k && f.source == .link)))
            (openFrame .removeOverride s) t) ∧
      ((∀ f ∈ s.ovr.entries, f.kind = k → f.source ≠ .link) →
        Answers (exec (.removeOverride [b]) s) .removeOverride s (.refused .notFound) id)) ∧
    [OvKind.fixed, .flush, .close, .clearout].map kindCode = [1, 2, 3, 4]

/-! ### The band map -/

/-- The map editing protocol: each command in and out of its order, and MAP-ASSIGN's write (R149, R150, R151; the
argument's range is looked at first, log 26). -/
def Obligations.TheMapIsEditedInOrder : Prop :=
  ∀ (s : State) (b : Byte),
    (∀ d : Band, b.toNat = d.val →
      (s.passes .mapFrom [b] = true → Answers (exec (.mapFrom [b]) s) .mapFrom s (.done [])
        (fun u => { u with sel := { s.sel with sel := .fromHeld d } })) ∧
      (s.passes .mapTo [b] = true →
        (∀ f, s.sel.sel = .fromHeld f → f ≤ d → Answers (exec (.mapTo [b]) s) .mapTo s (.done [])
          (fun u => { u with sel := { s.sel with sel := .rangeHeld f d (Bank.fill false) } })) ∧
        ((∀ f, s.sel.sel = .fromHeld f → d < f) → Answers (exec (.mapTo [b]) s) .mapTo s .order
          (fun u => { u with sel := { s.sel with sel := .none } }))) ∧
      (s.passes .mapSkip [b] = true →
        (∀ f t k, s.sel.sel = .rangeHeld f t k → f ≤ d → d ≤ t → Answers (exec (.mapSkip [b]) s) .mapSkip s (.done [])
          (fun u => { u with sel := { s.sel with sel := .rangeHeld f t (Bank.put k d true) } })) ∧
        ((∀ f t k, s.sel.sel = .rangeHeld f t k → d < f ∨ t < d) → Answers (exec (.mapSkip [b]) s) .mapSkip s .order
          (fun u => { u with sel := { s.sel with sel := .none } })))) ∧
    (16 ≤ b.toNat →
      (s.passes .mapFrom [b] = true → Answers (exec (.mapFrom [b]) s) .mapFrom s .range
        (fun u => { u with sel := { s.sel with sel := .none } })) ∧
      (s.passes .mapTo [b] = true → Answers (exec (.mapTo [b]) s) .mapTo s .range
        (fun u => { u with sel := { s.sel with sel := .none } })) ∧
      (s.passes .mapSkip [b] = true → Answers (exec (.mapSkip [b]) s) .mapSkip s .range
        (fun u => { u with sel := { s.sel with sel := .none } })) ∧
      (b ≠ 0xFF → s.passes .mapAssign [b] = true → Answers (exec (.mapAssign [b]) s) .mapAssign s .range
        (fun u => { u with sel := { s.sel with sel := .none } }))) ∧
    (∀ e : Option Slot, b = optByte e → s.passes .mapAssign [b] = true →
      (s.sel.sel = .none → Answers (exec (.mapAssign [b]) s) .mapAssign s .order id) ∧
      (s.sel.sel ≠ .none → ∃ t, exec (.mapAssign [b]) s = .next (answer Cmd.mapAssign.code (.done []) t) ∧
        Only [.map, .selection] (openFrame .mapAssign s) t ∧ t.sel.sel = .none ∧ t.sel.lastBand = s.sel.lastBand ∧
        (∀ f, s.sel.sel = .fromHeld f →
          ∀ d, Bank.at t.sel.map d = (if d = f then e else Bank.at s.sel.map d)) ∧
        (∀ f g k, s.sel.sel = .rangeHeld f g k →
          ∀ d, Bank.at t.sel.map d =
            (if f ≤ d ∧ d ≤ g ∧ Bank.at k d = false then e else Bank.at s.sel.map d))))

/-! ### The log and the counters -/

/-- STREAM-LOG starts a stream of its own; with the log empty its end frame is formed at once (R158). STOP-STREAM is
accepted, its frame having ended the stream (R159). -/
def Obligations.StreamsAreStartedAndStopped : Prop :=
  ∀ s : State,
    (s.passes .stopStream [] = true → Answers (exec (.stopStream []) s) .stopStream s (.done []) id) ∧
    (∀ n : Byte, s.passes .streamLog [n] = true →
      (s.log.records = [] → Answers (exec (.streamLog [n]) s) .streamLog s (.done [0, 0]) id) ∧
      (∀ r rs, s.log.records = r :: rs →
        ∃ t, exec (.streamLog [n]) s = .next t ∧ Only [.link, .stream] (openFrame .streamLog s) t ∧
          t.link.outstanding = (openFrame .streamLog s).link.outstanding ∧
          t.link.discard = (openFrame .streamLog s).link.discard ∧
          ∃ f, t.link.stream = some { asked := n.toNat, delivered := 0, flight := f } ∧
            ((openFrame .streamLog s).link.outstanding = [] → f = some { copy := r, overwritten := false }) ∧
            ((openFrame .streamLog s).link.sending ≠ none → f = none)))

/-- READ-LOG-STATE gives the record count and the lost count and sets the lost count to 0 (R157).
READ-COUNTS reads and CLEAR-COUNTS clears the counters of a lane, or with no LANE prefix of the slip, or of all
(R161). A write into the log appends, and at 256 records overwrites the oldest, which counts as lost, saturating, and a
record in flight as overwritten; LOG is raised at 191 to 192 records and at a lost count of 0 to 1 (R155, R156, R158). -/
def Obligations.TheLogStateAndTheCountsAreRead : Prop :=
  (∀ s : State, s.passes .readLogState [] = true →
    Answers (exec (.readLogState []) s) .readLogState s
      (.done [BitVec.ofNat 8 (s.log.records.length / 256), BitVec.ofNat 8 s.log.records.length,
        BitVec.ofNat 8 (s.log.lost / 256), BitVec.ofNat 8 s.log.lost])
      (fun u => { u with log := { s.log with lost := 0 } })) ∧
  (∀ s : State,
    (s.passes .readCounts [] = true →
      (∀ l, s.link.held.lane = some l → Answers (exec (.readCounts []) s) .readCounts s
        (.done ([(s.log.lanes.get l).grants, (s.log.lanes.get l).passages, (s.log.lanes.get l).noShows,
          (s.log.lanes.get l).violations].flatMap (fun c => bytes16 c.toNat))) id) ∧
      (s.link.held.lane = none → Answers (exec (.readCounts []) s) .readCounts s
        (.done ([s.log.slip.grants, s.log.slip.cuts, s.log.slip.yields, s.log.slip.expired].flatMap
          (fun c => bytes16 c.toNat))) id)) ∧
    (s.passes .clearCounts [] = true →
      (∀ l, s.link.held.lane = some l → Answers (exec (.clearCounts []) s) .clearCounts s (.done [])
        (fun u => { u with log := { s.log with
          lanes := s.log.lanes.set l { grants := 0, passages := 0, noShows := 0, violations := 0 } } })) ∧
      (s.link.held.lane = none → Answers (exec (.clearCounts []) s) .clearCounts s (.done [])
        (fun u => { u with log := { s.log with
          lanes := Quad.all { grants := 0, passages := 0, noShows := 0, violations := 0 }
          slip := { grants := 0, cuts := 0, yields := 0, expired := 0 } } })))) ∧
  (∀ (r : PassRec) (s t : State), t = writeRec r s →
    Only [.records, .notices, .stream] s t ∧
    (s.log.records.length < 256 →
      t.log.records = s.log.records ++ [r] ∧ t.log.lost = s.log.lost ∧ t.link.stream = s.link.stream ∧
      t.link.notices =
        (if s.log.records.length = 191 then s.link.notices ||| Notice.log.bit else s.link.notices)) ∧
    (256 ≤ s.log.records.length →
      t.log.records = s.log.records.tail ++ [r] ∧ t.log.lost = min 65535 (s.log.lost + 1) ∧
      t.link.stream = s.link.stream.map (fun st =>
        { st with flight := st.flight.map (fun f => { f with overwritten := true }) }) ∧
      t.link.notices = (if s.log.lost = 0 then s.link.notices ||| Notice.log.bit else s.link.notices)))

/-! ### The detector monitor -/

/-- An input level starts, keeps or discards the pending change of its channel; with filter 0 it is taken at once
(R22); during a reset it is a pending change from the reset on (R36).
An actuation that has held its filter time is counted and restarts the channel's times; it ends a STUCK-OFF with a
DETECTOR notice; an ADVANCE channel hands it to the arbiter unless it is STUCK-ON; an OCCUPIED GOOD MERGE channel makes
the merge BUSY, handed to the arbiter and to every lane (R22, R26, R31); the merge, queue and spill monitors and the lanes'
demand take the new reading (R30, R31, R32, R34, R67 to R69). -/
def Obligations.DetectorInputsAreFilteredAndActuationsTaken : Prop :=
  (∀ (s : State) (c : Chan) (level : Bool),
    (s.resetIn = false → (s.chan c).input = level → exec (.detectorInputChange c level) s = .next s) ∧
    (s.resetIn = false → (s.chan c).input ≠ level → (s.chan c).occupied = level →
      exec (.detectorInputChange c level) s = .next (s.modChan c (fun r => { r with input := level, changeFrom := none }))) ∧
    (s.resetIn = false → (s.chan c).input ≠ level → (s.chan c).occupied ≠ level →
      ∀ t, t = s.modChan c (fun r => { r with input := level, changeFrom := some s.now }) →
        (0 < (s.chan c).filter → exec (.detectorInputChange c level) s = .next t) ∧
        ((s.chan c).filter = 0 →
          exec (.detectorInputChange c level) s = exec (if level then .actuation c else .clearing c) t)) ∧
    (s.resetIn = true → exec (.detectorInputChange c level) s =
      .next (s.modChan c (fun _ => { Channel.reset with
        input := level, changeFrom := if level then some 0 else none })))) ∧
  (∀ (s : State) (c : Chan) (t0 : Nat), s.resetIn = false → (s.chan c).occupied = false →
    (s.chan c).changeFrom = some t0 → t0 + (s.chan c).filter ≤ s.now →
    ∃ t, exec (.actuation c) s = .next t ∧ Only [.chans, .merge, .monitors, .notices, .handoffs] s t ∧
      t.chan c = { s.chan c with
        occupied := true, changeFrom := none, count := (s.chan c).count + 1, sinceActuation := 0, contOccupied := 0
        health := if (s.chan c).health = .stuckOff then .good else (s.chan c).health
        cause := if (s.chan c).health = .stuckOff then none else (s.chan c).cause } ∧
      (∀ d, d ≠ c → t.chan d = s.chan d) ∧
      t.link.notices =
        (if (s.chan c).health = .stuckOff then s.link.notices ||| Notice.detector.bit else s.link.notices) ∧
      ((s.chan c).role = .advance → (s.chan c).health ≠ .stuckOn → Handoff.advance ∈ t.handoffs) ∧
      ((s.chan c).role = .merge → (s.chan c).health ≠ .stuckOn →
        t.det.merge = { state := .busy, settleFrom := none } ∧
        (s.det.merge.state ≠ .busy → Handoff.mergeChange ∈ t.handoffs ∧ ∀ l, Handoff.busyEntry l ∈ t.handoffs)) ∧
      ReadingsTaken
        (if (s.chan c).role = .advance ∧ (s.chan c).health ≠ .stuckOn then s.handoffs ++ [.advance] else s.handoffs) s t)

/-- A clearing that has held its filter time ends the occupied time; it ends a STUCK-ON with a DETECTOR notice and no
passage. One that is no passage touches no lane and no record, and the consumers of the readings take it (R22, R26, R30 to
R34, R67 to R69).
A clearing of a GOOD STOP channel is a passage of its lane: its record by the lane's state, the counters, the
passages in grant, and the no-show chain (R70, R71, R73, R154, R155, R156, R160). A passage that brings a green to its
release size ends it from min_green (R56, R57), a cut one then with its CUT record after the passage's (R61); any other
leaves the lane in its state. What a write does to a log with room and to a full one is O31. -/
def Obligations.ClearingsAreTakenAndPassagesRecorded : Prop :=
  (∀ (s : State) (c : Chan) (t0 : Nat), s.resetIn = false → (s.chan c).occupied = true →
    (s.chan c).changeFrom = some t0 → t0 + (s.chan c).filter ≤ s.now →
    ∃ t, exec (.clearing c) s = .next t ∧
      t.chan c = { s.chan c with
        occupied := false, changeFrom := none, contOccupied := 0
        sinceActuation := if (s.chan c).health = .stuckOn then 0 else (s.chan c).sinceActuation
        health := if (s.chan c).health = .stuckOn then .good else (s.chan c).health
        cause := if (s.chan c).health = .stuckOn then none else (s.chan c).cause } ∧
      (∀ d, d ≠ c → t.chan d = s.chan d) ∧
      ((s.chan c).role ≠ .stop ∨ (s.chan c).health ≠ .good ∨ (∀ l, (s.chan c).lane = some l → s.mode l = .unused) →
        Only [.chans, .merge, .monitors, .notices, .handoffs] s t ∧
        t.link.notices =
          (if (s.chan c).health = .stuckOn then s.link.notices ||| Notice.detector.bit else s.link.notices) ∧
        ReadingsTaken s.handoffs s t)) ∧
  (∀ (s : State) (c : Chan) (t0 : Nat) (l : Lane) (k : RecKind) (counts : Bool), s.resetIn = false →
    (s.chan c).occupied = true → (s.chan c).changeFrom = some t0 → t0 + (s.chan c).filter ≤ s.now →
    (s.chan c).role = .stop → (s.chan c).health = .good → (s.chan c).lane = some l → s.mode l ≠ .unused →
    k = (if s.mode l = .counted then .unmetered
      else
        match (s.lane l).state with
        | .off => .unmetered
        | .warning => .unmetered
        | .opened => .unmetered
        | .green => .released
        | .amber => if (s.lane l).grant = none then .unmetered else .late
        | .red =>
          if s.par .redGrace < s.now - (s.lane l).entryAt then .violation
          else if (s.lane l).grant = none then .unmetered else .late) →
    counts = (k == .released || k == .late) →
    ∃ t, exec (.clearing c) s = .next t ∧
      Only [.chans, .merge, .monitors, .lanes, .lamps, .records, .counts, .notices, .stream, .handoffs] s t ∧
      (∀ (n : Nat) (q : LaneRec),
        n = (if counts then min 255 ((s.lane l).passages + 1) else (s.lane l).passages) →
        q = { s.lane l with noShows := 0, passages := n } →
        (∀ (rec : PassRec) (w x : State),
          rec = { time := s.siteTime, lane := l, kind := k, plan := s.plans.active
                  grant := if counts then (s.lane l).grant else none, shortfall := none } → w = writeRec rec s →
          x = { w with
            lanes := w.lanes.set l q
            log := { w.log with lanes := s.log.lanes.set l { s.log.lanes.get l with
              passages := (s.log.lanes.get l).passages + 1
              violations := if k = .violation then (s.log.lanes.get l).violations + 1
                else (s.log.lanes.get l).violations } } } →
          (s.log.records.length < 256 → w.log.records = s.log.records ++ [rec]) ∧
          (((t.lane l).state = (s.lane l).state ∧ t.log = x.log ∧ t.link = x.link) ∨
            ((s.lane l).state = .green ∧ (t.lane l).state = .amber ∧ CutWritten l x t))) ∧
        ((s.lane l).state ≠ .green → t.lane l = q ∧ t.lamps = s.lamps ∧ ReadingsTaken s.handoffs s t) ∧
        (∀ t1 d z, (s.lane l).state = .green → (s.lane l).onsetAt = some t1 → (s.lane l).greenFor = some d →
          (s.lane l).size = some z →
          (t1 + s.par .minGreen ≤ s.now → (z ≤ n ∨ t1 + d ≤ s.now ∨ (s.lane l).cut = true ∨
              (s.site.state = .metering ∧ govIs (s.lane l).gov .close = true)) →
            LaneBecomes l (q.toAmber s.now) .amber s t ∧
            (∀ g, (s.lane l).grant = some g → ReadingsTaken (s.handoffs ++ [.releaseEnd l g]) s t)) ∧
          (s.now < t1 + s.par .minGreen ∨ (n < z ∧ s.now < t1 + d ∧ (s.lane l).cut = false ∧
              (s.site.state ≠ .metering ∨ govIs (s.lane l).gov .close = false)) →
            t.lane l = q ∧ t.lamps = s.lamps ∧ ReadingsTaken s.handoffs s t))) ∧
      (t.log.lanes.get l).passages = (s.log.lanes.get l).passages + 1 ∧
      (t.log.lanes.get l).violations =
        (if k = .violation then (s.log.lanes.get l).violations + 1 else (s.log.lanes.get l).violations) ∧
      (t.lane l).noShows = 0 ∧
      (t.lane l).passages = (if counts then min 255 ((s.lane l).passages + 1) else (s.lane l).passages) ∧
      (∀ m, m ≠ l → t.lane m = s.lane m))

/-- A supervised channel becomes STUCK-ON when its continuous-occupied time exceeds the stuck-on limit (R23), STUCK-OFF
in METERING when its time since actuation exceeds the stuck-off limit (R24), and STUCK-ON by a lane's claim on its
DEMAND channel (R25); each raises DETECTOR.
A claim on a channel that is no longer GOOD, OCCUPIED and the lane's DEMAND channel has no effect (R25).
The change of reading is taken by every consumer (R29); what the words for readings and bindings mean is said last. -/
def Obligations.ChannelsBecomeStuck : Prop :=
  (∀ (s : State) (c : Chan) (h : Health) (w : Cause) (i : Instr), s.resetIn = false → (s.chan c).health = .good →
    ((i = .stuckOnExpiry c ∧ h = .stuckOn ∧ w = .continuous ∧ (s.chan c).role ≠ .none ∧ (s.chan c).onLimit ≠ 0 ∧
        (s.chan c).occupied = true ∧ (s.chan c).onLimit < (s.chan c).contOccupied) ∨
      (i = .stuckOffExpiry c ∧ h = .stuckOff ∧ w = .noActuation ∧ (s.chan c).role ≠ .none ∧ (s.chan c).offLimit ≠ 0 ∧
        s.site.state = .metering ∧ (s.chan c).offLimit < (s.chan c).sinceActuation) ∨
      (∃ l, i = .noShowClaim l ∧ h = .stuckOn ∧ w = .noShow ∧ (s.chan c).role = .demand ∧ (s.chan c).lane = some l ∧
        (s.chan c).occupied = true ∧ s.waiting (isClaim l) = some (.claim l c))) →
    ∃ t, exec i s = .next t ∧ Only [.chans, .merge, .monitors, .notices, .handoffs] s t ∧
      t.chan c = { s.chan c with health := h, cause := some w } ∧ (∀ d, d ≠ c → t.chan d = s.chan d) ∧
      t.link.notices = s.link.notices ||| Notice.detector.bit ∧
      (t.chan c).reading = ((s.chan c).role == .demand) ∧
      ReadingsTaken (match i with
        | .noShowClaim l => s.handoffs.erase (.claim l c)
        | _ => s.handoffs) s t) ∧
  (∀ (s : State) (l : Lane) (c : Chan), s.resetIn = false → s.waiting (isClaim l) = some (.claim l c) →
    ((s.chan c).health ≠ .good ∨ (s.chan c).occupied = false ∨ (s.chan c).role ≠ .demand ∨ (s.chan c).lane ≠ some l) →
    ∃ t, exec (.noShowClaim l) s = .next t ∧ Only [.handoffs] s t ∧ t.handoffs = s.handoffs.erase (.claim l c)) ∧
  (∀ (s : State) (r : Role) (l : Lane),
    (∀ q : Channel, q.reading = (if q.health = .good then q.occupied else q.role == .demand)) ∧
    (s.anyReads r = true ↔ ∃ c, (s.chan c).role = r ∧ (s.chan c).reading = true) ∧
    (s.anyGood r = true ↔ ∃ c, (s.chan c).role = r ∧ (s.chan c).health = .good) ∧
    (∀ c, s.chanFor r l = some c → (s.chan c).role = r ∧ (s.chan c).lane = some l) ∧
    (s.chanFor r l = none → ∀ c, (s.chan c).role = r → (s.chan c).lane ≠ some l))

/-- The settle time takes the merge monitor from SETTLING to CLEAR, handed to the arbiter (R31).
A queue or spill monitor triggers at the end of its occupied spell and pushes its FLUSH; at the end of a vacant
spell it watches again, and from TRIGGERED asks its entry's removal (R32, R34, R136, R138). -/
def Obligations.TheMergeSettlesAndMonitorsTrigger : Prop :=
  (∀ (s : State) (t0 : Nat), s.resetIn = false → s.det.merge.state = .settling → s.det.merge.settleFrom = some t0 →
    t0 + s.par .mergeSettle ≤ s.now →
    exec .mergeSettleExpiry s =
      .next { s with
        det := { s.det with merge := { state := .clear, settleFrom := none } }
        handoffs := s.handoffs ++ [.mergeChange] }) ∧
  (∀ (s : State) (t0 : Nat), s.resetIn = false →
    (∀ l, (s.det.queue.get l).state = .watching → (s.det.queue.get l).spell = some { occupied := true, since := t0 } →
      t0 + s.par .queueOn ≤ s.now →
      exec (.queueOnReached l) s = .next (automaticPush
        { kind := .flush, source := .queue l, lanes := some l, limit := some (s.par .flushLimit), fixed := none }
        { s with det := { s.det with queue := s.det.queue.modify l (fun m => { m with state := .triggered }) } })) ∧
    (∀ l, (s.det.queue.get l).spell = some { occupied := false, since := t0 } → t0 + s.par .queueOff ≤ s.now →
      ∀ u, u = { s with det := { s.det with queue := s.det.queue.modify l (fun m => { m with state := .watching }) } } →
        ((s.det.queue.get l).state = .triggered →
          ∃ t, exec (.queueOffReached l) s = .next t ∧
            StackBecomes (s.ovr.entries.filter (fun e => !(e.kind == .flush && e.source == .queue l))) u t) ∧
        ((s.det.queue.get l).state = .spent → exec (.queueOffReached l) s = .next u)) ∧
    (s.det.spill.state = .watching → s.det.spill.spell = some { occupied := true, since := t0 } →
      t0 + s.par .spillOn ≤ s.now →
      exec .spillOnReached s = .next (automaticPush
        { kind := .flush, source := .spill, lanes := none, limit := some (s.par .flushLimit), fixed := none }
        { s with det := { s.det with spill := { s.det.spill with state := .triggered } } })) ∧
    (s.det.spill.spell = some { occupied := false, since := t0 } → t0 + s.par .spillOff ≤ s.now →
      ∀ u, u = { s with det := { s.det with spill := { s.det.spill with state := .watching } } } →
        (s.det.spill.state = .triggered →
          ∃ t, exec .spillOffReached s = .next t ∧
            StackBecomes (s.ovr.entries.filter (fun e => !(e.kind == .flush && e.source == .spill))) u t) ∧
        (s.det.spill.state = .spent → exec .spillOffReached s = .next u)))

/-- A period closes at occupancy_period: the occupancy is the share the GOOD MAINLINE channels were occupied, UNKNOWN
with none; every occupied time is 0 and the next period starts (R35); the selector takes the band (R147), and acts on
the map only in LOCAL under MAP (R148). -/
def Obligations.OccupancyPeriodsClose : Prop :=
  ∀ s : State, s.resetIn = false → s.det.periodFrom + s.par .occupancyPeriod ≤ s.now →
    ∀ u, u = { s with
        det := { s.det with
          occupancy := s.occupancyNow, periodFrom := s.now
          chans := Bank.mapAll (fun c => { c with occupiedPeriod := 0 }) s.det.chans }
        sel := match s.occupancyNow with
          | some pct => { s.sel with lastBand := some (bandOf pct) }
          | none => s.sel } →
      (s.occupancyNow = none ∨ s.link.mode = .central ∨ s.par .localAction = 0 →
        exec .occupancyPeriodClose s = .next u) ∧
      (∀ pct, s.occupancyNow = some pct → s.link.mode = .localMode → s.par .localAction = 1 →
        (Bank.at s.sel.map (bandOf pct) = none → exec .occupancyPeriodClose s = .next (stopMetering u)) ∧
        (∀ i, Bank.at s.sel.map (bandOf pct) = some i → s.slot i = none → exec .occupancyPeriodClose s = .next u) ∧
        (∀ i, Bank.at s.sel.map (bandOf pct) = some i → s.slot i ≠ none →
          s.site.state = .starting ∨ s.site.state = .metering ∨ s.site.state = .stopping ∨ s.site.state = .failsafe →
          exec .occupancyPeriodClose s = .next (selectSlot i u)) ∧
        (∀ i, Bank.at s.sel.map (bandOf pct) = some i → s.slot i ≠ none → s.site.state = .dark →
          ((∃ l, s.sequenced l = true) →
            exec .occupancyPeriodClose s = .next (enterStarting (selectSlot i u))) ∧
          ((∀ l, s.sequenced l = false) → exec .occupancyPeriodClose s = .next (selectSlot i u)))) ∧
      (∀ good : List Channel,
        good = (allSixteen.map s.chan).filter (fun r => r.role == .mainline && r.health == .good) →
        s.occupancyNow =
          (if good = [] then none
            else some ((good.map (fun r => r.occupiedPeriod)).sum * 100 /
              ((s.now - s.det.periodFrom) * good.length)))) ∧
      (∀ pct, (bandOf pct).val = min 15 (pct / 6))

/-! ### The override stack's events, and the governing entry -/

/-- The pre-emption input needs five tenths of a stable level each way; an assertion pushes a CLEAROUT and a release
removes it, in the states that take them (R134, R135, R138); during a reset an asserted input is a pending change from
the reset on (log 12).
An entry whose limit has reached 0 is removed; a QUEUE or SPILL entry's monitor, if TRIGGERED, becomes SPENT, or WATCHING
at once where its vacant spell has already reached the off time (R32, R34, R137). -/
def Obligations.PreemptionAndLimitsChangeTheStack : Prop :=
  (∀ s : State,
    (s.resetIn = false → ∀ level, exec (.preemptionInputChange level) s =
      .next (if s.ovr.preInput = level then s
        else { s with ovr := { s.ovr with
          preInput := level, preFrom := if level = s.ovr.preLevel then none else some s.now } })) ∧
    (s.resetIn = true → ∀ level, exec (.preemptionInputChange level) s =
      .next { s with ovr := { s.ovr with preInput := level, preFrom := if level then some 0 else none } }) ∧
    (∀ t0, s.resetIn = false → s.ovr.preFrom = some t0 → t0 + 5 ≤ s.now →
      (s.ovr.preLevel = false → ∀ u, u = { s with ovr := { s.ovr with preLevel := true, preFrom := none } } →
        exec .preemptionAssertion s =
          .next (if s.site.state = .start ∨ s.site.state = .lamptest ∨ s.site.state = .failsafe then u
            else automaticPush { kind := .clearout, source := .preempt, lanes := none, limit := none, fixed := none } u)) ∧
      (s.ovr.preLevel = true → ∀ u, u = { s with ovr := { s.ovr with preLevel := false, preFrom := none } } →
        ((s.site.state = .start ∨ s.site.state = .lamptest ∨ s.site.state = .failsafe) →
          exec .preemptionRelease s = .next u) ∧
        (s.site.state ≠ .start → s.site.state ≠ .lamptest → s.site.state ≠ .failsafe →
          ∃ t, exec .preemptionRelease s = .next t ∧
            StackBecomes (s.ovr.entries.filter (fun e => !(e.kind == .clearout && e.source == .preempt))) u t)))) ∧
  (∀ (s : State) (k : OvKind) (src : OvSource), s.resetIn = false →
    (s.ovr.entries.find? (fun e => e.kind == k && e.source == src)).bind Entry.limit = some 0 →
    ∃ u t, exec (.overrideLimitExpiry k src) s = .next t ∧
      StackBecomes (s.ovr.entries.filter (fun e => !(e.kind == k && e.source == src))) s u ∧
      Only [.monitors] u t ∧
      (∀ l,
        (src = .queue l → (s.det.queue.get l).state = .triggered →
          (∀ t0, (s.det.queue.get l).spell = some { occupied := false, since := t0 } → t0 + s.par .queueOff ≤ s.now →
            t.det.queue.get l = { s.det.queue.get l with state := .watching }) ∧
          ((∀ t0, (s.det.queue.get l).spell = some { occupied := false, since := t0 } →
              s.now < t0 + s.par .queueOff) → t.det.queue.get l = { s.det.queue.get l with state := .spent })) ∧
        (src ≠ .queue l ∨ (s.det.queue.get l).state ≠ .triggered → t.det.queue.get l = s.det.queue.get l)) ∧
      (src = .spill → s.det.spill.state = .triggered →
        (∀ t0, s.det.spill.spell = some { occupied := false, since := t0 } → t0 + s.par .spillOff ≤ s.now →
          t.det.spill = { s.det.spill with state := .watching }) ∧
        ((∀ t0, s.det.spill.spell = some { occupied := false, since := t0 } → s.now < t0 + s.par .spillOff) →
          t.det.spill = { s.det.spill with state := .spent })) ∧
      (src ≠ .spill ∨ s.det.spill.state ≠ .triggered → t.det.spill = s.det.spill))

/-- The arbiter takes a new governing entry: outside METERING it reads it only; in METERING CLOSE and CLEAROUT put it in
SHUT with the open release kept, or leave it there (a request of a lane that then opens is taken back, log 10); any other
entry takes it out of SHUT or is compared with the interval elapsed, and the hold is derived and, outside RELEASING, the
state settled to HELD, YIELD or FREE (R92, R93, R94, R100, R107, R108, R112). -/
def Obligations.TheArbiterTakesTheGoverningEntry : Prop :=
  ∀ (s : State) (g : Option Gov), s.resetIn = false → s.waiting isArbiterGov = some (.arbiterGov g) →
    ∃ t, exec .arbiterGoverningChange s = .next t ∧ t.arb.gov = g ∧
      (s.site.state ≠ .metering → Only [.arb, .handoffs] s t ∧ t.arb = { s.arb with gov := g } ∧
        t.handoffs = s.handoffs.erase (.arbiterGov g)) ∧
      (s.site.state = .metering → (govIs g .close = true ∨ govIs g .clearout = true) → s.arb.own ≠ .shut →
        Only [.arb, .lanes, .lamps, .handoffs] s t ∧ t.arb.own = .shut ∧ t.arb.shutSound ∧
        t.arb.openRelease = s.arb.openRelease ∧ t.arb.credit = s.arb.credit ∧ t.arb.prioCount = s.arb.prioCount ∧
        t.arb.grantNo = s.arb.grantNo ∧ (∀ l, (t.lane l).inQueue = false) ∧
        (∀ l, (s.lane l).state = .red → (s.lane l).minRed = true → govIs (s.lane l).gov .clearout = true →
          t.lane l = { (s.lane l).toOpen s.now with inQueue := false } ∧ (t.head l).shows .opened) ∧
        (∀ l, (s.lane l).state ≠ .red ∨ (s.lane l).minRed = false ∨ govIs (s.lane l).gov .clearout = false →
          t.lane l = { s.lane l with inQueue := false } ∧ t.head l = s.head l) ∧
        t.handoffs = (s.handoffs.erase (.arbiterGov g)).filter (fun h => [0, 1, 2, 3].all (fun l =>
          !((s.lane l).state == .red && (s.lane l).minRed && govIs (s.lane l).gov .clearout && isAsking l h)))) ∧
      (s.site.state = .metering → (govIs g .close = true ∨ govIs g .clearout = true) → s.arb.own = .shut →
        Only [.arb, .handoffs] s t ∧ t.arb = { s.arb with gov := g } ∧ t.handoffs = s.handoffs.erase (.arbiterGov g)) ∧
      (s.site.state = .metering → govIs g .close = false → govIs g .clearout = false → s.arb.own = .shut →
        Only [.arb, .counts, .handoffs] s t ∧ t.arb.own ≠ .shut ∧ t.arb.own ≠ .releasing ∧
        HoldDerived t ∧ SettledFrom s t ∧ t.arb.reservation = s.arb.reservation ∧ t.log.lanes = s.log.lanes ∧
        Asked (s.handoffs.erase (.arbiterGov g)) t ∧
        (∀ l, s.desc.priority ≠ some l → t.arb.credit.get l = s.weight l) ∧ t.arb.prioCount = 0 ∧ t.arb.armed = none ∧
        t.arb.elapsed = 0 ∧ t.arb.expired = true ∧ t.arb.openRelease = s.arb.openRelease) ∧
      (s.site.state = .metering → govIs g .close = false → govIs g .clearout = false → s.arb.own ≠ .shut →
        Only [.arb, .counts, .handoffs] s t ∧ t.arb.own ≠ .shut ∧ (s.arb.own = .releasing → t.arb.own = .releasing) ∧
        t.arb.expired = (s.arb.expired || t.intervalReached) ∧ t.arb.queue = s.arb.queue ∧
        HoldDerived t ∧ t.handoffs = s.handoffs.erase (.arbiterGov g) ∧ t.arb.openRelease = s.arb.openRelease ∧
        t.arb.reservation = s.arb.reservation ∧ t.log.lanes = s.log.lanes ∧
        (s.arb.own = .releasing → t.arb.owner = s.arb.owner ∧ t.log.slip = s.log.slip) ∧
        (s.arb.own ≠ .releasing → SettledFrom s t) ∧
        t.arb.holdCause = (if s.arb.reservation ≠ .none then .reserve
          else if govIs g .flush = true ∧ (g.bind Gov.lanes).isSome = true then .flush else .none))

/-- A lane takes a new governing entry from where it stands (R59, R60, R63, R64, R66); outside METERING it only reads
it. A green goes to OPEN on CLEAROUT at once, its lamps as they are, and to AMBER on CLOSE from min_green; either way its
release ends, a cut one with its CUT record and one cut counted (R61, R160). A red that opens takes back a request on its
way (log 10); one that stays red asks anew, since FIXED gives it demand (R67 to R69). -/
def Obligations.LanesTakeTheGoverningEntry : Prop :=
  ∀ (s : State) (l : Lane) (g : Option Gov), s.resetIn = false → s.waiting (isLaneGov l) = some (.laneGov l g) →
    ∃ t, exec (.laneGoverningChange l) s = .next t ∧ (t.lane l).gov = g ∧ (∀ m, m ≠ l → t.lane m = s.lane m) ∧
      (s.site.state ≠ .metering ∨ (s.lane l).state = .off ∨ (s.lane l).state = .warning ∨ (s.lane l).state = .amber →
        Only [.lanes, .handoffs] s t ∧ t.lane l = { s.lane l with gov := g } ∧
        t.handoffs = s.handoffs.erase (.laneGov l g)) ∧
      (s.site.state = .metering → (s.lane l).state = .green → govIs g .clearout = true →
        Only [.lanes, .records, .counts, .notices, .stream, .handoffs] s t ∧
        t.lane l = { s.lane l with
          state := .opened, entryAt := s.now, grant := none, size := none, greenFor := none, gov := g } ∧
        t.handoffs = s.handoffs.erase (.laneGov l g) ++ (s.lane l).releaseEnds l ∧ CutWritten l s t) ∧
      (∀ t0, s.site.state = .metering → (s.lane l).state = .green → govIs g .clearout = false →
        (s.lane l).onsetAt = some t0 →
        (t0 + s.par .minGreen ≤ s.now →
          govIs g .close = true ∨ (s.lane l).cut = true ∨ (∃ d, (s.lane l).greenFor = some d ∧ t0 + d ≤ s.now) ∨
            (∃ n, (s.lane l).size = some n ∧ n ≤ (s.lane l).passages) →
          Only [.lanes, .lamps, .records, .counts, .notices, .stream, .handoffs] s t ∧
          LaneBecomes l { (s.lane l).toAmber s.now with gov := g } .amber s t ∧
          t.handoffs = s.handoffs.erase (.laneGov l g) ++ (s.lane l).releaseEnds l ∧ CutWritten l s t) ∧
        (s.now < t0 + s.par .minGreen ∨
            (govIs g .close = false ∧ (s.lane l).cut = false ∧ (∀ d, (s.lane l).greenFor = some d → s.now < t0 + d) ∧
              (∀ n, (s.lane l).size = some n → (s.lane l).passages < n)) →
          Only [.lanes, .handoffs] s t ∧ t.lane l = { s.lane l with gov := g } ∧
          t.handoffs = s.handoffs.erase (.laneGov l g))) ∧
      (∀ t0, s.site.state = .metering → (s.lane l).state = .opened → govIs g .clearout = false →
        (s.lane l).onsetAt = some t0 → t0 + s.par .minGreen ≤ s.now →
        Only [.lanes, .lamps, .handoffs] s t ∧ LaneBecomes l { (s.lane l).toAmber s.now with gov := g } .amber s t ∧
        t.handoffs = s.handoffs.erase (.laneGov l g)) ∧
      (s.site.state = .metering → (s.lane l).state = .opened →
        govIs g .clearout = true ∨ (∀ t0, (s.lane l).onsetAt = some t0 → s.now < t0 + s.par .minGreen) →
        Only [.lanes, .handoffs] s t ∧ t.lane l = { s.lane l with gov := g } ∧
        t.handoffs = s.handoffs.erase (.laneGov l g)) ∧
      (s.site.state = .metering → (s.lane l).state = .red → govIs g .clearout = true → (s.lane l).minRed = true →
        (s.lane l).inQueue = false →
        Only [.lanes, .lamps, .handoffs] s t ∧ LaneBecomes l { (s.lane l).toOpen s.now with gov := g } .opened s t ∧
        t.handoffs = (s.handoffs.erase (.laneGov l g)).filter (fun h => !isAsking l h)) ∧
      (s.site.state = .metering → (s.lane l).state = .red →
        govIs g .clearout = false ∨ (s.lane l).minRed = false ∨ (s.lane l).inQueue = true →
        Only [.lanes, .handoffs] s t ∧ t.lane l = { s.lane l with gov := g } ∧
        ∀ hs, hs = s.handoffs.erase (.laneGov l g) → t.handoffs = hs ++ { t with handoffs := hs }.asks l)

/-! ### The site controller's events -/

/-- The warning timer takes the site to METERING: first reds, the arbiter out of SHUT unless CLOSE or CLEAROUT governs,
the sign on unless CLEAROUT governs, the monitors' spells counted from the entry (R32, R34, R44, R51, R54, R92, R94). The
entry that governs then is taken by all, and one still on its way is dropped (log 7). -/
def Obligations.TheWarningEndsInMetering : Prop :=
  ∀ (s : State) (t0 : Nat), s.resetIn = false → s.site.state = .starting → s.site.warningAt = some t0 → t0 ≤ s.now →
    (∀ l, s.sequenced l = true → (s.lane l).grant = none) →
    ∃ t, exec .warningExpiry s = .next t ∧
      Only [.site, .chans, .monitors, .lanes, .lamps, .arb, .counts, .notices, .handoffs] s t ∧
      t.site = SiteCtl.at .metering ∧ t.link.notices = s.link.notices ||| Notice.site.bit ∧
      (∀ l, s.sequenced l = true →
        t.lane l = { (s.lane l).toRed s.now with gov := s.topGov } ∧ (t.head l).shows .red) ∧
      (∀ l, s.sequenced l = false → t.lane l = { s.lane l with gov := s.topGov }) ∧
      t.lamps.sign = (if govIs s.topGov .clearout then .off else .on) ∧
      (∀ c, t.chan c = { s.chan c with sinceActuation := 0 }) ∧ MonitorsFollow s t ∧
      t.arb.gov = s.topGov ∧
      (govShuts s.topGov = true → t.arb = { s.arb with gov := s.topGov } ∧ t.log = s.log ∧
        t.handoffs = s.handoffs.filter (fun h => !isAnyGov h)) ∧
      (govShuts s.topGov = false → t.arb.own ≠ .shut ∧ t.arb.expired = true ∧ t.arb.armed = none ∧
        HoldDerived t ∧ SettledFrom s t ∧ t.log.lanes = s.log.lanes ∧
        Asked (s.handoffs.filter (fun h => !isAnyGov h)) t ∧
        t.arb.elapsed = 0 ∧ t.arb.prioCount = 0 ∧
        ∀ l, s.desc.priority ≠ some l → t.arb.credit.get l = s.weight l)

/-- A lamp failure report takes the site to FAILSAFE: every lane OFF, every lamp and the sign commanded off, the
arbiter SHUT, the stack empty; in FAILSAFE it raises the notice again (R48, R65, R86). -/
def Obligations.LampFailureReportsEnterFailsafe : Prop :=
  ∀ s : State, s.resetIn = false → s.waiting isReport = some .report →
    (s.site.state = .failsafe →
      exec .lampFailureReport s = .next { s with
        handoffs := s.handoffs.erase .report
        link := { s.link with notices := s.link.notices ||| Notice.failsafe.bit } }) ∧
    (s.site.state = .dark ∨ s.site.state = .starting ∨ s.site.state = .metering ∨ s.site.state = .stopping →
      ∃ t, exec .lampFailureReport s = .next t ∧
        Only [.site, .monitors, .lanes, .lamps, .arb, .entries, .notices, .handoffs] s t ∧
        t.site = SiteCtl.at .failsafe ∧ t.link.notices &&& Notice.failsafe.bit ≠ 0 ∧ t.lamps.sign = .off ∧
        (∀ l, t.lane l = (s.lane l).toOff s.now ∧ (t.head l).shows .off) ∧
        (∀ l col, (t.lamp l col).fault = (s.lamp l col).fault) ∧ t.arb.own = .shut ∧ t.arb.shutSound ∧
        t.arb.openRelease = none ∧ t.arb.credit = s.arb.credit ∧ t.arb.prioCount = s.arb.prioCount ∧
        t.arb.grantNo = s.arb.grantNo ∧ t.ovr.entries = [] ∧
        (s.ovr.entries ≠ [] → t.link.notices &&& Notice.override.bit ≠ 0) ∧
        (∀ l, t.det.queue.get l = Monitor.reset) ∧ t.det.spill = Monitor.reset)

/-! ### The lamp monitor -/

/-- What a head command does to one lamp: an unchanged command leaves it as it stands; a changed one supersedes what was
in progress, loads the retries and keeps the fault; a red or green turned on while the other is sensed on is HELD (R76,
R77, R78, R79, R80, R82).
The outputs: a lamp is lit while DRIVEN, in FLASH for 5 of every 10 tenths about the on-phase that is judged; the sign as
commanded, in FLASH from its command on; all are off during a reset; and what the sign is commanded to (R38, R51, R75). -/
def Obligations.HeadCommandsStartProving : Prop :=
  ((∀ (s : State) (l : Lane) (col : Colour) (r : LampRec), r = s.lamp l col →
      (s.resetIn = true ∨ r.output ≠ .driven → s.lampLit l col = false) ∧
      (s.resetIn = false → r.output = .driven → r.phaseEnd = none → s.lampLit l col = true) ∧
      (∀ e, s.resetIn = false → r.output = .driven → r.phaseEnd = some e →
        (s.lampLit l col = true ↔ ((s.now : Int) - (e - 5)) % 10 < 5))) ∧
    (∀ s : State,
      (s.resetIn = true ∨ s.lamps.sign = .off → s.signLit = false) ∧
      (s.resetIn = false → s.lamps.sign = .on → s.signLit = true) ∧
      (s.resetIn = false → s.lamps.sign = .flash → (s.signLit = true ↔ (s.now - s.lamps.signFrom) % 10 < 5))) ∧
    (∀ g, signFor .starting g = .flash ∧ signFor .metering g = (if govIs g .clearout then .off else .on) ∧
      ∀ st, st ≠ .starting → st ≠ .metering → signFor st g = .off)) ∧
  ∀ (l : Lane) (a : Aspect) (s t : State), t = headCommand l a s →
    Only [.lamps] s t ∧ t.lamps.sign = s.lamps.sign ∧ (∀ m, m ≠ l → t.head m = s.head m) ∧
    ∀ (col : Colour) (r : LampRec) (cmd : LampCmd) (held : Bool), r = s.lamp l col →
      cmd = (match col with | .red => a.red | .amber => a.amber | .green => a.green) →
      held = (match col with
        | .red => (s.lamp l .green).sensed
        | .amber => false
        | .green => (s.lamp l .red).sensed) →
      (r.commanded = cmd → t.lamp l col = r) ∧
      (r.commanded ≠ cmd → cmd = .off → t.lamp l col = { r with
        commanded := .off, output := .dark, retries := s.par .lampRetries
        proving := if r.sensed then .proving else .proven, window := if r.sensed then some s.now else none
        phaseEnd := none, phaseSeen := false, lostFrom := none }) ∧
      (r.commanded ≠ cmd → cmd = .on → held = true → t.lamp l col = { r with
        commanded := .on, output := .held, retries := s.par .lampRetries, proving := .proving, window := none
        phaseEnd := none, phaseSeen := false, lostFrom := none }) ∧
      (r.commanded ≠ cmd → cmd = .on → held = false → t.lamp l col = { r with
        commanded := .on, output := .driven, retries := s.par .lampRetries
        proving := if r.sensed then .proven else .proving, window := if r.sensed then none else some s.now
        phaseEnd := none, phaseSeen := false, lostFrom := none }) ∧
      (r.commanded ≠ cmd → cmd = .flash → t.lamp l col = { r with
        commanded := .flash, output := .driven, retries := s.par .lampRetries
        proving := if r.sensed then .proven else .proving, window := none
        phaseEnd := some (s.now + 5), phaseSeen := r.sensed, lostFrom := none })

/-- A change of sense: it proves a lamp commanded ON in its window, starts and ends the stray measure of one commanded
OFF, and starts the count of a loss of proof; a lamp going out lets the HELD lamp of its pair be driven; red and green
sensed on together are a conflict (R77, R78, R80, R81, R85). -/
def Obligations.SenseChangesAreTaken : Prop :=
  ∀ (s : State) (l : Lane) (col : Colour) (on : Bool) (r : LampRec), s.resetIn = false → r = s.lamp l col →
    (r.sensed = on → exec (.lampSenseChange l col on) s = .next s) ∧
    (r.sensed ≠ on → ∀ u, u = { s with resetIn := true } →
      exec (.lampSenseChange l col on) u = .next (u.modLamp l col (fun _ => { LampRec.reset with
        sensed := on, proving := if on then .proving else .proven, window := if on then some 0 else none }))) ∧
    (r.sensed ≠ on →
      ∃ t, exec (.lampSenseChange l col on) s = .next t ∧ Only [.lamps, .handoffs] s t ∧ (t.lamp l col).sensed = on ∧
        (∀ m, m ≠ l → t.head m = s.head m) ∧ t.lamps.sign = s.lamps.sign ∧
        (col = .red ∨ col = .green → on = true → s.startingUp = false →
          (∀ o, (o = .red ∨ o = .green) → o ≠ col → (s.lamp l o).sensed = true →
            t.handoffs = s.handoffs ++ [.report] ∧
            (∀ x, x = .red ∨ x = .green → (s.lamp l x).commanded = .off →
              (t.lamp l x).fault = .failedOn ∧ ((s.lamp l x).fault ≠ .failedOn → (t.lamp l x).proving = .unproven)) ∧
            (∀ x, x = .red ∨ x = .green → (s.lamp l x).commanded ≠ .off →
              (t.lamp l x).fault = (s.lamp l x).fault))) ∧
        (∀ o, (o = .red ∨ o = .green) → (col = .red ∨ col = .green) → o ≠ col → on = false →
          t.handoffs = s.handoffs ∧
          ((s.lamp l o).output = .held → (t.lamp l o).output = .driven ∧
            ((s.lamp l o).sensed = false → (t.lamp l o).proving = .proving ∧ (t.lamp l o).window = some s.now)) ∧
          ((s.lamp l o).output ≠ .held → t.lamp l o = s.lamp l o)) ∧
        ((col = .amber ∨ on = false ∨ (∀ o, (o = .red ∨ o = .green) → o ≠ col → (s.lamp l o).sensed = false)) →
          t.handoffs = s.handoffs ∧
          (r.commanded = .on → on = true → r.proving = .proving → r.window ≠ none →
            t.lamp l col = { r with sensed := true, proving := .proven, window := none }) ∧
          (r.commanded = .on → on = false → r.proving = .proven →
            t.lamp l col = { r with sensed := false, lostFrom := some s.now }) ∧
          (r.commanded = .on → on = true → r.proving = .proven → r.window = none →
            t.lamp l col = { r with sensed := true, lostFrom := none }) ∧
          (r.commanded = .off → on = true →
            t.lamp l col = { r with sensed := true, proving := .proving, window := some s.now }) ∧
          (r.commanded = .off → on = false → r.window ≠ none →
            t.lamp l col = { r with sensed := false, proving := .proven, window := none }) ∧
          (∀ e, r.commanded = .flash → r.phaseEnd = some e →
            (e ≤ s.now + 5 ∧ s.now ≤ e → t.lamp l col = { r with
              sensed := on, phaseSeen := true, proving := if r.proving = .proving then .proven else r.proving }) ∧
            (s.now + 5 < e ∨ e < s.now → t.lamp l col = { r with sensed := on }))))

/-- A failed attempt: with a retry left the lamp is re-driven in a new window, or waits for its next on-phase; after the
last, a lamp with no fault becomes FAILED-OFF and is reported, but an amber under RECORD is noted with LAMP and not
reported (R78, R79, R81, R83, R84). A window's end, a dark on-phase's end and a loss of proof are failed attempts.
An on-phase in which the sense read ON proves the lamp and the cadence goes on (R79); a stray measure past
lamp_prove (log 21) makes the lamp FAILED-ON with a report, unless it is FAILED-ON already (R80); a FAILED-OFF lamp too
(log 22). -/
def Obligations.LampsProveRetryAndFail : Prop :=
  (∀ (s : State) (l : Lane) (col : Colour) (i : Instr) (r : LampRec) (t0 left : Nat), s.resetIn = false →
    r = s.lamp l col →
    ((i = .provingWindowEnd l col ∧ r.commanded = .on ∧ r.proving = .proving ∧ r.window = some t0 ∧
        t0 + s.par .lampProve ≤ s.now ∧ left = r.retries) ∨
      (i = .lossOfProof l col ∧ r.commanded = .on ∧ r.proving = .proven ∧ r.lostFrom = some t0 ∧
        t0 + s.par .lampProve ≤ s.now ∧ left = s.par .lampRetries) ∨
      (i = .flashOnPhaseEnd l col ∧ r.commanded = .flash ∧ r.phaseEnd = some t0 ∧ t0 ≤ s.now ∧ r.phaseSeen = false ∧
        r.sensed = false ∧ ((r.proving = .proving ∧ left = r.retries) ∨
          (r.proving = .proven ∧ left = s.par .lampRetries)))) →
    ∃ t, exec i s = .next t ∧ Only [.lamps, .notices, .handoffs] s t ∧ t.lamps.sign = s.lamps.sign ∧
      (∀ m c, m ≠ l ∨ c ≠ col → t.lamp m c = s.lamp m c) ∧
      (t.lamp l col).commanded = r.commanded ∧ (t.lamp l col).output = r.output ∧
      (t.lamp l col).phaseEnd = (if r.commanded = .flash then some (t0 + 10) else r.phaseEnd) ∧
      (0 < left → (t.lamp l col).proving = .proving ∧ (t.lamp l col).retries = left - 1 ∧
        (t.lamp l col).window = (if r.commanded = .on then some s.now else none) ∧
        (t.lamp l col).fault = r.fault ∧ t.link.notices = s.link.notices ∧ t.handoffs = s.handoffs) ∧
      (left = 0 → (t.lamp l col).proving = .unproven ∧ (t.lamp l col).window = none ∧
        (r.fault ≠ .none → (t.lamp l col).fault = r.fault ∧ t.link.notices = s.link.notices ∧
          t.handoffs = s.handoffs) ∧
        (r.fault = .none → (t.lamp l col).fault = .failedOff) ∧
        (r.fault = .none → col = .amber → s.par .amberFaultAction = 0 → (t.lamp l col).noticeOnly = true ∧
          t.link.notices = s.link.notices ||| Notice.lamp.bit ∧ t.handoffs = s.handoffs) ∧
        (r.fault = .none → col ≠ .amber ∨ s.par .amberFaultAction ≠ 0 → (t.lamp l col).noticeOnly = false ∧
          t.link.notices = s.link.notices ∧ t.handoffs = s.handoffs ++ [.report]))) ∧
  (∀ (s : State) (l : Lane) (col : Colour) (r : LampRec) (t0 : Nat), s.resetIn = false → r = s.lamp l col →
    (r.commanded = .flash → r.phaseEnd = some t0 → t0 ≤ s.now → (r.phaseSeen = true ∨ r.sensed = true) →
      ∃ t, exec (.flashOnPhaseEnd l col) s = .next t ∧ Only [.lamps] s t ∧
        t.lamp l col = { r with
          proving := if r.proving = .proving then .proven else r.proving
          phaseEnd := some (t0 + 10), phaseSeen := false } ∧
        (∀ m c, m ≠ l ∨ c ≠ col → t.lamp m c = s.lamp m c)) ∧
    (r.commanded = .off → r.sensed = true → r.window = some t0 → t0 + s.par .lampProve < s.now →
      s.site.state ≠ .start → s.site.state ≠ .lamptest →
      ∃ t, exec (.strayMeasureExpiry l col) s = .next t ∧ Only [.lamps, .handoffs] s t ∧
        (t.lamp l col).fault = .failedOn ∧ (t.lamp l col).proving = .unproven ∧ (t.lamp l col).window = none ∧
        (∀ m c, m ≠ l ∨ c ≠ col → t.lamp m c = s.lamp m c) ∧
        t.handoffs = (if r.fault = .failedOn then s.handoffs else s.handoffs ++ [.report])))

/-! ### The lane sequencers -/

/-- A green ends at min_green or later when an end condition holds: AMBER, the CUT record of a cut release first, then
the release end to the arbiter; the grant stays recorded (R56, R57, R58, R59, R61). Each of the three rows that can end
a green is covered; a CUT record is written into the log as O31 says.
A lane takes an entry of the merge to BUSY as a cut in GREEN, with its cut flag clear and its passages below the
release size, and from min_green that ends the green at once, with all that the end of a cut green brings (R61); in every
other case it has no effect on the lane (R58). -/
def Obligations.GreensEndInAmberAndBusyMergesCut : Prop :=
  (∀ (s : State) (l : Lane) (i : Instr) (t0 d n k : Nat) (g : BitVec 16), s.resetIn = false →
    (s.lane l).state = .green → (s.lane l).onsetAt = some t0 → t0 + s.par .minGreen ≤ s.now →
    (s.lane l).greenFor = some d → (s.lane l).size = some n → (s.lane l).grant = some g → (s.lane l).passages = k →
    ((i = .minGreenElapsed l ∧ (t0 + d ≤ s.now ∨ n ≤ k ∨ (s.lane l).cut = true ∨
        (s.site.state = .metering ∧ govIs (s.lane l).gov .close = true))) ∨
      (i = .greenDurationElapsed l ∧ t0 + d ≤ s.now)) →
    ∃ t, exec i s = .next t ∧
      Only [.lanes, .lamps, .records, .counts, .notices, .stream, .handoffs] s t ∧
      LaneBecomes l ((s.lane l).toAmber s.now) .amber s t ∧
      t.handoffs = s.handoffs ++ [.releaseEnd l g] ∧
      ((s.lane l).cut = false → t.log = s.log ∧ t.link = s.link) ∧
      ((s.lane l).cut = true →
        (∀ (rec : PassRec) (w : State),
          rec = { time := s.siteTime, lane := l, kind := .cut, plan := s.plans.active, grant := some g
                  shortfall := if s.goodStop l then some (n - k) else none } → w = writeRec rec s →
          t.log.records = w.log.records ∧ t.log.lost = w.log.lost ∧ t.link = w.link ∧
          (s.log.records.length < 256 → t.log.records = s.log.records ++ [rec])) ∧
        t.log.slip = { s.log.slip with cuts := s.log.slip.cuts + 1 } ∧ t.log.lanes = s.log.lanes)) ∧
  (∀ (s : State) (l : Lane), s.resetIn = false → s.waiting (isBusyEntry l) = some (.busyEntry l) →
    ((s.lane l).state ≠ .green ∨ (s.lane l).cut = true ∨ (∃ n, (s.lane l).size = some n ∧ n ≤ (s.lane l).passages) →
      exec (.releaseCut l) s = .next { s with handoffs := s.handoffs.erase (.busyEntry l) }) ∧
    (∀ n t0, (s.lane l).state = .green → (s.lane l).cut = false → (s.lane l).size = some n →
      (s.lane l).passages < n → (s.lane l).onsetAt = some t0 →
      ∀ r u, r = { s.lane l with cut := true } →
        u = { s with lanes := s.lanes.set l r, handoffs := s.handoffs.erase (.busyEntry l) } →
        (s.now < t0 + s.par .minGreen → exec (.releaseCut l) s = .next u) ∧
        (t0 + s.par .minGreen ≤ s.now →
          ∃ t, exec (.releaseCut l) s = .next t ∧
            Only [.lanes, .lamps, .records, .counts, .notices, .stream, .handoffs] s t ∧
            LaneBecomes l (r.toAmber s.now) .amber s t ∧
            t.handoffs = s.handoffs.erase (.busyEntry l) ++ r.releaseEnds l ∧ CutWritten l u t)))

/-- An OPEN in METERING whose CLEAROUT has gone returns to AMBER from min_green (R64); amber_time takes a lane to RED
with the no-show decision of its grant (R62, R72, R73). -/
def Obligations.OpensAndAmbersMoveOn : Prop :=
  ∀ (s : State) (l : Lane) (t0 : Nat), s.resetIn = false →
    ((s.lane l).state = .opened → (s.lane l).onsetAt = some t0 → t0 + s.par .minGreen ≤ s.now →
      s.site.state = .metering → govIs (s.lane l).gov .clearout = false →
      ∃ t, exec (.minGreenElapsed l) s = .next t ∧ Only [.lanes, .lamps] s t ∧
        LaneBecomes l ((s.lane l).toAmber s.now) .amber s t) ∧
    ((s.lane l).state = .amber → (s.lane l).entryAt + s.par .amberTime ≤ s.now →
      ((s.lane l).grant = none ∨ s.goodStop l = false ∨ (s.lane l).passages ≠ 0 →
        ∃ t, exec (.amberTimeElapsed l) s = .next t ∧ Only [.lanes, .lamps] s t ∧
          LaneBecomes l ((s.lane l).toRed s.now) .red s t) ∧
      (∀ g, (s.lane l).grant = some g → s.goodStop l = true → (s.lane l).passages = 0 →
        ∃ t, exec (.amberTimeElapsed l) s = .next t ∧
          Only [.lanes, .lamps, .records, .counts, .notices, .stream, .handoffs] s t ∧
          (∀ (rec : PassRec) (w : State),
            rec = { time := s.siteTime, lane := l, kind := .noShow, plan := s.plans.active, grant := some g
                    shortfall := none } → w = writeRec rec s →
            t.log.records = w.log.records ∧ t.log.lost = w.log.lost ∧ t.link = w.link ∧
            (s.log.records.length < 256 → t.log.records = s.log.records ++ [rec])) ∧
          t.log.lanes = s.log.lanes.set l
            { s.log.lanes.get l with noShows := (s.log.lanes.get l).noShows + 1 } ∧
          (s.chainChannel l = none → t.handoffs = s.handoffs ∧
            LaneBecomes l { (s.lane l).toRed s.now with noShows := 0 } .red s t) ∧
          (∀ c, s.chainChannel l = some c →
            ((s.lane l).noShows + 1 < s.par .noShowLimit → t.handoffs = s.handoffs ∧
              LaneBecomes l { (s.lane l).toRed s.now with noShows := (s.lane l).noShows + 1 } .red s t) ∧
            (s.par .noShowLimit ≤ (s.lane l).noShows + 1 → t.handoffs = s.handoffs ++ [.claim l c] ∧
              LaneBecomes l { (s.lane l).toRed s.now with noShows := 0 } .red s t)))) ∧
    (∀ c, s.chainChannel l = some c ↔ s.mode l = .metered ∧ s.chanFor .demand l = some c ∧ (s.chan c).health = .good ∧
      (s.chan c).occupied = true)

/-- min_red sets the min-red-elapsed flag; the lane then goes to OPEN, or places its request (R62, R63, R68); red_grace
closes the grant that was open for passages (R71). -/
def Obligations.RedsMoveOn : Prop :=
  ∀ (s : State) (l : Lane), s.resetIn = false → (s.lane l).state = .red →
    ((s.lane l).minRed = false → (s.lane l).entryAt + s.par .minRed ≤ s.now → s.site.state ≠ .stopping →
      ∃ t, exec (.minRedElapsed l) s = .next t ∧ Only [.lanes, .lamps, .handoffs] s t ∧
        (∀ m, m ≠ l → t.lane m = s.lane m ∧ t.head m = s.head m) ∧
        (s.site.state = .metering → govIs (s.lane l).gov .clearout = true → (s.lane l).inQueue = false →
          LaneBecomes l ((s.lane l).toOpen s.now) .opened s t) ∧
        (s.site.state ≠ .metering ∨ govIs (s.lane l).gov .clearout = false ∨ (s.lane l).inQueue = true →
          t.lane l = { s.lane l with minRed := true } ∧ t.lamps = s.lamps ∧
          (s.site.state = .metering → (s.lane l).inQueue = false → s.arb.own ≠ .shut → s.hasDemand l = true →
            (s.desc.priority = some l ∨ 0 < s.weight l) → s.asking l = false →
            t.handoffs = s.handoffs ++ [.request l]) ∧
          t.handoffs = s.handoffs ++ { t with handoffs := s.handoffs }.asks l)) ∧
    ((s.lane l).minRed = false → (s.lane l).entryAt + s.par .minRed ≤ s.now → s.site.state = .stopping →
      (s.lane l).inQueue = false →
      ∃ t, exec (.minRedElapsed l) s = .next t ∧ Only [.site, .lanes, .lamps, .handoffs] s t ∧
        LaneBecomes l ((s.lane l).toOpen s.now) .opened s t ∧
        (s.site.stopFlushAt = none → (∀ m, m ≠ l → s.sequenced m = true → (s.lane m).state = .opened) →
          t.site = { s.site with stopFlushAt := some (s.now + s.par .stopFlush) }) ∧
        (s.site.stopFlushAt ≠ none ∨ (∃ m, m ≠ l ∧ s.sequenced m = true ∧ (s.lane m).state ≠ .opened) →
          t.site = s.site)) ∧
    (∀ g, (s.lane l).grant = some g → (s.lane l).entryAt + s.par .redGrace < s.now →
      exec (.redGraceExpiry l) s = .next { s with
        lanes := s.lanes.set l { s.lane l with grant := none, size := none, greenFor := none } })

/-! ### The merge arbiter -/

/-- A grant starts when nothing forbids it, and acts on the candidate in the order of R104 under the plan that stands
after its promotion (R55, R103, R104). A lane withdrawn at the promotion loses its place and its flag, and one in RED past
min_red that has taken CLEAROUT then goes to OPEN (R63, R69), a request of it taken back (log 10); the other lanes stand,
and ask anew under the promoted plan (R68). -/
def Obligations.GrantsFollowTheirOrder : Prop :=
  ∀ (s : State) (c : Lane) (refill : Bool) (p : Plan), s.resetIn = false →
    s.det.merge.state = .clear → s.arb.expired = true → s.arb.openRelease = none →
    ((s.arb.own = .held ∧ s.arb.owner = some c ∧ s.waits c = true ∧ refill = false) ∨
      (s.arb.own = .free ∧ s.freeCandidate = some (c, refill))) →
    (match s.plans.staged with
     | some i => s.slot i
     | none => s.activePlan) = some p →
    s.laneGovIs c .clearout = false →
    ∃ t, exec .grant s = .next t ∧
      Only [.site, .plans, .arb, .lanes, .lamps, .counts, .handoffs] s t ∧ (s.site.state ≠ .stopping → t.site = s.site) ∧
      t.plans.active = (if s.plans.staged = none then s.plans.active else s.plans.staged) ∧ t.plans.staged = none ∧
      t.arb.grantNo = s.arb.grantNo + 1 ∧ t.arb.armed = t.governingInterval ∧ t.arb.elapsed = 0 ∧
      t.arb.expired = false ∧ t.arb.openRelease = some (c, s.arb.grantNo + 1) ∧ t.arb.own = .releasing ∧
      t.arb.owner = some c ∧ t.arb.holdCause = s.arb.holdCause ∧ t.arb.holdLane = s.arb.holdLane ∧
      t.arb.prioCount = (if s.desc.priority = some c then 0 else min 15 (s.arb.prioCount + 1)) ∧
      t.arb.reservation = (if s.desc.priority = some c ∧ s.arb.reservation = .pending then .granted
        else s.arb.reservation) ∧
      t.arb.queue = s.arb.queue.filter (fun l => l != c && (s.plans.staged.isNone || p.weights.get l != 0)) ∧
      (s.desc.priority = some c → t.arb.prioWaiting = false) ∧
      ((∀ l, s.desc.priority = some l → l ≠ c ∧ l ∉ s.arb.queue) → t.arb.prioWaiting = s.arb.prioWaiting) ∧
      (∀ l, s.desc.priority ≠ some l → ∀ before, before = (if refill then s.weight l else s.arb.credit.get l) →
        t.arb.credit.get l =
          (if s.plans.staged = none then before else min before (p.weights.get l)) - (if l = c then 1 else 0)) ∧
      t.lane c = { s.lane c with
        state := .green, entryAt := s.now, onsetAt := some s.now, minRed := false, grant := some (s.arb.grantNo + 1)
        size := some p.size, greenFor := some (max (s.par .minGreen) (s.par .greenUnit * p.size)), passages := 0
        cut := false, inQueue := false } ∧
      (t.head c).shows .green ∧
      (∀ opens : Lane → Prop, (∀ l, opens l ↔ l ≠ c ∧ (s.lane l).state = .red ∧ (s.lane l).minRed = true ∧
          ((s.lane l).inQueue = false ∨ (l ∈ s.arb.queue ∧ s.plans.staged ≠ none ∧ p.weights.get l = 0)) ∧
          (s.site.state = .stopping ∨ (s.site.state = .metering ∧ govIs (s.lane l).gov .clearout = true))) →
        (∀ l, opens l → t.lane l = { (s.lane l).toOpen s.now with inQueue := false } ∧ (t.head l).shows .opened ∧
          ∀ h ∈ t.handoffs, isAsking l h = false) ∧
        (∀ l, l ≠ c → ¬opens l → t.head l = s.head l ∧
          t.lane l = { s.lane l with
            inQueue := (s.lane l).inQueue &&
              !(s.arb.queue.contains l && s.plans.staged.isSome && p.weights.get l == 0) }) ∧
        (∀ l, ¬opens l → t.handoffs.filter (isAsking l) =
          s.handoffs.filter (isAsking l) ++ { t with handoffs := s.handoffs }.asks l) ∧
        t.handoffs.filter (fun h => [0, 1, 2, 3].all (fun l => !isAsking l h)) =
          s.handoffs.filter (fun h => [0, 1, 2, 3].all (fun l => !isAsking l h)) ∧
        ((∀ l, ¬opens l) → Asked s.handoffs t)) ∧
      t.log.lanes = s.log.lanes.set c { s.log.lanes.get c with grants := (s.log.lanes.get c).grants + 1 } ∧
      t.log.slip = { s.log.slip with grants := s.log.slip.grants + 1 }

/-- The candidate in FREE, step by step (R103).
No grant starts while a condition of R103 fails: the row then has no effect. -/
def Obligations.CandidatesAreChosenAndConditionsHold : Prop :=
  (∀ (s : State) (p : Plan), s.activePlan = some p →
    (∀ l, s.desc.priority = some l → s.arb.prioWaiting = true → p.prioEvery = 0 ∨ p.prioEvery ≤ s.arb.prioCount →
      s.freeCandidate = some (l, false)) ∧
    ((s.desc.priority = none ∨ s.arb.prioWaiting = false ∨ (p.prioEvery ≠ 0 ∧ s.arb.prioCount < p.prioEvery)) →
      (∀ pre l post, s.arb.queue = pre ++ l :: post → (∀ m ∈ pre, s.arb.credit.get m = 0) → 0 < s.arb.credit.get l →
        s.freeCandidate = some (l, false)) ∧
      (∀ l rest, s.arb.queue = l :: rest → (∀ m ∈ s.arb.queue, s.arb.credit.get m = 0) →
        s.freeCandidate = some (l, true)) ∧
      (∀ l, s.arb.queue = [] → s.desc.priority = some l → s.arb.prioWaiting = true →
        s.freeCandidate = some (l, false)) ∧
      (s.arb.queue = [] → s.desc.priority = none ∨ s.arb.prioWaiting = false → s.freeCandidate = none))) ∧
  (∀ s : State, s.resetIn = false →
    (s.det.merge.state ≠ .clear ∨ s.arb.expired = false ∨ s.arb.openRelease ≠ none ∨ s.arb.own = .shut ∨
      s.arb.own = .yielding ∨ s.arb.own = .releasing ∨ (s.arb.own = .free ∧ s.freeCandidate = none) ∨
      (s.arb.own = .held ∧ ∀ l, s.arb.owner = some l → s.waits l = false)) →
    exec .grant s = .next s)

/-- The arbiter takes requests and withdrawals: a request outside SHUT from a lane not waiting is queued at the tail, or
sets priority-waiting, with no second look at its conditions (log 39); a withdrawal of a waiting lane takes it out; the
lane is told and asks anew (R68, R69, R96, R97, R98, log 11). What demand and weight are is said first (R30, R67, R116). -/
def Obligations.RequestsAndWithdrawalsAreTaken : Prop :=
  (∀ (s : State) (l : Lane),
    (s.hasDemand l = true ↔ (s.mode l = .metered ∨ s.mode l = .timed) ∧
      (s.mode l = .timed ∨ s.chanFor .demand l = none ∨
        (∃ c, s.chanFor .demand l = some c ∧ (s.chan c).reading = true) ∨
        (s.site.state = .metering ∧ govIs (s.lane l).gov .fixed = true))) ∧
    (∀ i p, s.plans.active = some i → s.slot i = some p → s.weight l = p.weights.get l)) ∧
  ∀ (s : State) (l : Lane), s.resetIn = false → s.site.state = .metering → (s.lane l).state = .red →
    (govIs (s.lane l).gov .clearout = false) →
    (s.waiting (isAsking l) = some (.request l) →
      ∃ t, exec (.request l) s = .next t ∧ Only [.arb, .lanes, .handoffs] s t ∧ (∀ m, m ≠ l → t.lane m = s.lane m) ∧
        (∀ hs, hs = s.handoffs.erase (.request l) → t.handoffs = hs ++ { t with handoffs := hs }.asks l) ∧
        (s.arb.own = .shut ∨ s.waits l = true → t.arb = s.arb ∧ t.lanes = s.lanes) ∧
        (s.arb.own ≠ .shut → s.waits l = false → t.lane l = { s.lane l with inQueue := true } ∧
          t.arb = (if s.desc.priority = some l then { s.arb with prioWaiting := true }
            else { s.arb with queue := s.arb.queue ++ [l] }))) ∧
    (s.waiting (isAsking l) = some (.withdrawal l) →
      ∃ t, exec (.withdrawal l) s = .next t ∧ Only [.arb, .lanes, .handoffs] s t ∧ (∀ m, m ≠ l → t.lane m = s.lane m) ∧
        (∀ hs, hs = s.handoffs.erase (.withdrawal l) → t.handoffs = hs ++ { t with handoffs := hs }.asks l) ∧
        (s.waits l = false → t.arb = s.arb ∧ t.lanes = s.lanes) ∧
        (s.waits l = true → (t.lane l) = { s.lane l with inQueue := false } ∧
          t.arb = { s.arb with
            queue := s.arb.queue.filter (fun m => m != l)
            prioWaiting := if s.desc.priority = some l then false else s.arb.prioWaiting }))

/-- A release end makes the open release absent, ends a GRANTED reservation, and outside SHUT settles the arbiter to
HELD, YIELD or FREE, an entry to YIELD counting one yield (R92, R106, R107).
A change of the merge monitor settles the arbiter again in FREE, YIELD and HELD only (R92, R95). -/
def Obligations.ReleaseEndsAndMergeChangesSettle : Prop :=
  (∀ (s : State) (l : Lane) (g : BitVec 16), s.resetIn = false →
    s.waiting (isReleaseEnd l) = some (.releaseEnd l g) → s.arb.openRelease = some (l, g) →
    ∃ t, exec (.releaseEnd l) s = .next t ∧ Only [.arb, .counts, .handoffs] s t ∧
      t.handoffs = s.handoffs.erase (.releaseEnd l g) ∧ t.arb.openRelease = none ∧
      t.arb.reservation = (if s.arb.reservation = .granted then .none else s.arb.reservation) ∧
      t.arb.queue = s.arb.queue ∧ t.arb.credit = s.arb.credit ∧ t.log.lanes = s.log.lanes ∧
      (s.arb.own = .shut → t.arb.own = .shut ∧ t.arb.owner = s.arb.owner ∧ t.log.slip = s.log.slip) ∧
      (s.arb.own ≠ .shut →
        (t.arb.holdCause, t.arb.holdLane) = t.holdNow ∧ HoldDerived t ∧ SettledFrom s t ∧
        t.arb.own = (if t.arb.holdCause ≠ .none ∧ t.arb.holdLane ≠ none then .held
          else if s.det.merge.state ≠ .clear then .yielding else .free) ∧
        t.arb.owner = (if t.arb.own = .held then t.arb.holdLane else none) ∧
        t.log.slip = (if t.arb.own = .yielding ∧ s.arb.own ≠ .yielding then
          { s.log.slip with yields := s.log.slip.yields + 1 } else s.log.slip))) ∧
  (∀ s : State, s.resetIn = false → s.waiting isMergeChange = some .mergeChange →
    ∃ t, exec .mergeMonitorChange s = .next t ∧ Only [.arb, .counts, .handoffs] s t ∧
      t.handoffs = s.handoffs.erase .mergeChange ∧
      (s.arb.own = .shut ∨ s.arb.own = .releasing → t.arb = s.arb ∧ t.log = s.log) ∧
      (s.arb.own = .free ∨ s.arb.own = .yielding ∨ s.arb.own = .held →
        t.arb = { s.arb with
          own := t.arb.own
          owner := if t.arb.own = .held then s.arb.holdLane else none } ∧
        t.arb.own = (if s.arb.holdCause ≠ .none ∧ s.arb.holdLane ≠ s.arb.openRelease.map Prod.fst then .held
          else if s.det.merge.state ≠ .clear then .yielding else .free) ∧
        t.log.slip = (if t.arb.own = .yielding ∧ s.arb.own ≠ .yielding then
          { s.log.slip with yields := s.log.slip.yields + 1 } else s.log.slip)))

/-- The interval timer expires at the interval in force, the smaller of the armed and the governing interval (R99).
An ADVANCE actuation reserves the merge for the priority lane where R110 lets it; a PENDING reservation whose time
is out ends with its count and a PRIORITY notice; either way the hold is derived again (R107, R110, R111). -/
def Obligations.TheIntervalAndReservationsExpire : Prop :=
  (∀ (s : State) (a : Nat), s.resetIn = false → s.arb.own ≠ .shut → s.arb.expired = false → s.arb.armed = some a →
    (∀ n, s.governingInterval = some n → min a n ≤ s.arb.elapsed →
      exec .intervalExpiry s = .next { s with arb := { s.arb with expired := true } }) ∧
    (s.governingInterval = none → a ≤ s.arb.elapsed →
      exec .intervalExpiry s = .next { s with arb := { s.arb with expired := true } }) ∧
    (∀ p, s.activePlan = some p →
      (s.arb.gov = none → s.governingInterval = some p.interval) ∧
      (∀ e, s.arb.gov = some e → e.kind = .flush → s.governingInterval = some p.flushInterval) ∧
      (∀ e, s.arb.gov = some e → e.kind = .fixed → s.governingInterval = e.fixed))) ∧
  (∀ s : State, s.resetIn = false →
    (s.waiting isAdvance = some .advance →
      ((s.site.state ≠ .metering ∨ s.arb.own = .shut ∨ s.arb.reservation ≠ .none ∨ s.desc.priority = none ∨
          (∃ l g, s.arb.openRelease = some (l, g) ∧ s.desc.priority = some l)) →
        exec .advanceActuation s = .next { s with handoffs := s.handoffs.erase .advance }) ∧
      (∀ l, s.desc.priority = some l → s.site.state = .metering → s.arb.own ≠ .shut → s.arb.reservation = .none →
        (∀ m g, s.arb.openRelease = some (m, g) → m ≠ l) →
        ∃ t, exec .advanceActuation s = .next t ∧ Only [.arb, .counts, .handoffs] s t ∧
          t.handoffs = s.handoffs.erase .advance ∧ t.arb.reservation = .pending ∧
          t.arb.reserveLeft = s.par .reserveLimit ∧ t.arb.holdCause = .reserve ∧ t.arb.holdLane = some l ∧
          (s.arb.own = .releasing → t.arb.own = .releasing ∧ t.arb.owner = s.arb.owner) ∧
          (s.arb.own ≠ .releasing → t.arb.own = .held ∧ t.arb.owner = some l))) ∧
    (s.arb.reservation = .pending → s.arb.reserveLeft = 0 →
      ∃ t, exec .reservationExpiry s = .next t ∧ Only [.arb, .counts, .notices] s t ∧ t.arb.reservation = .none ∧
        t.log.slip.expired = s.log.slip.expired + 1 ∧ t.link.notices = s.link.notices ||| Notice.priority.bit ∧
        t.arb.prioWaiting = s.arb.prioWaiting ∧ t.arb.queue = s.arb.queue ∧
        (s.arb.own ≠ .shut → (t.arb.holdCause, t.arb.holdLane) = t.holdNow ∧ HoldDerived t ∧
          (s.arb.own = .releasing → t.arb.own = .releasing) ∧
          (s.arb.own ≠ .releasing → t.arb.own = (if t.arb.holdCause ≠ .none ∧
              t.arb.holdLane ≠ t.arb.openRelease.map Prod.fst then .held
            else if t.det.merge.state ≠ .clear then .yielding else .free) ∧
            t.arb.owner = (if t.arb.own = .held then t.arb.holdLane else none)))))

/-! ### What always holds -/

/-- The part right after reset keeps every invariant. -/
def Obligations.ResetIsSound : Prop :=
  State.reset.sound

/-- The override stack: at most four entries, by rank, no two of one identity (R131). -/
def Obligations.EveryStepKeepsTheStackSound : Prop :=
  ∀ s t : State, s.stackSound → step s = .next t → t.stackSound

/-- Every slot holds a valid record or none, and the slots in use hold plans and differ (R116, R121). -/
def Obligations.EveryStepKeepsThePlansInUse : Prop :=
  ∀ s t : State, s.plansValid → s.plansInUse → step s = .next t → t.plansValid ∧ t.plansInUse

/-- No head is commanded to show red and green together, and only ambers flash (R53). -/
def Obligations.EveryStepKeepsTheHeadsSound : Prop :=
  ∀ s t : State, s.headsSound → step s = .next t → t.headsSound

/-- The merge is in one hand, and so at most one lane is in GREEN (R103, R106). -/
def Obligations.AtMostOneLaneIsInGreen : Prop :=
  (∀ s t : State, s.mergeSound → step s = .next t → t.mergeSound) ∧ (∀ s : State, s.mergeSound → s.oneGreen)

/-- No non-priority lane's credit exceeds its weight in the active plan (R101). -/
def Obligations.EveryStepKeepsCreditsWithinWeights : Prop :=
  ∀ s t : State, s.plansInUse → s.creditsSound → step s = .next t → t.creditsSound

/-- Outside METERING the arbiter is SHUT, and SHUT is empty (R37, R92, R93). -/
def Obligations.EveryStepKeepsTheArbiterShutOutsideMetering : Prop :=
  ∀ s t : State, s.arbiterSound → step s = .next t → t.arbiterSound

/-- The channel records, the held prefixes and the site timing record keep their form (R7, R18, R19, R167).
The passage log holds at most 256 records, and the lost count saturates (R155). -/
def Obligations.EveryStepKeepsTheRecordsSound : Prop :=
  (∀ s t : State, step s = .next t →
    (s.channelsSound → t.channelsSound) ∧ (s.prefixSound → t.prefixSound) ∧ (s.timingSound → t.timingSound)) ∧
  (∀ s t : State, s.logSound → step s = .next t → t.logSound)
end

