-- ==== Sys2Proof/Laws/Bank.lean ====
section
/-! SUPPORT. Reading after writing in the banks of four and of sixteen. -/

namespace Sys2Proof

@[simp] theorem Quad.get_set_same {α : Type} (q : Quad α) (i : Fin 4) (a : α) : (q.set i a).get i = a := by
  fin_cases i <;> rfl

theorem Quad.get_set_other {α : Type} (q : Quad α) (i j : Fin 4) (a : α) (h : j ≠ i) :
    (q.set i a).get j = q.get j := by
  fin_cases i <;> fin_cases j <;> first | rfl | exact absurd rfl h

theorem Quad.get_set {α : Type} (q : Quad α) (i j : Fin 4) (a : α) :
    (q.set i a).get j = if j = i then a else q.get j := by
  by_cases h : j = i
  · subst h; simp
  · simp [Quad.get_set_other q i j a h, h]

@[simp] theorem Quad.get_map {α β : Type} (f : α → β) (q : Quad α) (i : Fin 4) : (q.map f).get i = f (q.get i) := by
  fin_cases i <;> rfl

@[simp] theorem Quad.get_all {α : Type} (a : α) (i : Fin 4) : (Quad.all a).get i = a := by
  fin_cases i <;> rfl

@[simp] theorem Quad.get_tab {α : Type} (f : Fin 4 → α) (i : Fin 4) : (Quad.tab f).get i = f i := by
  fin_cases i <;> rfl

theorem Quad.get_modify {α : Type} (q : Quad α) (i j : Fin 4) (f : α → α) :
    (q.modify i f).get j = if j = i then f (q.get i) else q.get j := by
  simp [Quad.modify, Quad.get_set]

@[simp] theorem Quad.get_modify_same {α : Type} (q : Quad α) (i : Fin 4) (f : α → α) :
    (q.modify i f).get i = f (q.get i) := by simp [Quad.get_modify]

theorem Quad.ext_get {α : Type} {p q : Quad α} (h : ∀ i, p.get i = q.get i) : p = q := by
  cases p; cases q
  have h0 := h 0
  have h1 := h 1
  have h2 := h 2
  have h3 := h 3
  simp_all [Quad.get]

theorem groupOf_placeOf_inj {c d : Fin 16} (hg : groupOf c = groupOf d) (hp : placeOf c = placeOf d) : c = d := by
  have h1 : c.val / 4 = d.val / 4 := congrArg Fin.val hg
  have h2 : c.val % 4 = d.val % 4 := congrArg Fin.val hp
  exact Fin.ext (by omega)

theorem Bank.at_put {α : Type} (b : Bank α) (c d : Fin 16) (a : α) :
    Bank.at (Bank.put b c a) d = if d = c then a else Bank.at b d := by
  unfold Bank.at Bank.put
  rw [Quad.get_set]
  by_cases hg : groupOf d = groupOf c
  · rw [if_pos hg, Quad.get_set, hg]
    by_cases hp : placeOf d = placeOf c
    · have : d = c := groupOf_placeOf_inj hg hp
      simp [this]
    · have : d ≠ c := fun h => hp (by rw [h])
      simp [hp, this]
  · have : d ≠ c := fun h => hg (by rw [h])
    simp [hg, this]

@[simp] theorem Bank.at_put_same {α : Type} (b : Bank α) (c : Fin 16) (a : α) : Bank.at (Bank.put b c a) c = a := by
  simp [Bank.at_put]

theorem Bank.at_modify {α : Type} (b : Bank α) (c d : Fin 16) (f : α → α) :
    Bank.at (Bank.modify b c f) d = if d = c then f (Bank.at b c) else Bank.at b d := by
  simp [Bank.modify, Bank.at_put]

@[simp] theorem Bank.at_modify_same {α : Type} (b : Bank α) (c : Fin 16) (f : α → α) :
    Bank.at (Bank.modify b c f) c = f (Bank.at b c) := by simp [Bank.at_modify]

@[simp] theorem Bank.at_mapAll {α β : Type} (f : α → β) (b : Bank α) (c : Fin 16) :
    Bank.at (Bank.mapAll f b) c = f (Bank.at b c) := by
  simp [Bank.at, Bank.mapAll]

@[simp] theorem Bank.at_fill {α : Type} (a : α) (c : Fin 16) : Bank.at (Bank.fill a) c = a := by
  simp [Bank.at, Bank.fill]

end Sys2Proof
end

