-- ==== Sys2Proof/Laws/State.lean ====
section
/-! SUPPORT. What each one-block update does to each field of State. -/

namespace Sys2Proof.Machine

@[simp] theorem modSite_pending (s : State) (f : SiteCtl → SiteCtl) : (s.modSite f).pending = s.pending := rfl
@[simp] theorem modSite_now (s : State) (f : SiteCtl → SiteCtl) : (s.modSite f).now = s.now := rfl
@[simp] theorem modSite_siteTime (s : State) (f : SiteCtl → SiteCtl) : (s.modSite f).siteTime = s.siteTime := rfl
@[simp] theorem modSite_resetIn (s : State) (f : SiteCtl → SiteCtl) : (s.modSite f).resetIn = s.resetIn := rfl
@[simp] theorem modSite_site (s : State) (f : SiteCtl → SiteCtl) : (s.modSite f).site = f s.site := rfl
@[simp] theorem modSite_desc (s : State) (f : SiteCtl → SiteCtl) : (s.modSite f).desc = s.desc := rfl
@[simp] theorem modSite_det (s : State) (f : SiteCtl → SiteCtl) : (s.modSite f).det = s.det := rfl
@[simp] theorem modSite_lanes (s : State) (f : SiteCtl → SiteCtl) : (s.modSite f).lanes = s.lanes := rfl
@[simp] theorem modSite_lamps (s : State) (f : SiteCtl → SiteCtl) : (s.modSite f).lamps = s.lamps := rfl
@[simp] theorem modSite_arb (s : State) (f : SiteCtl → SiteCtl) : (s.modSite f).arb = s.arb := rfl
@[simp] theorem modSite_plans (s : State) (f : SiteCtl → SiteCtl) : (s.modSite f).plans = s.plans := rfl
@[simp] theorem modSite_ovr (s : State) (f : SiteCtl → SiteCtl) : (s.modSite f).ovr = s.ovr := rfl
@[simp] theorem modSite_sel (s : State) (f : SiteCtl → SiteCtl) : (s.modSite f).sel = s.sel := rfl
@[simp] theorem modSite_log (s : State) (f : SiteCtl → SiteCtl) : (s.modSite f).log = s.log := rfl
@[simp] theorem modSite_link (s : State) (f : SiteCtl → SiteCtl) : (s.modSite f).link = s.link := rfl
@[simp] theorem modSite_handoffs (s : State) (f : SiteCtl → SiteCtl) : (s.modSite f).handoffs = s.handoffs := rfl
@[simp] theorem modSite_rxLine (s : State) (f : SiteCtl → SiteCtl) : (s.modSite f).rxLine = s.rxLine := rfl
@[simp] theorem modSite_freeCount (s : State) (f : SiteCtl → SiteCtl) : (s.modSite f).freeCount = s.freeCount := rfl

@[simp] theorem modDesc_pending (s : State) (f : SiteDesc → SiteDesc) : (s.modDesc f).pending = s.pending := rfl
@[simp] theorem modDesc_now (s : State) (f : SiteDesc → SiteDesc) : (s.modDesc f).now = s.now := rfl
@[simp] theorem modDesc_siteTime (s : State) (f : SiteDesc → SiteDesc) : (s.modDesc f).siteTime = s.siteTime := rfl
@[simp] theorem modDesc_resetIn (s : State) (f : SiteDesc → SiteDesc) : (s.modDesc f).resetIn = s.resetIn := rfl
@[simp] theorem modDesc_site (s : State) (f : SiteDesc → SiteDesc) : (s.modDesc f).site = s.site := rfl
@[simp] theorem modDesc_desc (s : State) (f : SiteDesc → SiteDesc) : (s.modDesc f).desc = f s.desc := rfl
@[simp] theorem modDesc_det (s : State) (f : SiteDesc → SiteDesc) : (s.modDesc f).det = s.det := rfl
@[simp] theorem modDesc_lanes (s : State) (f : SiteDesc → SiteDesc) : (s.modDesc f).lanes = s.lanes := rfl
@[simp] theorem modDesc_lamps (s : State) (f : SiteDesc → SiteDesc) : (s.modDesc f).lamps = s.lamps := rfl
@[simp] theorem modDesc_arb (s : State) (f : SiteDesc → SiteDesc) : (s.modDesc f).arb = s.arb := rfl
@[simp] theorem modDesc_plans (s : State) (f : SiteDesc → SiteDesc) : (s.modDesc f).plans = s.plans := rfl
@[simp] theorem modDesc_ovr (s : State) (f : SiteDesc → SiteDesc) : (s.modDesc f).ovr = s.ovr := rfl
@[simp] theorem modDesc_sel (s : State) (f : SiteDesc → SiteDesc) : (s.modDesc f).sel = s.sel := rfl
@[simp] theorem modDesc_log (s : State) (f : SiteDesc → SiteDesc) : (s.modDesc f).log = s.log := rfl
@[simp] theorem modDesc_link (s : State) (f : SiteDesc → SiteDesc) : (s.modDesc f).link = s.link := rfl
@[simp] theorem modDesc_handoffs (s : State) (f : SiteDesc → SiteDesc) : (s.modDesc f).handoffs = s.handoffs := rfl
@[simp] theorem modDesc_rxLine (s : State) (f : SiteDesc → SiteDesc) : (s.modDesc f).rxLine = s.rxLine := rfl
@[simp] theorem modDesc_freeCount (s : State) (f : SiteDesc → SiteDesc) : (s.modDesc f).freeCount = s.freeCount := rfl

@[simp] theorem modDet_pending (s : State) (f : Detectors → Detectors) : (s.modDet f).pending = s.pending := rfl
@[simp] theorem modDet_now (s : State) (f : Detectors → Detectors) : (s.modDet f).now = s.now := rfl
@[simp] theorem modDet_siteTime (s : State) (f : Detectors → Detectors) : (s.modDet f).siteTime = s.siteTime := rfl
@[simp] theorem modDet_resetIn (s : State) (f : Detectors → Detectors) : (s.modDet f).resetIn = s.resetIn := rfl
@[simp] theorem modDet_site (s : State) (f : Detectors → Detectors) : (s.modDet f).site = s.site := rfl
@[simp] theorem modDet_desc (s : State) (f : Detectors → Detectors) : (s.modDet f).desc = s.desc := rfl
@[simp] theorem modDet_det (s : State) (f : Detectors → Detectors) : (s.modDet f).det = f s.det := rfl
@[simp] theorem modDet_lanes (s : State) (f : Detectors → Detectors) : (s.modDet f).lanes = s.lanes := rfl
@[simp] theorem modDet_lamps (s : State) (f : Detectors → Detectors) : (s.modDet f).lamps = s.lamps := rfl
@[simp] theorem modDet_arb (s : State) (f : Detectors → Detectors) : (s.modDet f).arb = s.arb := rfl
@[simp] theorem modDet_plans (s : State) (f : Detectors → Detectors) : (s.modDet f).plans = s.plans := rfl
@[simp] theorem modDet_ovr (s : State) (f : Detectors → Detectors) : (s.modDet f).ovr = s.ovr := rfl
@[simp] theorem modDet_sel (s : State) (f : Detectors → Detectors) : (s.modDet f).sel = s.sel := rfl
@[simp] theorem modDet_log (s : State) (f : Detectors → Detectors) : (s.modDet f).log = s.log := rfl
@[simp] theorem modDet_link (s : State) (f : Detectors → Detectors) : (s.modDet f).link = s.link := rfl
@[simp] theorem modDet_handoffs (s : State) (f : Detectors → Detectors) : (s.modDet f).handoffs = s.handoffs := rfl
@[simp] theorem modDet_rxLine (s : State) (f : Detectors → Detectors) : (s.modDet f).rxLine = s.rxLine := rfl
@[simp] theorem modDet_freeCount (s : State) (f : Detectors → Detectors) : (s.modDet f).freeCount = s.freeCount := rfl

@[simp] theorem modLamps_pending (s : State) (f : LampMon → LampMon) : (s.modLamps f).pending = s.pending := rfl
@[simp] theorem modLamps_now (s : State) (f : LampMon → LampMon) : (s.modLamps f).now = s.now := rfl
@[simp] theorem modLamps_siteTime (s : State) (f : LampMon → LampMon) : (s.modLamps f).siteTime = s.siteTime := rfl
@[simp] theorem modLamps_resetIn (s : State) (f : LampMon → LampMon) : (s.modLamps f).resetIn = s.resetIn := rfl
@[simp] theorem modLamps_site (s : State) (f : LampMon → LampMon) : (s.modLamps f).site = s.site := rfl
@[simp] theorem modLamps_desc (s : State) (f : LampMon → LampMon) : (s.modLamps f).desc = s.desc := rfl
@[simp] theorem modLamps_det (s : State) (f : LampMon → LampMon) : (s.modLamps f).det = s.det := rfl
@[simp] theorem modLamps_lanes (s : State) (f : LampMon → LampMon) : (s.modLamps f).lanes = s.lanes := rfl
@[simp] theorem modLamps_lamps (s : State) (f : LampMon → LampMon) : (s.modLamps f).lamps = f s.lamps := rfl
@[simp] theorem modLamps_arb (s : State) (f : LampMon → LampMon) : (s.modLamps f).arb = s.arb := rfl
@[simp] theorem modLamps_plans (s : State) (f : LampMon → LampMon) : (s.modLamps f).plans = s.plans := rfl
@[simp] theorem modLamps_ovr (s : State) (f : LampMon → LampMon) : (s.modLamps f).ovr = s.ovr := rfl
@[simp] theorem modLamps_sel (s : State) (f : LampMon → LampMon) : (s.modLamps f).sel = s.sel := rfl
@[simp] theorem modLamps_log (s : State) (f : LampMon → LampMon) : (s.modLamps f).log = s.log := rfl
@[simp] theorem modLamps_link (s : State) (f : LampMon → LampMon) : (s.modLamps f).link = s.link := rfl
@[simp] theorem modLamps_handoffs (s : State) (f : LampMon → LampMon) : (s.modLamps f).handoffs = s.handoffs := rfl
@[simp] theorem modLamps_rxLine (s : State) (f : LampMon → LampMon) : (s.modLamps f).rxLine = s.rxLine := rfl
@[simp] theorem modLamps_freeCount (s : State) (f : LampMon → LampMon) : (s.modLamps f).freeCount = s.freeCount := rfl

@[simp] theorem modArb_pending (s : State) (f : Arbiter → Arbiter) : (s.modArb f).pending = s.pending := rfl
@[simp] theorem modArb_now (s : State) (f : Arbiter → Arbiter) : (s.modArb f).now = s.now := rfl
@[simp] theorem modArb_siteTime (s : State) (f : Arbiter → Arbiter) : (s.modArb f).siteTime = s.siteTime := rfl
@[simp] theorem modArb_resetIn (s : State) (f : Arbiter → Arbiter) : (s.modArb f).resetIn = s.resetIn := rfl
@[simp] theorem modArb_site (s : State) (f : Arbiter → Arbiter) : (s.modArb f).site = s.site := rfl
@[simp] theorem modArb_desc (s : State) (f : Arbiter → Arbiter) : (s.modArb f).desc = s.desc := rfl
@[simp] theorem modArb_det (s : State) (f : Arbiter → Arbiter) : (s.modArb f).det = s.det := rfl
@[simp] theorem modArb_lanes (s : State) (f : Arbiter → Arbiter) : (s.modArb f).lanes = s.lanes := rfl
@[simp] theorem modArb_lamps (s : State) (f : Arbiter → Arbiter) : (s.modArb f).lamps = s.lamps := rfl
@[simp] theorem modArb_arb (s : State) (f : Arbiter → Arbiter) : (s.modArb f).arb = f s.arb := rfl
@[simp] theorem modArb_plans (s : State) (f : Arbiter → Arbiter) : (s.modArb f).plans = s.plans := rfl
@[simp] theorem modArb_ovr (s : State) (f : Arbiter → Arbiter) : (s.modArb f).ovr = s.ovr := rfl
@[simp] theorem modArb_sel (s : State) (f : Arbiter → Arbiter) : (s.modArb f).sel = s.sel := rfl
@[simp] theorem modArb_log (s : State) (f : Arbiter → Arbiter) : (s.modArb f).log = s.log := rfl
@[simp] theorem modArb_link (s : State) (f : Arbiter → Arbiter) : (s.modArb f).link = s.link := rfl
@[simp] theorem modArb_handoffs (s : State) (f : Arbiter → Arbiter) : (s.modArb f).handoffs = s.handoffs := rfl
@[simp] theorem modArb_rxLine (s : State) (f : Arbiter → Arbiter) : (s.modArb f).rxLine = s.rxLine := rfl
@[simp] theorem modArb_freeCount (s : State) (f : Arbiter → Arbiter) : (s.modArb f).freeCount = s.freeCount := rfl

@[simp] theorem modPlans_pending (s : State) (f : PlanStore → PlanStore) : (s.modPlans f).pending = s.pending := rfl
@[simp] theorem modPlans_now (s : State) (f : PlanStore → PlanStore) : (s.modPlans f).now = s.now := rfl
@[simp] theorem modPlans_siteTime (s : State) (f : PlanStore → PlanStore) : (s.modPlans f).siteTime = s.siteTime := rfl
@[simp] theorem modPlans_resetIn (s : State) (f : PlanStore → PlanStore) : (s.modPlans f).resetIn = s.resetIn := rfl
@[simp] theorem modPlans_site (s : State) (f : PlanStore → PlanStore) : (s.modPlans f).site = s.site := rfl
@[simp] theorem modPlans_desc (s : State) (f : PlanStore → PlanStore) : (s.modPlans f).desc = s.desc := rfl
@[simp] theorem modPlans_det (s : State) (f : PlanStore → PlanStore) : (s.modPlans f).det = s.det := rfl
@[simp] theorem modPlans_lanes (s : State) (f : PlanStore → PlanStore) : (s.modPlans f).lanes = s.lanes := rfl
@[simp] theorem modPlans_lamps (s : State) (f : PlanStore → PlanStore) : (s.modPlans f).lamps = s.lamps := rfl
@[simp] theorem modPlans_arb (s : State) (f : PlanStore → PlanStore) : (s.modPlans f).arb = s.arb := rfl
@[simp] theorem modPlans_plans (s : State) (f : PlanStore → PlanStore) : (s.modPlans f).plans = f s.plans := rfl
@[simp] theorem modPlans_ovr (s : State) (f : PlanStore → PlanStore) : (s.modPlans f).ovr = s.ovr := rfl
@[simp] theorem modPlans_sel (s : State) (f : PlanStore → PlanStore) : (s.modPlans f).sel = s.sel := rfl
@[simp] theorem modPlans_log (s : State) (f : PlanStore → PlanStore) : (s.modPlans f).log = s.log := rfl
@[simp] theorem modPlans_link (s : State) (f : PlanStore → PlanStore) : (s.modPlans f).link = s.link := rfl
@[simp] theorem modPlans_handoffs (s : State) (f : PlanStore → PlanStore) : (s.modPlans f).handoffs = s.handoffs := rfl
@[simp] theorem modPlans_rxLine (s : State) (f : PlanStore → PlanStore) : (s.modPlans f).rxLine = s.rxLine := rfl
@[simp] theorem modPlans_freeCount (s : State) (f : PlanStore → PlanStore) : (s.modPlans f).freeCount = s.freeCount := rfl

@[simp] theorem modOvr_pending (s : State) (f : Overrides → Overrides) : (s.modOvr f).pending = s.pending := rfl
@[simp] theorem modOvr_now (s : State) (f : Overrides → Overrides) : (s.modOvr f).now = s.now := rfl
@[simp] theorem modOvr_siteTime (s : State) (f : Overrides → Overrides) : (s.modOvr f).siteTime = s.siteTime := rfl
@[simp] theorem modOvr_resetIn (s : State) (f : Overrides → Overrides) : (s.modOvr f).resetIn = s.resetIn := rfl
@[simp] theorem modOvr_site (s : State) (f : Overrides → Overrides) : (s.modOvr f).site = s.site := rfl
@[simp] theorem modOvr_desc (s : State) (f : Overrides → Overrides) : (s.modOvr f).desc = s.desc := rfl
@[simp] theorem modOvr_det (s : State) (f : Overrides → Overrides) : (s.modOvr f).det = s.det := rfl
@[simp] theorem modOvr_lanes (s : State) (f : Overrides → Overrides) : (s.modOvr f).lanes = s.lanes := rfl
@[simp] theorem modOvr_lamps (s : State) (f : Overrides → Overrides) : (s.modOvr f).lamps = s.lamps := rfl
@[simp] theorem modOvr_arb (s : State) (f : Overrides → Overrides) : (s.modOvr f).arb = s.arb := rfl
@[simp] theorem modOvr_plans (s : State) (f : Overrides → Overrides) : (s.modOvr f).plans = s.plans := rfl
@[simp] theorem modOvr_ovr (s : State) (f : Overrides → Overrides) : (s.modOvr f).ovr = f s.ovr := rfl
@[simp] theorem modOvr_sel (s : State) (f : Overrides → Overrides) : (s.modOvr f).sel = s.sel := rfl
@[simp] theorem modOvr_log (s : State) (f : Overrides → Overrides) : (s.modOvr f).log = s.log := rfl
@[simp] theorem modOvr_link (s : State) (f : Overrides → Overrides) : (s.modOvr f).link = s.link := rfl
@[simp] theorem modOvr_handoffs (s : State) (f : Overrides → Overrides) : (s.modOvr f).handoffs = s.handoffs := rfl
@[simp] theorem modOvr_rxLine (s : State) (f : Overrides → Overrides) : (s.modOvr f).rxLine = s.rxLine := rfl
@[simp] theorem modOvr_freeCount (s : State) (f : Overrides → Overrides) : (s.modOvr f).freeCount = s.freeCount := rfl

@[simp] theorem modSel_pending (s : State) (f : Selector → Selector) : (s.modSel f).pending = s.pending := rfl
@[simp] theorem modSel_now (s : State) (f : Selector → Selector) : (s.modSel f).now = s.now := rfl
@[simp] theorem modSel_siteTime (s : State) (f : Selector → Selector) : (s.modSel f).siteTime = s.siteTime := rfl
@[simp] theorem modSel_resetIn (s : State) (f : Selector → Selector) : (s.modSel f).resetIn = s.resetIn := rfl
@[simp] theorem modSel_site (s : State) (f : Selector → Selector) : (s.modSel f).site = s.site := rfl
@[simp] theorem modSel_desc (s : State) (f : Selector → Selector) : (s.modSel f).desc = s.desc := rfl
@[simp] theorem modSel_det (s : State) (f : Selector → Selector) : (s.modSel f).det = s.det := rfl
@[simp] theorem modSel_lanes (s : State) (f : Selector → Selector) : (s.modSel f).lanes = s.lanes := rfl
@[simp] theorem modSel_lamps (s : State) (f : Selector → Selector) : (s.modSel f).lamps = s.lamps := rfl
@[simp] theorem modSel_arb (s : State) (f : Selector → Selector) : (s.modSel f).arb = s.arb := rfl
@[simp] theorem modSel_plans (s : State) (f : Selector → Selector) : (s.modSel f).plans = s.plans := rfl
@[simp] theorem modSel_ovr (s : State) (f : Selector → Selector) : (s.modSel f).ovr = s.ovr := rfl
@[simp] theorem modSel_sel (s : State) (f : Selector → Selector) : (s.modSel f).sel = f s.sel := rfl
@[simp] theorem modSel_log (s : State) (f : Selector → Selector) : (s.modSel f).log = s.log := rfl
@[simp] theorem modSel_link (s : State) (f : Selector → Selector) : (s.modSel f).link = s.link := rfl
@[simp] theorem modSel_handoffs (s : State) (f : Selector → Selector) : (s.modSel f).handoffs = s.handoffs := rfl
@[simp] theorem modSel_rxLine (s : State) (f : Selector → Selector) : (s.modSel f).rxLine = s.rxLine := rfl
@[simp] theorem modSel_freeCount (s : State) (f : Selector → Selector) : (s.modSel f).freeCount = s.freeCount := rfl

@[simp] theorem modLog_pending (s : State) (f : PassLog → PassLog) : (s.modLog f).pending = s.pending := rfl
@[simp] theorem modLog_now (s : State) (f : PassLog → PassLog) : (s.modLog f).now = s.now := rfl
@[simp] theorem modLog_siteTime (s : State) (f : PassLog → PassLog) : (s.modLog f).siteTime = s.siteTime := rfl
@[simp] theorem modLog_resetIn (s : State) (f : PassLog → PassLog) : (s.modLog f).resetIn = s.resetIn := rfl
@[simp] theorem modLog_site (s : State) (f : PassLog → PassLog) : (s.modLog f).site = s.site := rfl
@[simp] theorem modLog_desc (s : State) (f : PassLog → PassLog) : (s.modLog f).desc = s.desc := rfl
@[simp] theorem modLog_det (s : State) (f : PassLog → PassLog) : (s.modLog f).det = s.det := rfl
@[simp] theorem modLog_lanes (s : State) (f : PassLog → PassLog) : (s.modLog f).lanes = s.lanes := rfl
@[simp] theorem modLog_lamps (s : State) (f : PassLog → PassLog) : (s.modLog f).lamps = s.lamps := rfl
@[simp] theorem modLog_arb (s : State) (f : PassLog → PassLog) : (s.modLog f).arb = s.arb := rfl
@[simp] theorem modLog_plans (s : State) (f : PassLog → PassLog) : (s.modLog f).plans = s.plans := rfl
@[simp] theorem modLog_ovr (s : State) (f : PassLog → PassLog) : (s.modLog f).ovr = s.ovr := rfl
@[simp] theorem modLog_sel (s : State) (f : PassLog → PassLog) : (s.modLog f).sel = s.sel := rfl
@[simp] theorem modLog_log (s : State) (f : PassLog → PassLog) : (s.modLog f).log = f s.log := rfl
@[simp] theorem modLog_link (s : State) (f : PassLog → PassLog) : (s.modLog f).link = s.link := rfl
@[simp] theorem modLog_handoffs (s : State) (f : PassLog → PassLog) : (s.modLog f).handoffs = s.handoffs := rfl
@[simp] theorem modLog_rxLine (s : State) (f : PassLog → PassLog) : (s.modLog f).rxLine = s.rxLine := rfl
@[simp] theorem modLog_freeCount (s : State) (f : PassLog → PassLog) : (s.modLog f).freeCount = s.freeCount := rfl

@[simp] theorem modLink_pending (s : State) (f : Link → Link) : (s.modLink f).pending = s.pending := rfl
@[simp] theorem modLink_now (s : State) (f : Link → Link) : (s.modLink f).now = s.now := rfl
@[simp] theorem modLink_siteTime (s : State) (f : Link → Link) : (s.modLink f).siteTime = s.siteTime := rfl
@[simp] theorem modLink_resetIn (s : State) (f : Link → Link) : (s.modLink f).resetIn = s.resetIn := rfl
@[simp] theorem modLink_site (s : State) (f : Link → Link) : (s.modLink f).site = s.site := rfl
@[simp] theorem modLink_desc (s : State) (f : Link → Link) : (s.modLink f).desc = s.desc := rfl
@[simp] theorem modLink_det (s : State) (f : Link → Link) : (s.modLink f).det = s.det := rfl
@[simp] theorem modLink_lanes (s : State) (f : Link → Link) : (s.modLink f).lanes = s.lanes := rfl
@[simp] theorem modLink_lamps (s : State) (f : Link → Link) : (s.modLink f).lamps = s.lamps := rfl
@[simp] theorem modLink_arb (s : State) (f : Link → Link) : (s.modLink f).arb = s.arb := rfl
@[simp] theorem modLink_plans (s : State) (f : Link → Link) : (s.modLink f).plans = s.plans := rfl
@[simp] theorem modLink_ovr (s : State) (f : Link → Link) : (s.modLink f).ovr = s.ovr := rfl
@[simp] theorem modLink_sel (s : State) (f : Link → Link) : (s.modLink f).sel = s.sel := rfl
@[simp] theorem modLink_log (s : State) (f : Link → Link) : (s.modLink f).log = s.log := rfl
@[simp] theorem modLink_link (s : State) (f : Link → Link) : (s.modLink f).link = f s.link := rfl
@[simp] theorem modLink_handoffs (s : State) (f : Link → Link) : (s.modLink f).handoffs = s.handoffs := rfl
@[simp] theorem modLink_rxLine (s : State) (f : Link → Link) : (s.modLink f).rxLine = s.rxLine := rfl
@[simp] theorem modLink_freeCount (s : State) (f : Link → Link) : (s.modLink f).freeCount = s.freeCount := rfl

@[simp] theorem modChan_pending (s : State) (c : Chan) (f : Channel → Channel) :
    (s.modChan c f).pending = s.pending := rfl
@[simp] theorem modChan_now (s : State) (c : Chan) (f : Channel → Channel) : (s.modChan c f).now = s.now := rfl
@[simp] theorem modChan_siteTime (s : State) (c : Chan) (f : Channel → Channel) :
    (s.modChan c f).siteTime = s.siteTime := rfl
@[simp] theorem modChan_resetIn (s : State) (c : Chan) (f : Channel → Channel) :
    (s.modChan c f).resetIn = s.resetIn := rfl
@[simp] theorem modChan_site (s : State) (c : Chan) (f : Channel → Channel) : (s.modChan c f).site = s.site := rfl
@[simp] theorem modChan_desc (s : State) (c : Chan) (f : Channel → Channel) : (s.modChan c f).desc = s.desc := rfl
@[simp] theorem modChan_det (s : State) (c : Chan) (f : Channel → Channel) :
    (s.modChan c f).det = { s.det with chans := Bank.modify s.det.chans c f } := rfl
@[simp] theorem modChan_lanes (s : State) (c : Chan) (f : Channel → Channel) : (s.modChan c f).lanes = s.lanes := rfl
@[simp] theorem modChan_lamps (s : State) (c : Chan) (f : Channel → Channel) : (s.modChan c f).lamps = s.lamps := rfl
@[simp] theorem modChan_arb (s : State) (c : Chan) (f : Channel → Channel) : (s.modChan c f).arb = s.arb := rfl
@[simp] theorem modChan_plans (s : State) (c : Chan) (f : Channel → Channel) : (s.modChan c f).plans = s.plans := rfl
@[simp] theorem modChan_ovr (s : State) (c : Chan) (f : Channel → Channel) : (s.modChan c f).ovr = s.ovr := rfl
@[simp] theorem modChan_sel (s : State) (c : Chan) (f : Channel → Channel) : (s.modChan c f).sel = s.sel := rfl
@[simp] theorem modChan_log (s : State) (c : Chan) (f : Channel → Channel) : (s.modChan c f).log = s.log := rfl
@[simp] theorem modChan_link (s : State) (c : Chan) (f : Channel → Channel) : (s.modChan c f).link = s.link := rfl
@[simp] theorem modChan_handoffs (s : State) (c : Chan) (f : Channel → Channel) :
    (s.modChan c f).handoffs = s.handoffs := rfl
@[simp] theorem modChan_rxLine (s : State) (c : Chan) (f : Channel → Channel) :
    (s.modChan c f).rxLine = s.rxLine := rfl
@[simp] theorem modChan_freeCount (s : State) (c : Chan) (f : Channel → Channel) :
    (s.modChan c f).freeCount = s.freeCount := rfl

@[simp] theorem modLane_pending (s : State) (l : Lane) (f : LaneRec → LaneRec) :
    (s.modLane l f).pending = s.pending := rfl
@[simp] theorem modLane_now (s : State) (l : Lane) (f : LaneRec → LaneRec) : (s.modLane l f).now = s.now := rfl
@[simp] theorem modLane_siteTime (s : State) (l : Lane) (f : LaneRec → LaneRec) :
    (s.modLane l f).siteTime = s.siteTime := rfl
@[simp] theorem modLane_resetIn (s : State) (l : Lane) (f : LaneRec → LaneRec) :
    (s.modLane l f).resetIn = s.resetIn := rfl
@[simp] theorem modLane_site (s : State) (l : Lane) (f : LaneRec → LaneRec) : (s.modLane l f).site = s.site := rfl
@[simp] theorem modLane_desc (s : State) (l : Lane) (f : LaneRec → LaneRec) : (s.modLane l f).desc = s.desc := rfl
@[simp] theorem modLane_det (s : State) (l : Lane) (f : LaneRec → LaneRec) : (s.modLane l f).det = s.det := rfl
@[simp] theorem modLane_lanes (s : State) (l : Lane) (f : LaneRec → LaneRec) :
    (s.modLane l f).lanes = s.lanes.modify l f := rfl
@[simp] theorem modLane_lamps (s : State) (l : Lane) (f : LaneRec → LaneRec) : (s.modLane l f).lamps = s.lamps := rfl
@[simp] theorem modLane_arb (s : State) (l : Lane) (f : LaneRec → LaneRec) : (s.modLane l f).arb = s.arb := rfl
@[simp] theorem modLane_plans (s : State) (l : Lane) (f : LaneRec → LaneRec) : (s.modLane l f).plans = s.plans := rfl
@[simp] theorem modLane_ovr (s : State) (l : Lane) (f : LaneRec → LaneRec) : (s.modLane l f).ovr = s.ovr := rfl
@[simp] theorem modLane_sel (s : State) (l : Lane) (f : LaneRec → LaneRec) : (s.modLane l f).sel = s.sel := rfl
@[simp] theorem modLane_log (s : State) (l : Lane) (f : LaneRec → LaneRec) : (s.modLane l f).log = s.log := rfl
@[simp] theorem modLane_link (s : State) (l : Lane) (f : LaneRec → LaneRec) : (s.modLane l f).link = s.link := rfl
@[simp] theorem modLane_handoffs (s : State) (l : Lane) (f : LaneRec → LaneRec) :
    (s.modLane l f).handoffs = s.handoffs := rfl
@[simp] theorem modLane_rxLine (s : State) (l : Lane) (f : LaneRec → LaneRec) :
    (s.modLane l f).rxLine = s.rxLine := rfl
@[simp] theorem modLane_freeCount (s : State) (l : Lane) (f : LaneRec → LaneRec) :
    (s.modLane l f).freeCount = s.freeCount := rfl

@[simp] theorem modHead_pending (s : State) (l : Lane) (f : Head → Head) : (s.modHead l f).pending = s.pending := rfl
@[simp] theorem modHead_now (s : State) (l : Lane) (f : Head → Head) : (s.modHead l f).now = s.now := rfl
@[simp] theorem modHead_siteTime (s : State) (l : Lane) (f : Head → Head) :
    (s.modHead l f).siteTime = s.siteTime := rfl
@[simp] theorem modHead_resetIn (s : State) (l : Lane) (f : Head → Head) : (s.modHead l f).resetIn = s.resetIn := rfl
@[simp] theorem modHead_site (s : State) (l : Lane) (f : Head → Head) : (s.modHead l f).site = s.site := rfl
@[simp] theorem modHead_desc (s : State) (l : Lane) (f : Head → Head) : (s.modHead l f).desc = s.desc := rfl
@[simp] theorem modHead_det (s : State) (l : Lane) (f : Head → Head) : (s.modHead l f).det = s.det := rfl
@[simp] theorem modHead_lanes (s : State) (l : Lane) (f : Head → Head) : (s.modHead l f).lanes = s.lanes := rfl
@[simp] theorem modHead_lamps (s : State) (l : Lane) (f : Head → Head) :
    (s.modHead l f).lamps = { s.lamps with heads := s.lamps.heads.modify l f } := rfl
@[simp] theorem modHead_arb (s : State) (l : Lane) (f : Head → Head) : (s.modHead l f).arb = s.arb := rfl
@[simp] theorem modHead_plans (s : State) (l : Lane) (f : Head → Head) : (s.modHead l f).plans = s.plans := rfl
@[simp] theorem modHead_ovr (s : State) (l : Lane) (f : Head → Head) : (s.modHead l f).ovr = s.ovr := rfl
@[simp] theorem modHead_sel (s : State) (l : Lane) (f : Head → Head) : (s.modHead l f).sel = s.sel := rfl
@[simp] theorem modHead_log (s : State) (l : Lane) (f : Head → Head) : (s.modHead l f).log = s.log := rfl
@[simp] theorem modHead_link (s : State) (l : Lane) (f : Head → Head) : (s.modHead l f).link = s.link := rfl
@[simp] theorem modHead_handoffs (s : State) (l : Lane) (f : Head → Head) :
    (s.modHead l f).handoffs = s.handoffs := rfl
@[simp] theorem modHead_rxLine (s : State) (l : Lane) (f : Head → Head) : (s.modHead l f).rxLine = s.rxLine := rfl
@[simp] theorem modHead_freeCount (s : State) (l : Lane) (f : Head → Head) :
    (s.modHead l f).freeCount = s.freeCount := rfl

@[simp] theorem modLamp_pending (s : State) (l : Lane) (col : Colour) (f : LampRec → LampRec) :
    (s.modLamp l col f).pending = s.pending := rfl
@[simp] theorem modLamp_now (s : State) (l : Lane) (col : Colour) (f : LampRec → LampRec) :
    (s.modLamp l col f).now = s.now := rfl
@[simp] theorem modLamp_siteTime (s : State) (l : Lane) (col : Colour) (f : LampRec → LampRec) :
    (s.modLamp l col f).siteTime = s.siteTime := rfl
@[simp] theorem modLamp_resetIn (s : State) (l : Lane) (col : Colour) (f : LampRec → LampRec) :
    (s.modLamp l col f).resetIn = s.resetIn := rfl
@[simp] theorem modLamp_site (s : State) (l : Lane) (col : Colour) (f : LampRec → LampRec) :
    (s.modLamp l col f).site = s.site := rfl
@[simp] theorem modLamp_desc (s : State) (l : Lane) (col : Colour) (f : LampRec → LampRec) :
    (s.modLamp l col f).desc = s.desc := rfl
@[simp] theorem modLamp_det (s : State) (l : Lane) (col : Colour) (f : LampRec → LampRec) :
    (s.modLamp l col f).det = s.det := rfl
@[simp] theorem modLamp_lanes (s : State) (l : Lane) (col : Colour) (f : LampRec → LampRec) :
    (s.modLamp l col f).lanes = s.lanes := rfl
@[simp] theorem modLamp_arb (s : State) (l : Lane) (col : Colour) (f : LampRec → LampRec) :
    (s.modLamp l col f).arb = s.arb := rfl
@[simp] theorem modLamp_plans (s : State) (l : Lane) (col : Colour) (f : LampRec → LampRec) :
    (s.modLamp l col f).plans = s.plans := rfl
@[simp] theorem modLamp_ovr (s : State) (l : Lane) (col : Colour) (f : LampRec → LampRec) :
    (s.modLamp l col f).ovr = s.ovr := rfl
@[simp] theorem modLamp_sel (s : State) (l : Lane) (col : Colour) (f : LampRec → LampRec) :
    (s.modLamp l col f).sel = s.sel := rfl
@[simp] theorem modLamp_log (s : State) (l : Lane) (col : Colour) (f : LampRec → LampRec) :
    (s.modLamp l col f).log = s.log := rfl
@[simp] theorem modLamp_link (s : State) (l : Lane) (col : Colour) (f : LampRec → LampRec) :
    (s.modLamp l col f).link = s.link := rfl
@[simp] theorem modLamp_handoffs (s : State) (l : Lane) (col : Colour) (f : LampRec → LampRec) :
    (s.modLamp l col f).handoffs = s.handoffs := rfl
@[simp] theorem modLamp_rxLine (s : State) (l : Lane) (col : Colour) (f : LampRec → LampRec) :
    (s.modLamp l col f).rxLine = s.rxLine := rfl
@[simp] theorem modLamp_freeCount (s : State) (l : Lane) (col : Colour) (f : LampRec → LampRec) :
    (s.modLamp l col f).freeCount = s.freeCount := rfl

end Sys2Proof.Machine
end

