-- ==== Sys2Proof/Laws/Frames.lean ====
section
/-! SUPPORT. What each shared operation can change: `Only bs s t` says that `t` differs from `s` in the parts `bs` at
most. One lemma for each shared operation; a part that is not listed is read back with `Only.same`. -/

namespace Sys2Proof.Machine

set_option Elab.async false

theorem agree.refl (s : State) (b : Part) : agree s s b := by cases b <;> simp [agree]

theorem agree.trans {s t u : State} {b : Part} (h : agree s t b) (k : agree t u b) : agree s u b := by
  cases b <;> simp_all [agree]

theorem Only.refl (bs : List Part) (s : State) : Only bs s s := fun b _ => agree.refl s b

theorem Only.same {bs : List Part} {s t : State} (h : Only bs s t) (b : Part) (hb : b ∉ bs := by decide) :
    agree s t b := h b hb

theorem Only.mono {bs cs : List Part} {s t : State} (h : Only bs s t) (hc : bs ⊆ cs := by decide) : Only cs s t :=
  fun b hb => h b (fun m => hb (hc m))

theorem Only.andThen {bs : List Part} {s t u : State} (h : Only bs s t) (k : Only bs t u) : Only bs s u :=
  fun b hb => (h b hb).trans (k b hb)

/-- Chaining, with each step's parts among the parts of the whole. -/
theorem Only.step {bs cs : List Part} {s t u : State} (h : Only cs s t) (k : Only bs t u)
    (hc : bs ⊆ cs := by decide) : Only cs s u := h.andThen (k.mono hc)

theorem Only.forAll {α : Type} {bs : List Part} {f : α → State → State} (hf : ∀ x t, Only bs t (f x t))
    (xs : List α) (s : State) : Only bs s (forAll xs f s) := by
  induction xs generalizing s with
  | nil => exact Only.refl bs s
  | cons x xs ih => exact (hf x s).andThen (ih (f x s))

theorem Only.ite {bs : List Part} {s t u : State} {p : Prop} [Decidable p] (ht : p → Only bs s t)
    (hu : ¬p → Only bs s u) : Only bs s (if p then t else u) := by
  split
  · exact ht (by assumption)
  · exact hu (by assumption)

/-! ### Whole fields of State -/

theorem Only.det {bs : List Part} {s t : State} (h : Only bs s t) (a : Part.chans ∉ bs := by decide)
    (b : Part.merge ∉ bs := by decide) (c : Part.monitors ∉ bs := by decide) (d : Part.occupancy ∉ bs := by decide) :
    t.det = s.det := by
  have h1 : t.det.chans = s.det.chans := h _ a
  have h2 : t.det.merge = s.det.merge := h _ b
  have h3 : t.det.queue = s.det.queue ∧ t.det.spill = s.det.spill := h _ c
  have h4 : t.det.occupancy = s.det.occupancy ∧ t.det.periodFrom = s.det.periodFrom := h _ d
  cases ht : t.det; cases hs : s.det; simp_all

theorem Only.log {bs : List Part} {s t : State} (h : Only bs s t) (a : Part.records ∉ bs := by decide)
    (b : Part.counts ∉ bs := by decide) : t.log = s.log := by
  have h1 : t.log.records = s.log.records ∧ t.log.lost = s.log.lost := h _ a
  have h2 : t.log.lanes = s.log.lanes ∧ t.log.slip = s.log.slip := h _ b
  cases ht : t.log; cases hs : s.log; simp_all

theorem Only.ovr {bs : List Part} {s t : State} (h : Only bs s t) (a : Part.entries ∉ bs := by decide)
    (b : Part.preempt ∉ bs := by decide) : t.ovr = s.ovr := by
  have h1 : t.ovr.entries = s.ovr.entries := h _ a
  have h2 : t.ovr.preInput = s.ovr.preInput ∧ t.ovr.preLevel = s.ovr.preLevel ∧ t.ovr.preFrom = s.ovr.preFrom := h _ b
  cases ht : t.ovr; cases hs : s.ovr; simp_all

theorem Only.sel {bs : List Part} {s t : State} (h : Only bs s t) (a : Part.map ∉ bs := by decide)
    (b : Part.selection ∉ bs := by decide) : t.sel = s.sel := by
  have h1 : t.sel.map = s.sel.map ∧ t.sel.lastBand = s.sel.lastBand := h _ a
  have h2 : t.sel.sel = s.sel.sel := h _ b
  cases ht : t.sel; cases hs : s.sel; simp_all

theorem Only.link {bs : List Part} {s t : State} (h : Only bs s t) (a : Part.link ∉ bs := by decide)
    (b : Part.notices ∉ bs := by decide) (c : Part.stream ∉ bs := by decide) : t.link = s.link := by
  have h1 : { t.link with notices := 0, stream := none } = { s.link with notices := 0, stream := none } := h _ a
  have h2 : t.link.notices = s.link.notices := h _ b
  have h3 : t.link.stream = s.link.stream := h _ c
  cases ht : t.link; cases hs : s.link; simp_all

/-! ### The one-block updates -/

theorem modSite_only (s : State) (f : SiteCtl → SiteCtl) : Only [.site] s (s.modSite f) := by
  intro b hb; cases b <;> simp_all [agree]

theorem modDesc_only (s : State) (f : SiteDesc → SiteDesc) : Only [.desc] s (s.modDesc f) := by
  intro b hb; cases b <;> simp_all [agree]

theorem modChan_only (s : State) (c : Chan) (f : Channel → Channel) : Only [.chans] s (s.modChan c f) := by
  intro b hb; cases b <;> simp_all [agree]

theorem modLane_only (s : State) (l : Lane) (f : LaneRec → LaneRec) : Only [.lanes] s (s.modLane l f) := by
  intro b hb; cases b <;> simp_all [agree]

theorem modLamps_only (s : State) (f : LampMon → LampMon) : Only [.lamps] s (s.modLamps f) := by
  intro b hb; cases b <;> simp_all [agree]

theorem modHead_only (s : State) (l : Lane) (f : Head → Head) : Only [.lamps] s (s.modHead l f) := modLamps_only s _

theorem modLamp_only (s : State) (l : Lane) (col : Colour) (f : LampRec → LampRec) :
    Only [.lamps] s (s.modLamp l col f) := modHead_only s l _

theorem modArb_only (s : State) (f : Arbiter → Arbiter) : Only [.arb] s (s.modArb f) := by
  intro b hb; cases b <;> simp_all [agree]

theorem modPlans_only (s : State) (f : PlanStore → PlanStore) : Only [.plans] s (s.modPlans f) := by
  intro b hb; cases b <;> simp_all [agree]

theorem modOvr_only (s : State) (f : Overrides → Overrides) : Only [.entries, .preempt] s (s.modOvr f) := by
  intro b hb; cases b <;> simp_all [agree]

theorem modSel_only (s : State) (f : Selector → Selector) : Only [.map, .selection] s (s.modSel f) := by
  intro b hb; cases b <;> simp_all [agree]

theorem modLink_only (s : State) (f : Link → Link) : Only [.notices, .stream, .link] s (s.modLink f) := by
  intro b hb; cases b <;> simp_all [agree]

theorem raise_only (n : Notice) (s : State) : Only [.notices] s (raise n s) := by
  intro b hb; cases b <;> simp_all [agree, raise]

theorem send_only (h : Handoff) (s : State) : Only [.handoffs] s (send h s) := by
  intro b hb; cases b <;> simp_all [agree, send]

theorem takeOff_only (p : Handoff → Bool) (s : State) : Only [.handoffs] s (takeOff p s) := by
  intro b hb; cases b <;> simp_all [agree, takeOff]

theorem cancel_only (p : Handoff → Bool) (s : State) : Only [.handoffs] s (cancel p s) := by
  intro b hb; cases b <;> simp_all [agree, cancel]

/-! ### The log and the counters -/

theorem appendRec_only (r : PassRec) (s : State) : Only [.records, .notices] s (appendRec r s) := by
  intro b hb; unfold appendRec; split <;> cases b <;> simp_all [agree, raise]

theorem overwriteRec_only (r : PassRec) (s : State) : Only [.records, .notices, .stream] s (overwriteRec r s) := by
  intro b hb; unfold overwriteRec; split <;> cases b <;> simp_all [agree, raise]

theorem writeRec_only (r : PassRec) (s : State) : Only [.records, .notices, .stream] s (writeRec r s) :=
  Only.ite (fun _ => (appendRec_only r s).mono) (fun _ => overwriteRec_only r s)

theorem countLane_only (l : Lane) (f : LaneCounts → LaneCounts) (s : State) : Only [.counts] s (countLane l f s) := by
  intro b hb; cases b <;> simp_all [agree, countLane]

theorem countSlip_only (f : SlipCounts → SlipCounts) (s : State) : Only [.counts] s (countSlip f s) := by
  intro b hb; cases b <;> simp_all [agree, countSlip]

theorem countGrant_only (l : Lane) (s : State) : Only [.counts] s (countGrant l s) :=
  (countLane_only l _ s).andThen (countSlip_only _ _)

/-! ### The lamps -/

theorem headCommand_only (l : Lane) (a : Aspect) (s : State) : Only [.lamps] s (headCommand l a s) :=
  modHead_only s l _

theorem allLampsOff_only (s : State) : Only [.lamps] s (allLampsOff s) := modLamps_only s _

theorem syncSign_only (s : State) : Only [.lamps] s (syncSign s) :=
  Only.ite (fun _ => Only.refl _ s) (fun _ => modLamps_only s _)

theorem lastAttemptFailed_only (l : Lane) (col : Colour) (s : State) :
    Only [.lamps, .notices, .handoffs] s (lastAttemptFailed l col s) := by
  have e := (modLamp_only s l col LampRec.endProving).mono (cs := [.lamps, .notices, .handoffs])
  have rep : ∀ m, Only [.lamps, .notices, .handoffs] s
      (reportFailure ((s.modLamp l col LampRec.endProving).modLamp l m (LampRec.failOff false))) :=
    fun m => (e.step (modLamp_only _ l m _)).step (send_only _ _)
  unfold lastAttemptFailed
  refine Only.ite (fun _ => ?_) (fun _ => e)
  cases col
  · exact rep .red
  · exact Only.ite (fun _ => (e.step (modLamp_only _ l .amber _)).step (raise_only _ _)) (fun _ => rep .amber)
  · exact rep .green

theorem attemptFailed_only (l : Lane) (col : Colour) (s : State) :
    Only [.lamps, .notices, .handoffs] s (attemptFailed l col s) :=
  Only.ite (fun _ => (modLamp_only s l col _).mono) (fun _ => lastAttemptFailed_only l col s)

theorem proofLost_only (l : Lane) (col : Colour) (s : State) :
    Only [.lamps, .notices, .handoffs] s (proofLost l col s) :=
  ((modLamp_only s l col _).mono (cs := [.lamps, .notices, .handoffs])).andThen (attemptFailed_only l col _)

theorem strayFound_only (l : Lane) (col : Colour) (s : State) : Only [.lamps, .handoffs] s (strayFound l col s) :=
  Only.ite (fun _ => (modLamp_only s l col _).mono)
    (fun _ => ((modLamp_only s l col _).mono (cs := [.lamps, .handoffs])).step (send_only _ _))

theorem strayIfOver_only (l : Lane) (col : Colour) (s : State) : Only [.lamps, .handoffs] s (strayIfOver l col s) := by
  unfold strayIfOver
  split
  · exact Only.ite (fun _ => strayFound_only l col s) (fun _ => Only.refl _ s)
  · exact Only.refl _ s

theorem straysOfLane_only (l : Lane) (s : State) : Only [.lamps, .handoffs] s (straysOfLane l s) :=
  ((strayIfOver_only l .red s).andThen (strayIfOver_only l .amber _)).andThen (strayIfOver_only l .green _)

theorem conflictFound_only (l : Lane) (s : State) : Only [.lamps, .handoffs] s (conflictFound l s) :=
  (((modLamp_only s l .red _).mono (cs := [.lamps, .handoffs])).step (modLamp_only _ l .green _)).step
    (send_only _ _)

theorem senseChange_only (l : Lane) (col : Colour) (on : Bool) (s : State) :
    Only [.lamps, .handoffs] s (senseChange l col on s) := by
  have e := (modLamp_only s l col (LampRec.sense s.now on)).mono (cs := [.lamps, .handoffs])
  unfold senseChange
  cases oppositeOf col with
  | none => exact e
  | some o =>
    refine Only.ite (fun _ => Only.ite (fun _ => e.andThen (conflictFound_only l _)) (fun _ => e)) (fun _ => ?_)
    exact e.step (modLamp_only _ l o _)

/-! ### The override stack -/

theorem handGoverning_only (g : Option Gov) (s : State) : Only [.handoffs] s (handGoverning g s) :=
  (send_only _ s).andThen (Only.forAll (fun _ _ => send_only _ _) _ _)

theorem setStack_only (es : List Entry) (s : State) :
    Only [.entries, .notices, .handoffs, .lamps] s (setStack es s) := by
  have e : Only [.entries, .notices, .handoffs, .lamps] s (s.modOvr (fun o => { o with entries := es })) := by
    intro b hb; cases b <;> simp_all [agree]
  exact Only.ite (fun _ => e)
    (fun _ => ((e.step (raise_only _ _)).step (handGoverning_only _ _)).step (syncSign_only _))

theorem removeEntry_only (k : OvKind) (src : OvSource) (s : State) :
    Only [.entries, .notices, .handoffs, .lamps] s (removeEntry k src s) := setStack_only _ s

theorem automaticPush_only (e : Entry) (s : State) :
    Only [.entries, .notices, .handoffs, .lamps] s (automaticPush e s) := by
  unfold automaticPush
  refine Only.ite (fun _ => setStack_only _ s) (fun _ => Only.ite (fun _ => setStack_only _ s) (fun _ => ?_))
  cases s.ovr.entries.getLast? with
  | none => exact Only.refl _ s
  | some b =>
    exact Only.ite (fun _ => ((raise_only _ s).mono (cs := [.entries, .notices, .handoffs, .lamps])).andThen
      (setStack_only _ _)) (fun _ => (raise_only _ s).mono)

theorem pushIfAsserted_only (s : State) : Only [.entries, .notices, .handoffs, .lamps] s (pushIfAsserted s) :=
  Only.ite (fun _ => automaticPush_only _ s) (fun _ => Only.refl _ s)

theorem dropAutomaticFlushes_only (s : State) :
    Only [.entries, .notices, .handoffs, .lamps] s (dropAutomaticFlushes s) := setStack_only _ s

/-! ### The arbiter -/

theorem checkInterval_only (s : State) : Only [.arb] s (checkInterval s) :=
  Only.ite (fun _ => modArb_only s _) (fun _ => Only.refl _ s)

theorem deriveHold_only (s : State) : Only [.arb] s (deriveHold s) := modArb_only s _

theorem settle_only (s : State) : Only [.arb, .counts] s (settle s) := by
  have e := (modArb_only s (fun a =>
    { a with own := s.settledOwn, owner := if s.settledOwn = .held then a.holdLane else none })).mono
      (cs := [.arb, .counts])
  exact Only.ite (fun _ => e.step (countSlip_only _ _)) (fun _ => e)

theorem settleIfLoose_only (s : State) : Only [.arb, .counts] s (settleIfLoose s) := by
  unfold settleIfLoose
  split <;> first | exact settle_only s | exact Only.refl _ s

theorem rederive_only (s : State) : Only [.arb, .counts] s (rederive s) :=
  Only.ite (fun _ => Only.refl _ s)
    (fun _ => ((deriveHold_only s).mono (cs := [.arb, .counts])).andThen (settleIfLoose_only _))

theorem enterShut_only (k : Bool) (s : State) : Only [.arb, .lanes] s (enterShut k s) := by
  intro b hb; cases b <;> simp_all [agree, enterShut]

theorem creditAll_only (f : Nat → Nat → Nat) (s : State) : Only [.arb] s (creditAll f s) := modArb_only s _

theorem refillCredits_only (s : State) : Only [.arb] s (refillCredits s) := creditAll_only _ s

theorem clampCredits_only (s : State) : Only [.arb] s (clampCredits s) := creditAll_only _ s

theorem unqueue_only (l : Lane) (s : State) : Only [.arb, .lanes] s (unqueue l s) :=
  ((modArb_only s _).mono (cs := [.arb, .lanes])).step (modLane_only _ l _)

theorem promote_only (l : Lane) (s : State) : Only [.plans, .arb, .lanes] s (promote l s) := by
  unfold promote
  cases s.plans.staged with
  | none => exact Only.refl _ s
  | some i =>
    exact (((modPlans_only s _).mono (cs := [.plans, .arb, .lanes])).step (clampCredits_only _)).andThen
      (Only.forAll (fun x t => (unqueue_only x t).mono) _ _)

/-! ### The lane sequencers -/

theorem settleRequest_only (l : Lane) (s : State) : Only [.handoffs] s (settleRequest l s) :=
  Only.ite (fun _ => Only.refl _ s) (fun _ => Only.ite (fun _ => send_only _ s)
    (fun _ => Only.ite (fun _ => send_only _ s) (fun _ => Only.refl _ s)))

theorem settleRequests_only (s : State) : Only [.handoffs] s (settleRequests s) :=
  Only.forAll settleRequest_only _ s

theorem enterState_only (l : Lane) (st : LaneState) (s : State) : Only [.lanes, .lamps] s (enterState l st s) :=
  ((modLane_only s l _).mono (cs := [.lanes, .lamps])).step (headCommand_only l _ _)

/-- What a release end can change. -/
abbrev endParts : List Part := [.records, .counts, .notices, .stream, .handoffs]

theorem endRelease_only (l : Lane) (s : State) : Only endParts s (endRelease l s) := by
  unfold endRelease
  have e : Only endParts s
      (if (s.lane l).cut then countCut (writeRec (s.recordNow l .cut (s.lane l).grant (s.shortfall l)) s) else s) :=
    Only.ite (fun _ => ((writeRec_only _ s).mono (cs := endParts)).step (countSlip_only _ _))
      (fun _ => Only.refl _ s)
  dsimp only
  split
  · exact e.step (send_only _ _)
  · exact e

/-- What a lane's own events can change. -/
abbrev laneParts : List Part := [.lanes, .lamps, .records, .counts, .notices, .stream, .handoffs]

theorem greenToAmber_only (l : Lane) (s : State) : Only laneParts s (greenToAmber l s) :=
  (((enterState_only l .amber s).mono (cs := laneParts)).step (modLane_only _ l _)).step (endRelease_only l _)

theorem greenToOpen_only (l : Lane) (s : State) : Only laneParts s (greenToOpen l s) :=
  (((modLane_only s l _).mono (cs := laneParts)).step (endRelease_only l _)).step (modLane_only _ l _)

theorem redToOpen_only (l : Lane) (s : State) : Only [.lanes, .lamps, .handoffs] s (redToOpen l s) :=
  (((enterState_only l .opened s).mono (cs := [.lanes, .lamps, .handoffs])).step (modLane_only _ l _)).step
    (cancel_only _ _)

theorem openToAmber_only (l : Lane) (s : State) : Only [.lanes, .lamps] s (openToAmber l s) :=
  (enterState_only l .amber s).step (modLane_only _ l _)

theorem offLane_only (l : Lane) (s : State) : Only [.lanes, .lamps] s (offLane l s) :=
  (enterState_only l .off s).step (modLane_only _ l _)

theorem goOff_only (l : Lane) (s : State) : Only [.lanes, .lamps, .handoffs] s (goOff l s) :=
  ((offLane_only l s).mono (cs := [.lanes, .lamps, .handoffs])).step (cancel_only _ _)

theorem shownOff_only (l : Lane) (s : State) : Only [.lanes, .lamps] s (shownOff l s) :=
  Only.ite (fun _ => Only.refl _ s) (fun _ => offLane_only l s)

theorem tryEndGreen_only (l : Lane) (s : State) : Only laneParts s (tryEndGreen l s) :=
  Only.ite (fun _ => greenToAmber_only l s) (fun _ => Only.refl _ s)

theorem armStopFlush_only (s : State) : Only [.site] s (armStopFlush s) :=
  Only.ite (fun _ => modSite_only s _) (fun _ => Only.refl _ s)

theorem settleRed_only (l : Lane) (s : State) : Only [.lanes, .lamps, .handoffs, .site] s (settleRed l s) :=
  Only.ite (fun _ => ((redToOpen_only l s).mono (cs := [.lanes, .lamps, .handoffs, .site])).step (armStopFlush_only _))
    (fun _ => (settleRequest_only l s).mono)

theorem settleReds_only (s : State) : Only [.lanes, .lamps, .handoffs, .site] s (settleReds s) :=
  Only.forAll settleRed_only _ s

theorem takeGrant_only (l : Lane) (g : BitVec 16) (n : Nat) (s : State) : Only laneParts s (takeGrant l g n s) := by
  have e := ((enterState_only l .green s).mono (cs := laneParts)).step (modLane_only _ l (fun r =>
    { r with
      onsetAt := some s.now
      grant := some g
      size := some n
      greenFor := some (s.greenTime n)
      passages := 0
      cut := false
      inQueue := false }))
  exact Only.ite (fun _ => e.andThen (greenToOpen_only l _)) (fun _ => e)

theorem passage_only (l : Lane) (s : State) : Only laneParts s (passage l s) := by
  unfold passage
  refine Only.ite (fun _ => Only.refl _ s) (fun _ => ?_)
  have e : ∀ r, Only laneParts s (countPassage l (writeRec r s)) :=
    fun r => ((writeRec_only r s).mono (cs := laneParts)).step (countLane_only l _ _)
  refine (((?_ : Only laneParts s _)).step (modLane_only _ l _)).andThen (tryEndGreen_only l _)
  exact Only.ite (fun _ => (e _).step (countLane_only l _ _)) (fun _ => e _)

theorem chainNoShow_only (l : Lane) (s : State) : Only [.lanes, .handoffs] s (chainNoShow l s) := by
  unfold chainNoShow
  cases s.chainChannel l with
  | none => exact (modLane_only s l _).mono
  | some c =>
    exact Only.ite (fun _ => ((modLane_only s l _).mono (cs := [.lanes, .handoffs])).step (send_only _ _))
      (fun _ => (modLane_only s l _).mono)

theorem noShowDecision_only (l : Lane) (s : State) : Only laneParts s (noShowDecision l s) :=
  Only.ite (fun _ => (((writeRec_only _ s).mono (cs := laneParts)).step (countLane_only l _ _)).step
    (chainNoShow_only l _)) (fun _ => Only.refl _ s)

theorem goRed_only (l : Lane) (s : State) : Only laneParts s (goRed l s) :=
  (((enterState_only l .red s).mono (cs := laneParts)).step (modLane_only _ l _)).andThen (noShowDecision_only l _)

theorem leaveShut_only (s : State) : Only [.arb, .counts, .handoffs] s (leaveShut s) :=
  (((((refillCredits_only s).mono (cs := [.arb, .counts, .handoffs])).step (modArb_only _ _)).step
    (deriveHold_only _)).step (settle_only _)).step (settleRequests_only _)

/-! ### The detector monitor -/

theorem setMerge_only (m : MergeMon) (s : State) : Only [.merge, .handoffs] s (setMerge m s) := by
  have e : Only [.merge, .handoffs] s (s.modDet (fun d => { d with merge := m })) := by
    intro b hb; cases b <;> simp_all [agree]
  refine Only.ite (fun _ => e) (fun _ => Only.ite (fun _ => ?_) (fun _ => e.step (send_only _ _)))
  exact (e.step (send_only _ _)).andThen (Only.forAll (fun _ _ => (send_only _ _).mono) _ _)

theorem refreshMerge_only (s : State) : Only [.merge, .handoffs] s (refreshMerge s) := setMerge_only _ s

theorem refreshMonitors_only (s : State) : Only [.monitors] s (refreshMonitors s) := by
  intro b hb; cases b <;> simp_all [agree, refreshMonitors]

theorem refresh_only (s : State) : Only [.merge, .monitors, .handoffs] s (refresh s) :=
  (((refreshMerge_only s).mono (cs := [.merge, .monitors, .handoffs])).step (refreshMonitors_only _)).step
    (settleRequests_only _)

theorem modQueueMon_only (l : Lane) (f : Monitor → Monitor) (s : State) :
    Only [.monitors] s (s.modQueueMon l f) := by
  intro b hb; cases b <;> simp_all [agree, State.modQueueMon]

theorem modSpillMon_only (f : Monitor → Monitor) (s : State) : Only [.monitors] s (s.modSpillMon f) := by
  intro b hb; cases b <;> simp_all [agree, State.modSpillMon]

theorem tellMonitor_only (src : OvSource) (s : State) : Only [.monitors] s (tellMonitor src s) := by
  cases src with
  | link => exact Only.refl _ s
  | preempt => exact Only.refl _ s
  | queue l => exact modQueueMon_only l _ s
  | spill => exact modSpillMon_only _ s

theorem takeActuation_only (c : Chan) (s : State) :
    Only [.chans, .merge, .monitors, .notices, .handoffs] s (takeActuation c s) := by
  have e := (modChan_only s c Channel.actuated).mono (cs := [.chans, .merge, .monitors, .notices, .handoffs])
  unfold takeActuation
  refine Only.step ?_ (refresh_only _)
  have u : Only [.chans, .merge, .monitors, .notices, .handoffs] s
      (if (s.chan c).health = .stuckOff then raise .detector (s.modChan c Channel.actuated)
        else s.modChan c Channel.actuated) := Only.ite (fun _ => e.step (raise_only _ _)) (fun _ => e)
  exact Only.ite (fun _ => u.step (send_only _ _)) (fun _ => u)

/-- What a change at a channel can change. -/
abbrev chanParts : List Part :=
  [.chans, .merge, .monitors, .lanes, .lamps, .records, .counts, .notices, .stream, .handoffs]

theorem takeClearing_only (c : Chan) (s : State) : Only chanParts s (takeClearing c s) := by
  have e := (modChan_only s c Channel.cleared).mono (cs := chanParts)
  have u : Only chanParts s (if (s.chan c).health = .stuckOn then raise .detector (s.modChan c Channel.cleared)
      else s.modChan c Channel.cleared) := Only.ite (fun _ => e.step (raise_only _ _)) (fun _ => e)
  unfold takeClearing
  dsimp only
  cases (s.chan c).passageLane with
  | none => exact u.step (refresh_only _)
  | some l => exact (u.step (passage_only l _)).step (refresh_only _)

theorem takeIfHeld_only (c : Chan) (s : State) : Only chanParts s (takeIfHeld c s) :=
  Only.ite (fun _ => (takeActuation_only c s).mono) (fun _ => Only.ite (fun _ => takeClearing_only c s)
    (fun _ => Only.refl _ s))

theorem inputChange_only (c : Chan) (level : Bool) (s : State) : Only chanParts s (inputChange c level s) :=
  Only.ite (fun _ => Only.refl _ s) (fun _ => ((modChan_only s c _).mono (cs := chanParts)).andThen
    (takeIfHeld_only c _))

theorem becomeStuck_only (c : Chan) (h : Health) (w : Cause) (s : State) :
    Only [.chans, .merge, .monitors, .notices, .handoffs] s (becomeStuck c h w s) :=
  (((modChan_only s c _).mono (cs := [.chans, .merge, .monitors, .notices, .handoffs])).step (raise_only _ _)).step
    (refresh_only _)

theorem takeClaim_only (l : Lane) (c : Chan) (s : State) :
    Only [.chans, .merge, .monitors, .notices, .handoffs] s (takeClaim l c s) :=
  Only.ite (fun _ => becomeStuck_only c _ _ s) (fun _ => Only.refl _ s)

theorem forceGood_only (c : Chan) (s : State) :
    Only [.chans, .merge, .monitors, .notices, .handoffs] s (forceGood c s) :=
  Only.ite (fun _ => Only.refl _ s) (fun _ =>
    (((modChan_only s c _).mono (cs := [.chans, .merge, .monitors, .notices, .handoffs])).step (raise_only _ _)).step
      (refresh_only _))

theorem stickIfOver_only (c : Chan) (s : State) : Only chanParts s (stickIfOver c s) :=
  Only.ite (fun _ => (becomeStuck_only c _ _ s).mono) (fun _ => Only.refl _ s)

theorem configure_only (c : Chan) (k : ChanConfig) (s : State) : Only chanParts s (configure c k s) := by
  have e : ∀ f, Only chanParts s (s.modChan c f) := fun f => (modChan_only s c f).mono
  have r : ∀ t, Only chanParts s t → Only chanParts s (takeIfHeld c (refresh t)) :=
    fun t h => (h.step (refresh_only t)).andThen (takeIfHeld_only c _)
  refine Only.ite (fun _ => Only.refl _ s) (fun _ => Only.ite (fun _ => ?_) (fun _ => ?_))
  · exact (r _ (e _)).andThen (stickIfOver_only c _)
  · exact r _ (Only.ite (fun _ => e _) (fun _ => (e _).step (raise_only _ _)))

theorem closePeriod_only (s : State) : Only [.chans, .occupancy] s (closePeriod s) := by
  intro b hb; cases b <;> simp_all [agree, closePeriod]

/-! ### The site controller, the plan store and the local selector -/

/-- What FAILSAFE entry and SITE-RESET can change. -/
abbrev darkParts : List Part := [.site, .monitors, .lanes, .lamps, .arb, .entries, .notices, .handoffs]

theorem enterSite_only (st : SiteState) (s : State) : Only [.site] s (enterSite st s) := modSite_only s _

theorem leaveMetering_only (s : State) : Only [.monitors, .entries, .notices, .handoffs, .lamps] s (leaveMetering s) :=
  ((refreshMonitors_only s).mono (cs := [.monitors, .entries, .notices, .handoffs, .lamps])).step
    (dropAutomaticFlushes_only _)

theorem darken_only (s : State) : Only darkParts s (darken s) :=
  (((((Only.forAll goOff_only allLanes s).mono (cs := darkParts)).step (allLampsOff_only _)).step
    (enterShut_only _ _)).step (refreshMonitors_only _)).step (setStack_only _ _)

theorem enterFailsafe_only (s : State) : Only darkParts s (enterFailsafe s) :=
  ((((enterSite_only .failsafe s).mono (cs := darkParts)).step (darken_only _)).step (syncSign_only _)).step
    (raise_only _ _)

theorem siteToDark_only (s : State) : Only darkParts s (siteToDark s) := by
  have e := ((((enterSite_only .dark s).mono (cs := darkParts)).step (darken_only _)).step
    (pushIfAsserted_only _)).step (syncSign_only _)
  exact Only.ite (fun _ => e) (fun _ => e.step (raise_only _ _))

theorem enterDark_only (s : State) : Only [.site, .lamps, .notices] s (enterDark s) :=
  (((enterSite_only .dark s).mono (cs := [.site, .lamps, .notices])).step (syncSign_only _)).step (raise_only _ _)

theorem warnLane_only (l : Lane) (s : State) : Only [.lanes, .lamps] s (warnLane l s) :=
  Only.ite (fun _ => enterState_only l .warning s) (fun _ => Only.refl _ s)

theorem enterStarting_only (s : State) : Only [.site, .lanes, .lamps] s (enterStarting s) :=
  (((modSite_only s _).mono (cs := [.site, .lanes, .lamps])).step (Only.forAll warnLane_only allLanes _)).step
    (syncSign_only _)

theorem firstRed_only (l : Lane) (s : State) : Only laneParts s (firstRed l s) :=
  Only.ite (fun _ => goRed_only l s) (fun _ => Only.refl _ s)

theorem leaveShutIfOpen_only (s : State) : Only [.arb, .counts, .handoffs] s (leaveShutIfOpen s) :=
  Only.ite (fun _ => Only.refl _ s) (fun _ => leaveShut_only s)

theorem takeGoverning_only (s : State) : Only [.arb, .lanes, .handoffs] s (takeGoverning s) := by
  intro b hb; cases b <;> simp_all [agree, takeGoverning, cancel]

theorem restartStuckOff_only (s : State) : Only [.chans] s (restartStuckOff s) := by
  intro b hb; cases b <;> simp_all [agree, restartStuckOff]

/-- What the entry to METERING can change. -/
abbrev meterParts : List Part :=
  [.site, .chans, .monitors, .lanes, .lamps, .arb, .records, .counts, .notices, .stream, .handoffs]

theorem enterMetering_only (s : State) : Only meterParts s (enterMetering s) :=
  ((((((((enterSite_only .metering s).mono (cs := meterParts)).step
    (Only.forAll firstRed_only allLanes (enterSite .metering s))).step (takeGoverning_only _)).step
    (restartStuckOff_only _)).step (refreshMonitors_only _)).step (leaveShutIfOpen_only _)).step
    (syncSign_only _)).step (raise_only _ _)

/-- What the stopping of metering can change. -/
abbrev stopParts : List Part :=
  [.site, .monitors, .lanes, .lamps, .arb, .entries, .records, .counts, .notices, .stream, .handoffs]

theorem makeForOpen_only (l : Lane) (s : State) : Only stopParts s (makeForOpen l s) := by
  unfold makeForOpen
  split <;> first | exact (greenToOpen_only l s).mono | exact (settleRed_only l s).mono | exact Only.refl _ s

theorem enterStopping_only (s : State) : Only stopParts s (enterStopping s) := by
  have a : ∀ t, Only stopParts t (leaveMetering t) := fun t => (leaveMetering_only t).mono
  have b : ∀ t, Only stopParts t (enterShut true t) := fun t => (enterShut_only true t).mono
  have c : ∀ t, Only stopParts t (forAll allLanes makeForOpen t) := Only.forAll makeForOpen_only allLanes
  have d : ∀ t, Only stopParts t (armStopFlush (syncSign t)) := fun t =>
    ((syncSign_only t).mono (cs := stopParts)).step (armStopFlush_only _)
  have e : Only stopParts s (enterSite .stopping s) := (enterSite_only .stopping s).mono
  unfold enterStopping
  exact (((e.andThen (a _)).andThen (b _)).andThen (c _)).andThen (d _)

theorem finishToDark_only (s : State) : Only [.site, .lanes, .lamps, .notices] s (finishToDark s) := by
  have e : Only [.site, .lanes, .lamps, .notices] s (forAll allLanes shownOff s) :=
    (Only.forAll shownOff_only allLanes s).mono
  unfold finishToDark
  exact e.step (enterDark_only _)

theorem stopMetering_only (s : State) : Only stopParts s (stopMetering s) := by
  have a : Only stopParts s (finishToDark s) := (finishToDark_only s).mono
  have b := enterStopping_only s
  unfold stopMetering
  split
  · exact a
  · exact b
  all_goals exact Only.refl _ s

theorem endLampTest_only (s : State) : Only darkParts s (endLampTest s) :=
  Only.ite (fun _ => ((enterDark_only s).mono (cs := darkParts)).step (pushIfAsserted_only _))
    (fun _ => ((modLamps_only s _).mono (cs := darkParts)).andThen (enterFailsafe_only _))

theorem clearFailsafe_only (s : State) :
    Only [.site, .lamps, .entries, .notices, .handoffs] s (clearFailsafe s) :=
  (((modLamps_only s _).mono (cs := [.site, .lamps, .entries, .notices, .handoffs])).step (enterDark_only _)).step
    (pushIfAsserted_only _)

theorem takeReport_only (s : State) : Only darkParts s (takeReport s) := by
  unfold takeReport
  split <;> first | exact enterFailsafe_only s | exact (raise_only _ s).mono | exact Only.refl _ s

theorem selectSlot_only (i : Slot) (s : State) : Only [.plans, .arb] s (selectSlot i s) :=
  Only.ite (fun _ => (modPlans_only s _).mono)
    (fun _ => ((modPlans_only s _).mono (cs := [.plans, .arb])).step (clampCredits_only _))

/-- What a close of an occupancy period can change. -/
abbrev closeParts : List Part :=
  [.site, .chans, .monitors, .occupancy, .lanes, .lamps, .arb, .plans, .entries, .map, .records, .counts, .notices,
    .stream, .handoffs]

theorem localPlan_only (i : Slot) (s : State) : Only closeParts s (localPlan i s) := by
  have e := (selectSlot_only i s).mono (cs := closeParts)
  unfold localPlan
  split <;> first
    | exact e.andThen (Only.ite (fun _ => (enterStarting_only _).mono) (fun _ => Only.refl _ _))
    | exact e
    | exact Only.refl _ s

theorem localAct_only (e : Option Slot) (s : State) : Only closeParts s (localAct e s) := by
  unfold localAct
  cases e with
  | none => exact (stopMetering_only s).mono
  | some i =>
    dsimp only
    cases s.slot i with
    | none => exact Only.refl _ s
    | some p => exact localPlan_only i s

theorem selectorClose_only (s : State) : Only closeParts s (selectorClose s) := by
  unfold selectorClose
  cases s.det.occupancy with
  | none => exact Only.refl _ s
  | some pct =>
    have e : Only closeParts s (s.modSel (fun q => { q with lastBand := some (bandOf pct) })) := by
      intro b hb; cases b <;> simp_all [agree]
    exact Only.ite (fun _ => e.andThen (localAct_only _ _)) (fun _ => e)

theorem periodCloses_only (s : State) : Only closeParts s (periodCloses s) :=
  ((closePeriod_only s).mono (cs := closeParts)).andThen (selectorClose_only _)

/-! ### The link controller -/

/-- What the link controller keeps for itself. -/
abbrev linkParts : List Part := [.link, .stream]

theorem formReply_only (code : Byte) (v : Verdict) (data : List Byte) (s : State) :
    Only [.link] s (formReply code v data s) := by
  intro b hb; cases b <;> simp_all [agree, formReply]

theorem endFrame_only (st : Stream) (s : State) : Only linkParts s (endFrame st s) := by
  intro b hb; cases b <;> simp_all [agree, endFrame, formReply]

theorem sendNext_only (s : State) : Only [.link] s (sendNext s) := by
  unfold sendNext
  split
  · intro b hb; cases b <;> simp_all [agree]
  · exact Only.refl _ s

theorem streamStart_only (st : Stream) (s : State) : Only linkParts s (streamStart st s) := by
  refine Only.ite (fun _ => (endFrame_only st s).step (sendNext_only _)) (fun _ => ?_)
  intro b hb; cases b <;> simp_all [agree, startRecord]

theorem pump_only (s : State) : Only linkParts s (pump s) := by
  unfold pump
  refine Only.ite (fun _ => Only.refl _ s) (fun _ => ?_)
  split
  · exact (sendNext_only s).mono
  · split
    · exact streamStart_only _ s
    · exact Only.refl _ s

theorem reply_only (code : Byte) (v : Verdict) (data : List Byte) (s : State) :
    Only linkParts s (reply code v data s) :=
  ((formReply_only code v data s).mono (cs := linkParts)).andThen (pump_only _)

theorem endStream_only (s : State) : Only linkParts s (endStream s) := by
  unfold endStream
  split
  · exact (endFrame_only _ s).andThen (pump_only _)
  · exact Only.refl _ s

theorem recordSent_only (s : State) : Only [.link, .stream, .records] s (recordSent s) := by
  unfold recordSent
  split
  · exact Only.refl _ s
  · split
    · exact Only.refl _ s
    · refine Only.step ?_ (pump_only _)
      refine Only.ite (fun _ => ?_) (fun _ => ?_) <;> (intro b hb; cases b <;> simp_all [agree])

theorem replySent_only (s : State) : Only linkParts s (replySent s) := by
  refine Only.andThen ?_ (pump_only _)
  intro b hb; cases b <;> simp_all [agree]

theorem discardHeld_only (s : State) : Only [.link] s (discardHeld s) := by
  intro b hb; cases b <;> simp_all [agree, discardHeld]

theorem discardSelection_only (s : State) : Only [.link, .selection] s (discardSelection s) := by
  intro b hb; cases b <;> simp_all [agree, discardSelection]

theorem discardAll_only (s : State) : Only [.link, .selection] s (discardAll s) := by
  intro b hb; cases b <;> simp_all [agree, discardAll, discardHeld, discardSelection]

theorem breakAtGap_only (s : State) : Only [.link, .selection] s (breakAtGap s) :=
  Only.ite (fun _ => discardAll_only s) (fun _ => Only.refl _ s)

theorem toCentral_only (s : State) : Only [.link, .notices] s (toCentral s) := by
  unfold toCentral
  split
  · exact Only.refl _ s
  · intro b hb; cases b <;> simp_all [agree, raise]

theorem restartLoss_only (s : State) : Only [.link] s (restartLoss s) := by
  intro b hb; cases b <;> simp_all [agree, restartLoss]

/-- What the taking of a good frame changes before its command runs. -/
abbrev frameParts : List Part := [.link, .stream, .notices, .selection]

theorem goodFrame_only (s : State) : Only [.link, .stream, .notices] s (goodFrame s) := by
  refine (((?_ : Only [.link, .stream, .notices] s _).step (toCentral_only _)).step (restartLoss_only _)).step
    (endStream_only _)
  intro b hb; cases b <;> simp_all [agree]

theorem consumeHeld_only (s : State) : Only [.link] s (consumeHeld s) := by
  intro b hb; cases b <;> simp_all [agree, consumeHeld]

theorem openFrame_only (c : Cmd) (s : State) : Only frameParts s (openFrame c s) := by
  have e := (goodFrame_only s).mono (cs := frameParts)
  have u : Only frameParts s (if c.isPrefix then goodFrame s else consumeHeld (goodFrame s)) :=
    Only.ite (fun _ => e) (fun _ => e.step (consumeHeld_only _))
  exact Only.ite (fun _ => u) (fun _ => u.step (discardSelection_only _))

theorem setSelection_only (m : MapSel) (s : State) : Only [.selection] s (setSelection m s) := by
  intro b hb; cases b <;> simp_all [agree, setSelection]

theorem answer_only (code : Byte) (a : Answer) (s : State) : Only linkParts s (answer code a s) := by
  unfold answer
  split <;> first | exact reply_only _ _ _ s | exact Only.refl _ s

/-- A command frame changes the link, the selection, and what its own block changes. -/
theorem takeFrame_only (bs : List Part) (c : Cmd) (act : Act) (args : List Byte) (s : State)
    (hact : ∀ h t, Only bs t (act args h t).2) (hb : frameParts ⊆ bs := by decide) :
    Only bs s (takeFrame c act args s) := by
  have hsub : ∀ cs : List Part, cs ⊆ frameParts → cs ⊆ bs := fun cs h => List.Subset.trans h hb
  have hsel : ∀ t, Only bs t (endIfMap c t) := fun t =>
    Only.ite (fun _ => (setSelection_only _ t).mono (hsub _ (by decide))) (fun _ => Only.refl _ t)
  have hdis : Only bs s (discardAll s) := (discardAll_only s).mono (hsub _ (by decide))
  refine Only.ite (fun _ => hdis) (fun _ => ?_)
  refine Only.andThen (Only.andThen ((openFrame_only c s).mono hb) ?_) ((answer_only _ _ _).mono (hsub _ (by decide)))
  unfold runFrame
  cases frameCheck c args s.link.held (openFrame c s) with
  | some a => exact hsel _
  | none => exact hact _ _

end Sys2Proof.Machine
end

