-- ==== Sys2Proof/Laws/Lane.lean ====
section
/-! SUPPORT. What the lanes' and the heads' shared operations do to one lane record and one head, said once, and what a
change of the stack's content does. -/

namespace Sys2Proof.Machine

/-! ### One record read back -/

theorem lane_modLane (s : State) (l m : Lane) (f : LaneRec → LaneRec) :
    (s.modLane l f).lane m = if m = l then f (s.lane l) else s.lane m := by
  simp only [State.lane, modLane_lanes, Quad.get_modify]

theorem chan_modChan (s : State) (c d : Chan) (f : Channel → Channel) :
    (s.modChan c f).chan d = if d = c then f (s.chan c) else s.chan d := by
  simp only [State.chan, modChan_det, Bank.at_modify]

theorem head_modHead (s : State) (l m : Lane) (f : Head → Head) :
    (s.modHead l f).head m = if m = l then f (s.head l) else s.head m := by
  simp only [State.head, State.modHead, modLamps_lamps, Quad.get_modify]

theorem Head.get_set (h : Head) (c d : Colour) (r : LampRec) : (h.set c r).get d = if d = c then r else h.get d := by
  cases c <;> cases d <;> rfl

theorem lamp_modLamp (s : State) (l m : Lane) (c d : Colour) (f : LampRec → LampRec) :
    (s.modLamp l c f).lamp m d = if m = l ∧ d = c then f (s.lamp l c) else s.lamp m d := by
  simp only [State.lamp, State.modLamp, head_modHead]
  by_cases hm : m = l
  · subst hm; simp only [if_true, true_and, Head.get_set]
  · simp [hm]

/-! ### Heads -/

theorem LampRec.command_commanded (now n : Nat) (hold : Bool) (c : LampCmd) (r : LampRec) :
    (r.command now n hold c).commanded = c := by
  unfold LampRec.command
  split
  · assumption
  · unfold LampRec.startProving
    cases c <;> simp only [LampRec.driveOn]
    all_goals first | rfl | (split <;> rfl)

theorem LampRec.command_fault (now n : Nat) (hold : Bool) (c : LampCmd) (r : LampRec) :
    (r.command now n hold c).fault = r.fault := by
  unfold LampRec.command
  split
  · rfl
  · unfold LampRec.startProving
    cases c <;> simp only [LampRec.driveOn]
    all_goals first | rfl | (split <;> rfl)

theorem Head.command_shows (now n : Nat) (st : LaneState) (h : Head) : (h.command now n (aspectOf st)).shows st :=
  ⟨LampRec.command_commanded .., LampRec.command_commanded .., LampRec.command_commanded ..⟩

theorem head_headCommand (s : State) (l m : Lane) (a : Aspect) :
    (headCommand l a s).head m = if m = l then (s.head l).command s.now (s.par .lampRetries) a else s.head m :=
  head_modHead s l m _

/-! ### Entering a lane state -/

theorem lane_enterState (s : State) (l m : Lane) (st : LaneState) :
    (enterState l st s).lane m =
      if m = l then { s.lane l with state := st, entryAt := s.now, minRed := false } else s.lane m :=
  lane_modLane s l m _

theorem head_enterState (s : State) (l m : Lane) (st : LaneState) :
    (enterState l st s).head m =
      if m = l then (s.head l).command s.now (s.par .lampRetries) (aspectOf st) else s.head m :=
  head_modHead _ l m _

theorem head_modLane (s : State) (l m : Lane) (f : LaneRec → LaneRec) : (s.modLane l f).head m = s.head m := rfl

/-- A lane that enters a state with its record then changed: the record and the head, and no other lane's. -/
theorem enterState_becomes (s : State) (l : Lane) (st : LaneState) (f : LaneRec → LaneRec) :
    LaneBecomes l (f { s.lane l with state := st, entryAt := s.now, minRed := false }) st s
      ((enterState l st s).modLane l f) := by
  refine ⟨by simp [lane_modLane, lane_enterState], ?_, fun m hm => ?_⟩
  · rw [head_modLane, head_enterState, if_pos rfl]
    exact Head.command_shows ..
  · simp [lane_modLane, lane_enterState, head_modLane, head_enterState, hm]

/-- What becomes of a lane stays when a later operation leaves lanes and lamps as they are. -/
theorem LaneBecomes.andKeep {l : Lane} {r : LaneRec} {st : LaneState} {s t u : State} (h : LaneBecomes l r st s t)
    (hl : u.lanes = t.lanes) (hp : u.lamps = t.lamps) : LaneBecomes l r st s u := by
  have e : ∀ m, u.lane m = t.lane m := fun m => by simp only [State.lane, hl]
  have p : ∀ m, u.head m = t.head m := fun m => by simp only [State.head, hp]
  exact ⟨(e l).trans h.1, by rw [p]; exact h.2.1, fun m hm => ⟨(e m).trans (h.2.2 m hm).1, (p m).trans (h.2.2 m hm).2⟩⟩

theorem redToOpen_becomes (s : State) (l : Lane) :
    LaneBecomes l ((s.lane l).toOpen s.now) .opened s (redToOpen l s) :=
  (enterState_becomes s l .opened _).andKeep rfl rfl

theorem openToAmber_becomes (s : State) (l : Lane) :
    LaneBecomes l ((s.lane l).toAmber s.now) .amber s (openToAmber l s) := enterState_becomes s l .amber _

theorem offLane_becomes (s : State) (l : Lane) : LaneBecomes l ((s.lane l).toOff s.now) .off s (offLane l s) :=
  enterState_becomes s l .off _

theorem greenToAmber_becomes (s : State) (l : Lane) :
    LaneBecomes l ((s.lane l).toAmber s.now) .amber s (greenToAmber l s) :=
  (enterState_becomes s l .amber _).andKeep ((endRelease_only l _).same .lanes) ((endRelease_only l _).same .lamps)

/-! ### The stack -/

/-- The sign agrees with its rule, or its command has not been given yet. -/
theorem syncSign_lamps (s : State) :
    (syncSign s).lamps.heads = s.lamps.heads ∧ (syncSign s).lamps.sign = signFor s.site.state s.topGov := by
  unfold syncSign
  dsimp only
  split
  · exact ⟨rfl, by assumption⟩
  · exact ⟨rfl, rfl⟩

/-- The governing entry of a stack's content. -/
def topOf (es : List Entry) : Option Gov := es.head?.map Entry.gov

theorem setStack_same {es : List Entry} {s : State} (h : topOf es = s.topGov) :
    setStack es s = s.modOvr (fun o => { o with entries := es }) := if_pos h

theorem setStack_changed {es : List Entry} {s : State} (h : topOf es ≠ s.topGov) :
    setStack es s =
      syncSign (handGoverning (topOf es) (raise .override (s.modOvr (fun o => { o with entries := es })))) := if_neg h

theorem setStack_entries (es : List Entry) (s : State) : (setStack es s).ovr.entries = es := by
  by_cases h : topOf es = s.topGov
  · rw [setStack_same h]; rfl
  · rw [setStack_changed h, (syncSign_only _).ovr]; rfl

theorem handGoverning_handoffs (g : Option Gov) (s : State) : (handGoverning g s).handoffs =
    s.handoffs ++ [.arbiterGov g, .laneGov 0 g, .laneGov 1 g, .laneGov 2 g, .laneGov 3 g] := by
  simp [handGoverning, forAll, allLanes, send]

/-- The stack takes a content: the governing entry is handed on if it changed, else nothing else happens. -/
theorem setStack_becomes (es : List Entry) (s : State) : StackBecomes es s (setStack es s) := by
  have ht : (setStack es s).topGov = topOf es := by simp only [State.topGov, setStack_entries, topOf]
  refine ⟨setStack_only es s, setStack_entries es s, fun h => ?_, fun h => ?_⟩
  · rw [setStack_same (ht ▸ h)]
    exact ⟨rfl, rfl, rfl⟩
  · rw [ht, setStack_changed (ht ▸ h)]
    generalize hu : raise .override (s.modOvr (fun o => { o with entries := es })) = u
    have hg : (handGoverning (topOf es) u).topGov = topOf es := by subst hu; rfl
    obtain ⟨h1, h2⟩ := syncSign_lamps (handGoverning (topOf es) u)
    refine ⟨?_, ?_, ?_, ?_⟩
    · rw [(syncSign_only _).same .notices]; subst hu; rfl
    · rw [(syncSign_only _).same .handoffs, handGoverning_handoffs]; subst hu; rfl
    · rw [h1]; subst hu; rfl
    · rw [h2, hg]; subst hu; rfl

end Sys2Proof.Machine
end

