-- ==== Sys2Proof/Laws/Link.lean ====
section
/-! SUPPORT. The taking of a command frame, said once: what the opening leaves as it was, when the frame reaches its
command, and what a reply and the line do to the replies outstanding. -/

namespace Sys2Proof.Machine

/-! ### Outcomes of the event rows -/

/-- A timed row is taken now, later, or not at all. -/
theorem timed_cases {w : Option Nat} {f : State → State} {s t : State} (h : timed w f s = .next t) :
    t = s ∨ t = f s ∨ ∃ k, t = f (advance (k + 1) s) := by
  unfold timed at h
  split at h
  · exact .inl (by injection h with h; exact h.symm)
  · split at h <;> injection h with h
    · exact .inl h.symm
    · exact .inr (.inl h.symm)
    · exact .inr (.inr ⟨_, h.symm⟩)

theorem timed_now {w : Option Nat} {f : State → State} {s : State} (hr : s.resetIn = false) (hw : w = some 0) :
    timed w f s = .next (f s) := by simp [timed, hr, hw]

theorem timed_none {w : Option Nat} {f : State → State} {s : State} (hw : w = none) : timed w f s = .next s := by
  simp [timed, hw]

/-- A row taken at once is taken, or has no effect. -/
theorem taken_cases {c : Bool} {f : State → State} {s t : State} (h : taken c f s = .next t) : t = s ∨ t = f s := by
  unfold taken at h
  split at h
  · exact .inl (by injection h with h; exact h.symm)
  · split at h <;> injection h with h
    · exact .inr h.symm
    · exact .inl h.symm

theorem taken_now {c : Bool} {f : State → State} {s : State} (hr : s.resetIn = false) (hc : c = true) :
    taken c f s = .next (f s) := by simp [taken, hr, hc]

theorem taken_not {c : Bool} {f : State → State} {s : State} (hc : c = false) : taken c f s = .next s := by
  simp [taken, hc]

/-! ### What the opening of a frame leaves as it was -/

variable (c : Cmd) (s : State)

@[simp] theorem openFrame_site : (openFrame c s).site = s.site := (openFrame_only c s).same .site
@[simp] theorem openFrame_desc : (openFrame c s).desc = s.desc := (openFrame_only c s).same .desc
@[simp] theorem openFrame_det : (openFrame c s).det = s.det := (openFrame_only c s).det
@[simp] theorem openFrame_lanes : (openFrame c s).lanes = s.lanes := (openFrame_only c s).same .lanes
@[simp] theorem openFrame_lamps : (openFrame c s).lamps = s.lamps := (openFrame_only c s).same .lamps
@[simp] theorem openFrame_arb : (openFrame c s).arb = s.arb := (openFrame_only c s).same .arb
@[simp] theorem openFrame_plans : (openFrame c s).plans = s.plans := (openFrame_only c s).same .plans
@[simp] theorem openFrame_ovr : (openFrame c s).ovr = s.ovr := (openFrame_only c s).ovr
@[simp] theorem openFrame_log : (openFrame c s).log = s.log := (openFrame_only c s).log
@[simp] theorem openFrame_handoffs : (openFrame c s).handoffs = s.handoffs := (openFrame_only c s).same .handoffs
@[simp] theorem openFrame_now : (openFrame c s).now = s.now := ((openFrame_only c s).same .env).2.1
@[simp] theorem openFrame_siteTime : (openFrame c s).siteTime = s.siteTime := ((openFrame_only c s).same .env).2.2.1
@[simp] theorem openFrame_resetIn : (openFrame c s).resetIn = s.resetIn := ((openFrame_only c s).same .env).2.2.2.1
@[simp] theorem openFrame_freeCount : (openFrame c s).freeCount = s.freeCount :=
  ((openFrame_only c s).same .env).2.2.2.2.2
@[simp] theorem openFrame_map : (openFrame c s).sel.map = s.sel.map := ((openFrame_only c s).same .map).1
@[simp] theorem openFrame_lastBand : (openFrame c s).sel.lastBand = s.sel.lastBand := ((openFrame_only c s).same .map).2

/-! ### A frame that passes its checks reaches its command -/

theorem passes_resetIn {c : Cmd} {args : List Byte} {s : State} (h : s.passes c args = true) : s.resetIn = false := by
  simp [State.passes] at h; exact h.1.1.1.1

/-- A frame that passes the link's checks is answered by its command, run on what the opening leaves. -/
theorem hostFrame_passes {c : Cmd} {args : List Byte} {s : State} (act : Act) (h : s.passes c args = true) :
    hostFrame c act args s =
      .next (answer c.code (act args s.link.held (openFrame c s)).1 (act args s.link.held (openFrame c s)).2) := by
  simp only [State.passes, Bool.and_eq_true, Bool.or_eq_true, Bool.not_eq_true', decide_eq_true_eq] at h
  obtain ⟨⟨⟨⟨hr, hl⟩, ha⟩, hp⟩, hs⟩ := h
  have hf : frameCheck c args s.link.held (openFrame c s) = none := by
    have h1 : (openFrame c s).startingUp = s.startingUp := by simp [State.startingUp]
    unfold frameCheck
    rw [if_neg (by simp [ha]), if_neg, if_neg]
    · rw [h1]; rcases hs with hs | hs <;> simp [hs]
    · rcases hp with hp | hp <;> simp [hp]
  have hfull : s.listFull = false := by simp [State.listFull]; omega
  simp [hostFrame, takeFrame, runFrame, hr, hfull, hf]

/-! ### Replies -/

theorem pump_outstanding (s : State) (h : s.link.stream = none) : (pump s).link.outstanding = s.link.outstanding := by
  unfold pump
  split
  · rfl
  · next hb =>
    simp [Link.lineBusy, h] at hb
    split
    · next r rest hw => simp [sendNext, hw, Link.outstanding, hb, State.modLink]
    · simp [h]

theorem pump_stream (s : State) (h : s.link.stream = none) : (pump s).link.stream = none := by
  unfold pump
  split
  · exact h
  · split
    · next r rest hw => simp [sendNext, hw, State.modLink, h]
    · simp [h]

end Sys2Proof.Machine
end

