-- ==== Sys2Proof/Laws/Readings.lean ====
section
/-! SUPPORT. What the shared operations that many commands end in make of the state, said once: the consumers of a
change of a channel's reading, the lanes' requests, the arbiter's hold and its settling, a write into the log, the end of a
green, the gap on the line, a monitor whose entry its limit removed. -/

namespace Sys2Proof.Machine

set_option Elab.async false

/-! ### The lanes' requests (R67, R68, R69) -/

/-- A lane hands on what it asks. -/
theorem settleRequest_asks (l : Lane) (s : State) :
    settleRequest l s = { s with handoffs := s.handoffs ++ s.asks l } := by
  unfold settleRequest State.asks State.asking
  by_cases ha : s.handoffs.any (isAsking l) = true
  · simp [ha]
  · rw [if_neg ha, if_neg ha]
    unfold State.wantsRequest State.wantsWithdrawal State.mayAsk State.metering
    by_cases hr : (s.lane l).state = .red
    · cases (s.lane l).inQueue <;> cases (s.lane l).minRed <;> cases s.hasDemand l <;> simp [hr, send, and_assoc]
      split <;> simp
    · simp [hr]

theorem isAsking_asks {l m : Lane} (h : m ≠ l) (s : State) : (s.asks m).any (isAsking l) = false := by
  unfold State.asks
  split
  · rfl
  · split
    · rfl
    · split
      · split <;> simp [isAsking, h]
      · split <;> simp [isAsking, h]

/-- What a lane asks rests on what waits only through its own message. -/
theorem asks_congr {s : State} {l : Lane} {hs : List Handoff} (h : hs.any (isAsking l) = s.handoffs.any (isAsking l)) :
    { s with handoffs := hs }.asks l = s.asks l := by
  unfold State.asks
  simp only [h]
  rfl

theorem settleRequests_asks (s : State) :
    settleRequests s = { s with handoffs := s.handoffs ++ [0, 1, 2, 3].flatMap s.asks } := by
  have e0 : ∀ (l m : Lane) (t : State), m ≠ l → (settleRequest m t).asks l = t.asks l := by
    intro l m t h
    rw [settleRequest_asks]
    exact asks_congr (by rw [List.any_append, isAsking_asks h, Bool.or_false])
  show settleRequest 3 (settleRequest 2 (settleRequest 1 (settleRequest 0 s))) = _
  rw [settleRequest_asks 3, e0 3 2 _ (by decide), e0 3 1 _ (by decide), e0 3 0 _ (by decide),
    settleRequest_asks 2, e0 2 1 _ (by decide), e0 2 0 _ (by decide), settleRequest_asks 1, e0 1 0 _ (by decide),
    settleRequest_asks 0]
  simp

/-- Every lane works out its request, once, from the same state (R68, R69). -/
theorem settleRequests_asked (s : State) : Asked s.handoffs (settleRequests s) := by
  rw [settleRequests_asks]; rfl

/-! ### The consumers of the readings (R29 to R34) -/

theorem setMerge_handoffs (m : MergeMon) (s : State) :
    (setMerge m s).det.merge = m ∧ (setMerge m s).handoffs = s.handoffs ++ mergeSignals s (setMerge m s) := by
  have hm : (setMerge m s).det.merge = m := by
    unfold setMerge; split
    · rfl
    · split <;> rfl
  refine ⟨hm, ?_⟩
  unfold mergeSignals
  rw [hm]
  unfold setMerge
  by_cases h : m.state = s.det.merge.state
  · simp [h]
  · rw [if_neg h, if_neg h]
    by_cases hb : m.state = .busy
    · rw [if_pos hb, if_pos hb]; simp [forAll, allLanes, send]
    · rw [if_neg hb, if_neg hb]; rfl

theorem mergeNow_follows (s : State) {t : State} (hd : t.det.chans = s.det.chans) (hp : t.desc = s.desc)
    (hn : t.now = s.now) (hm : t.det.merge = s.mergeNow) : MergeFollows s t := by
  have ec : ∀ c, t.chan c = s.chan c := fun c => by simp only [State.chan, hd]
  have eg : t.anyGood .merge = s.anyGood .merge := by simp only [State.anyGood, ec]
  have er : t.anyReads .merge = s.anyReads .merge := by simp only [State.anyReads, ec]
  have ep : t.par .mergeSettle = s.par .mergeSettle := by simp only [State.par, hp]
  unfold MergeFollows
  rw [eg, er, ep, hn, hm]
  unfold State.mergeNow
  refine ⟨fun a => by simp [a], fun a b => by simp [a, b], fun a b c => by simp [a, b, c], fun a b c => ?_⟩
  cases hs : s.det.merge.state <;> simp_all

theorem Monitor.watch_follows (now : Nat) (level : Bool) (m : Monitor) :
    SpellFollows now level m (m.watch now true level) := by
  unfold SpellFollows Monitor.watch
  cases hm : m.spell with
  | none => simp
  | some sp => by_cases h : sp.occupied = level <;> simp [h, hm]

theorem mem_allSixteen (c : Fin 16) : c ∈ allSixteen := by revert c; decide

theorem refreshMonitors_follow (s : State) : MonitorsFollow s (refreshMonitors s) := by
  have hq : ∀ l, (refreshMonitors s).det.queue.get l =
      (s.det.queue.get l).watch s.now (s.queueRuns l) (s.queueReading l) := fun l => by simp [refreshMonitors]
  have hp : (refreshMonitors s).det.spill = s.det.spill.watch s.now s.spillRuns (s.anyReads .spill) := rfl
  have hs : (refreshMonitors s).site = s.site := rfl
  refine ⟨fun l => ⟨fun c h1 h2 h3 => ?_, fun h => ?_⟩, fun h1 h2 => ?_, fun h => ?_⟩
  · have e1 : s.queueRuns l = true := by
      have h3' : s.chanFor .queue l = some c := h3
      simp only [State.queueRuns, h3', Option.isSome, Bool.and_true, Bool.and_eq_true]
      exact ⟨by rw [hs] at h1; simpa [State.metering] using h1, h2⟩
    have e2 : s.queueReading l = (s.chan c).reading := by
      have h3' : s.chanFor .queue l = some c := h3
      simp only [State.queueReading, h3']
    rw [hq, e1, e2]
    exact Monitor.watch_follows ..
  · have e1 : s.queueRuns l = false := by
      rw [Bool.eq_false_iff]
      intro k
      simp only [State.queueRuns, Bool.and_eq_true] at k
      obtain ⟨⟨k1, k2⟩, k3⟩ := k
      rcases h with h | h | h
      · exact h (by rw [hs]; simpa [State.metering] using k1)
      · exact absurd (k2.symm.trans h) (by decide)
      · have h' : s.chanFor .queue l = none := h
        simp [h'] at k3
    rw [hq, e1]; rfl
  · have e1 : s.spillRuns = true := by
      simp only [State.spillRuns, Bool.and_eq_true, List.any_eq_true, beq_iff_eq]
      obtain ⟨c, hc⟩ := h2
      exact ⟨by rw [hs] at h1; simpa [State.metering] using h1, c, mem_allSixteen c, hc⟩
    rw [hp, e1]
    exact Monitor.watch_follows ..
  · have e1 : s.spillRuns = false := by
      rw [Bool.eq_false_iff]
      intro k
      simp only [State.spillRuns, Bool.and_eq_true, List.any_eq_true, beq_iff_eq] at k
      obtain ⟨k1, c, -, k2⟩ := k
      rcases h with h | h
      · exact h (by rw [hs]; simpa [State.metering] using k1)
      · exact h c k2
    rw [hp, e1]; rfl

theorem MergeFollows.congr {s t u : State} (h : MergeFollows s t) (hd : u.det.chans = t.det.chans)
    (hm : u.det.merge = t.det.merge) (hp : u.desc = t.desc) (hn : u.now = t.now) : MergeFollows s u := by
  have ec : ∀ c, u.chan c = t.chan c := fun c => by simp only [State.chan, hd]
  unfold MergeFollows at h ⊢
  simp only [State.anyGood, State.anyReads, State.par, ec, hm, hp, hn] at h ⊢
  exact h

theorem MonitorsFollow.congr {s t u : State} (h : MonitorsFollow s t) (hd : u.det = t.det) (hl : u.site = t.site)
    (hp : u.desc = t.desc) (hn : u.now = t.now) : MonitorsFollow s u := by
  unfold MonitorsFollow at h ⊢
  simp only [State.chanFor, State.anyReads, State.sequenced, State.mode, State.chan, hd, hl, hp, hn] at h ⊢
  exact h

theorem MonitorsFollow.from {r s t : State} (h : MonitorsFollow s t) (hq : s.det.queue = r.det.queue)
    (hp : s.det.spill = r.det.spill) : MonitorsFollow r t := by
  unfold MonitorsFollow at h ⊢
  simp only [hq, hp] at h
  exact h

/-- Every consumer has taken the readings (R29 to R34, R67 to R69). -/
theorem refresh_readingsTaken (s : State) : ReadingsTaken s.handoffs s (refresh s) := by
  have k1 := refreshMerge_only s
  have hm := setMerge_handoffs s.mergeNow s
  change (refreshMerge s).det.merge = _ ∧ (refreshMerge s).handoffs = _ ++ mergeSignals s (refreshMerge s) at hm
  have k := refresh_only s
  have e : refresh s = settleRequests (refreshMonitors (refreshMerge s)) := rfl
  generalize refreshMerge s = m at k1 hm e
  have k2 := refreshMonitors_only m
  have f2 := refreshMonitors_follow m
  generalize refreshMonitors m = q at k2 f2 e
  have k3 := settleRequests_only q
  have f3 := settleRequests_asked q
  rw [← e] at k3 f3
  generalize refresh s = t at k k3 f3
  have d3 : t.det = q.det := k3.det
  have h0 : q.det.merge = m.det.merge := k2.same .merge
  have em : t.det.merge = s.mergeNow := by rw [d3, h0, hm.1]
  refine ⟨mergeNow_follows s (k.same .chans) (k.same .desc) (k.same .env).2.1 em, ?_, ?_⟩
  · exact (f2.congr d3 (k3.same .site) (k3.same .desc) (k3.same .env).2.1).from (k1.same .monitors).1 (k1.same .monitors).2
  · have h1 : q.handoffs = m.handoffs := k2.same .handoffs
    have h2 : s.handoffs ++ mergeSignals s t = q.handoffs := by
      rw [h1, hm.2]
      unfold mergeSignals
      rw [em, hm.1]
    rw [h2]
    exact f3

/-! ### The arbiter's hold and its settling (R92, R107) -/

theorem deriveHold_holdDerived (s : State) : HoldDerived (deriveHold s) := by
  have h : ((deriveHold s).arb.holdCause, (deriveHold s).arb.holdLane) = s.holdNow := rfl
  have e1 : (deriveHold s).arb.holdCause = s.holdNow.1 := rfl
  have e2 : (deriveHold s).arb.holdLane = s.holdNow.2 := rfl
  unfold HoldDerived
  rw [e1, e2]
  show (s.arb.reservation ≠ .none → _) ∧ (∀ g l, s.arb.reservation = .none → s.site.state = .metering →
    s.arb.gov = some g → _) ∧ (s.arb.reservation = .none → (s.site.state ≠ .metering ∨ ∀ g, s.arb.gov = some g → _) → _)
  unfold State.holdNow
  refine ⟨fun a => ?_, fun g l a b c d e => ?_, fun a b => ?_⟩
  · rw [if_pos a]; exact ⟨rfl, rfl⟩
  · rw [if_neg (by simp [a])]; simp [c, d, e, State.metering, b]
  · rw [if_neg (by simp [a])]
    cases hg : s.arb.gov with
    | none => simp
    | some g =>
      rcases b with b | b
      · simp [State.metering, b]
      · by_cases k : g.kind = .flush
        · simp [b g hg k]
        · simp [k]

theorem settle_settledFrom (s : State) : SettledFrom s (settle s) := by
  have ea : (settle s).arb =
      { s.arb with own := s.settledOwn, owner := if s.settledOwn = .held then s.arb.holdLane else none } := by
    unfold settle; dsimp only; split <;> rfl
  have ed : (settle s).det = s.det := (settle_only s).det
  have es : (settle s).log.slip = (if s.settledOwn = .yielding ∧ s.arb.own ≠ .yielding then
      { s.log.slip with yields := s.log.slip.yields + 1 } else s.log.slip) := by
    unfold settle; dsimp only; split <;> rfl
  unfold SettledFrom
  rw [ea, ed, es]
  exact ⟨rfl, rfl, rfl⟩

/-! ### The log (R155, R156, R158) -/

/-- A write with room. -/
theorem writeRec_room {r : PassRec} {s : State} (h : s.log.records.length < 256) :
    (writeRec r s).log = { s.log with records := s.log.records ++ [r] } ∧
    (writeRec r s).link = { s.link with
      notices := if s.log.records.length = 191 then s.link.notices ||| Notice.log.bit else s.link.notices } := by
  have e : writeRec r s = appendRec r s := if_pos h
  rw [e]
  unfold appendRec logMark
  by_cases k : s.log.records.length = 191
  · simp [k, raise]
  · simp [k]

/-- A write at a full log. -/
theorem writeRec_full {r : PassRec} {s : State} (h : 256 ≤ s.log.records.length) :
    (writeRec r s).log = { s.log with records := s.log.records.tail ++ [r], lost := min 65535 (s.log.lost + 1) } ∧
    (writeRec r s).link = { s.link with
      stream := s.link.stream.map Stream.overwrite
      notices := if s.log.lost = 0 then s.link.notices ||| Notice.log.bit else s.link.notices } := by
  have e : writeRec r s = overwriteRec r s := if_neg (by simp only [logRoom]; omega)
  rw [e]
  unfold overwriteRec
  by_cases k : s.log.lost = 0
  · simp [k, raise, satAdd]
  · simp [k, satAdd]

/-! ### The end of a green (R56, R60, R61) -/

/-- A write rests on the log and the link alone. -/
theorem writeRec_congr (r : PassRec) {s t : State} (hl : t.log = s.log) (hk : t.link = s.link) :
    (writeRec r t).log = (writeRec r s).log ∧ (writeRec r t).link = (writeRec r s).link := by
  by_cases h : s.log.records.length < 256
  · have h' : t.log.records.length < 256 := by rw [hl]; exact h
    rw [(writeRec_room h).1, (writeRec_room h).2, (writeRec_room h').1, (writeRec_room h').2, hl, hk]
    exact ⟨rfl, rfl⟩
  · have h' : 256 ≤ t.log.records.length := by rw [hl]; omega
    have a := writeRec_full (r := r) (s := s) (by omega)
    have b := writeRec_full (r := r) h'
    rw [a.1, a.2, b.1, b.2, hl, hk]
    exact ⟨rfl, rfl⟩

theorem endRelease_handoffs (l : Lane) (s : State) :
    (endRelease l s).handoffs = s.handoffs ++ (s.lane l).releaseEnds l := by
  have hw : ∀ r, (writeRec r s).handoffs = s.handoffs := fun r => (writeRec_only r s).same .handoffs
  unfold endRelease LaneRec.releaseEnds
  cases (s.lane l).grant <;> cases (s.lane l).cut <;> simp [send, countCut, countSlip, hw]

theorem endRelease_cutWritten (l : Lane) (s : State) : CutWritten l s (endRelease l s) := by
  unfold endRelease
  refine ⟨fun h => ?_, fun h w hw => ?_⟩
  · rw [h]
    cases (s.lane l).grant <;> exact ⟨rfl, rfl⟩
  · subst hw
    have e : s.cutRecord l = s.recordNow l .cut (s.lane l).grant (s.shortfall l) := rfl
    rw [if_pos h, ← e]
    cases (s.lane l).grant <;> exact ⟨rfl, rfl⟩

/-- What is said of a cut rests on the lane, the channels, the active slot, site time, the log and the link. -/
theorem CutWritten.congr {l : Lane} {s t u : State} (h : CutWritten l s u) (hr : t.cutRecord l = s.cutRecord l)
    (hc : (t.lane l).cut = (s.lane l).cut) (hl : t.log = s.log) (hk : t.link = s.link) : CutWritten l t u := by
  unfold CutWritten at h ⊢
  rw [hc, hl, hk, hr]
  refine ⟨h.1, fun a w e => ?_⟩
  have k := writeRec_congr (s.cutRecord l) hl hk
  rw [e, k.1, k.2]
  exact h.2 a _ rfl

theorem greenToAmber_handoffs (l : Lane) (s : State) :
    (greenToAmber l s).handoffs = s.handoffs ++ (s.lane l).releaseEnds l := by
  unfold greenToAmber
  rw [endRelease_handoffs]
  simp only [LaneRec.releaseEnds, lane_modLane, lane_enterState, if_true]
  rfl

theorem greenToAmber_cutWritten (l : Lane) (s : State) : CutWritten l s (greenToAmber l s) := by
  refine (endRelease_cutWritten l _).congr ?_ ?_ rfl rfl
  · unfold State.cutRecord State.goodStop
    simp only [lane_modLane, lane_enterState, if_true]
    rfl
  · simp [lane_modLane, lane_enterState]

theorem greenToOpen_handoffs (l : Lane) (s : State) :
    (greenToOpen l s).handoffs = s.handoffs ++ (s.lane l).releaseEnds l := by
  show (endRelease l _).handoffs = _
  rw [endRelease_handoffs]
  simp [LaneRec.releaseEnds, lane_modLane]

theorem greenToOpen_cutWritten (l : Lane) (s : State) : CutWritten l s (greenToOpen l s) := by
  have h := endRelease_cutWritten l (s.modLane l (fun r => { r with state := .opened, entryAt := s.now }))
  refine CutWritten.congr h ?_ ?_ rfl rfl
  · unfold State.cutRecord State.goodStop
    simp only [lane_modLane, if_true]
    rfl
  · simp [lane_modLane]

/-- GREEN to OPEN: the lane alone changes, its grant closed; no lamp is commanded. -/
theorem greenToOpen_lane (l m : Lane) (s : State) :
    (greenToOpen l s).lane m =
      (if m = l then { s.lane l with state := .opened, entryAt := s.now, grant := none, size := none, greenFor := none }
        else s.lane m) := by
  have h : ∀ u : State, (endRelease l u).lane = u.lane := fun u => by
    have k : (endRelease l u).lanes = u.lanes := (endRelease_only l u).same .lanes
    funext m; simp only [State.lane, k]
  unfold greenToOpen
  rw [lane_modLane, h]
  by_cases hm : m = l
  · subst hm; simp [lane_modLane, LaneRec.closeGrant]
  · simp [lane_modLane, hm]

/-! ### The gap on the line (R163) -/

theorem discardAll_brokenOff (s : State) : discardAll s = s.brokenOff := rfl

theorem breakAtGap_hunting {s : State} (h : s.link.receiver = .hunting) : breakAtGap s = s := by
  simp [breakAtGap, State.gapIn, h]

theorem breakAtGap_inTime {s : State} (h : s.now ≤ s.link.lastByte + 5) : breakAtGap s = s := by
  unfold breakAtGap State.gapIn State.until
  cases s.link.receiver <;> simp <;> omega

theorem breakAtGap_late {s : State} (h : s.link.receiver ≠ .hunting) (k : s.link.lastByte + 5 < s.now) :
    breakAtGap s = s.brokenOff := by
  rw [← discardAll_brokenOff]
  unfold breakAtGap State.gapIn State.until
  cases hr : s.link.receiver
  · exact absurd hr h
  · simp; omega
  · simp; omega

/-! ### A monitor whose entry its limit removed (R32, R34) -/

theorem Monitor.spend_reached {m : Monitor} {off now t0 : Nat} (hm : m.state = .triggered)
    (hs : m.spell = some { occupied := false, since := t0 }) (h : t0 + off ≤ now) :
    m.spend off now = { m with state := .watching } := by
  simp [Monitor.spend, Monitor.spellIn, hm, hs]; omega

theorem Monitor.spend_waits {m : Monitor} {off now : Nat} (hm : m.state = .triggered)
    (h : ∀ t0, m.spell = some { occupied := false, since := t0 } → now < t0 + off) :
    m.spend off now = { m with state := .spent } := by
  unfold Monitor.spend Monitor.spellIn
  rw [if_pos hm]
  cases hs : m.spell with
  | none => simp
  | some sp =>
    cases ho : sp.occupied with
    | true => simp [ho]
    | false =>
      have := h sp.since (by rw [hs, ← ho])
      simp [ho]; omega

theorem Monitor.spend_other {m : Monitor} (off now : Nat) (hm : m.state ≠ .triggered) : m.spend off now = m := if_neg hm

end Sys2Proof.Machine
end

