-- ==== Sys2Proof/WellFormed.lean ====
section
/-! DEFINITION. Which commands can be sent at all: what a frame's own form rules out (R163, R165). -/

namespace Sys2Proof

/-- LEN is at most 48 and counts CODE and the arguments (R163). -/
def argsFit (args : List Byte) : Bool := decide (args.length ≤ 47)

/-- A command is well formed when its frame can be received whole (R163), an UNDEFINED_CODE_FRAME's code is not in
the command table (R165 check 2) and a LEN_OUT_OF_RANGE byte is out of range (R163). -/
def Instr.wf : Instr → Bool
  | .beginCmd args => argsFit args
  | .getStatus args => argsFit args
  | .takeNotice args => argsFit args
  | .setNoticeMask args => argsFit args
  | .siteReset args => argsFit args
  | .setTime args => argsFit args
  | .pfxLane args => argsFit args
  | .pfxPlan args => argsFit args
  | .pfxChannel args => argsFit args
  | .setLane args => argsFit args
  | .setPriorityLane args => argsFit args
  | .setChannel args => argsFit args
  | .setTiming args => argsFit args
  | .readConfig args => argsFit args
  | .readChannel args => argsFit args
  | .resetChannel args => argsFit args
  | .startMetering args => argsFit args
  | .stopMetering args => argsFit args
  | .clearFailsafe args => argsFit args
  | .readLamps args => argsFit args
  | .clearAmberFault args => argsFit args
  | .writePlan args => argsFit args
  | .readPlan args => argsFit args
  | .erasePlan args => argsFit args
  | .selectPlan args => argsFit args
  | .protectGroup args => argsFit args
  | .unprotectGroup args => argsFit args
  | .pushOverride args => argsFit args
  | .removeOverride args => argsFit args
  | .readOverrides args => argsFit args
  | .mapFrom args => argsFit args
  | .mapTo args => argsFit args
  | .mapSkip args => argsFit args
  | .mapAssign args => argsFit args
  | .readMap args => argsFit args
  | .streamLog args => argsFit args
  | .stopStream args => argsFit args
  | .readLogState args => argsFit args
  | .readCounts args => argsFit args
  | .clearCounts args => argsFit args
  | .readArbiter args => argsFit args
  | .undefinedCodeFrame code args => (Cmd.ofCode code).isNone && argsFit args
  | .lenOutOfRange len => !lenInRange len
  | .powerOn => true
  | .resetInputAsserted => true
  | .resetInputReleased => true
  | .badCheckFrame => true
  | .frameGapTimeout => true
  | .frameOverrun => true
  | .prefixHoldExpiry => true
  | .linkLossExpiry => true
  | .recordFrameCompletion => true
  | .detectorInputChange _ _ => true
  | .actuation _ => true
  | .clearing _ => true
  | .stuckOnExpiry _ => true
  | .stuckOffExpiry _ => true
  | .noShowClaim _ => true
  | .mergeSettleExpiry => true
  | .queueOnReached _ => true
  | .queueOffReached _ => true
  | .spillOnReached => true
  | .spillOffReached => true
  | .occupancyPeriodClose => true
  | .preemptionInputChange _ => true
  | .preemptionAssertion => true
  | .preemptionRelease => true
  | .overrideLimitExpiry _ _ => true
  | .arbiterGoverningChange => true
  | .laneGoverningChange _ => true
  | .lampTestExpiry => true
  | .warningExpiry => true
  | .stopFlushExpiry => true
  | .lampFailureReport => true
  | .lampSenseChange _ _ _ => true
  | .provingWindowEnd _ _ => true
  | .flashOnPhaseEnd _ _ => true
  | .strayMeasureExpiry _ _ => true
  | .lossOfProof _ _ => true
  | .minGreenElapsed _ => true
  | .greenDurationElapsed _ => true
  | .amberTimeElapsed _ => true
  | .minRedElapsed _ => true
  | .redGraceExpiry _ => true
  | .releaseCut _ => true
  | .releaseEnd _ => true
  | .request _ => true
  | .withdrawal _ => true
  | .mergeMonitorChange => true
  | .intervalExpiry => true
  | .grant => true
  | .advanceActuation => true
  | .reservationExpiry => true
  | .replyFrameTransmitted => true

end Sys2Proof
end

