-- ==== Sys2Proof/Tests/Slice0.lean ====
section
/-! SUPPORT. Small tests: ill-formed commands, the spec's worked bytes, and for every statement a state and operands that
meet its hypotheses, with what one step then does. -/

namespace Sys2Proof.Tests

set_option Elab.async false
set_option maxRecDepth 8000

open Sys2Proof.Machine

/-! ### Builders -/

/-- What a next state must satisfy. -/
def after (o : Out) (p : State → Bool) : Bool :=
  match o with
  | .next t => p t
  | .fault _ => false
  | .refused _ => false

/-- The part at rest in a site state, at tenth 1000. -/
def at1000 (st : SiteState) : State := { State.reset with now := 1000, site := SiteCtl.at st }

def dark : State := at1000 .dark

def planA : Plan := { interval := 30, flushInterval := 20, size := 2, weights := ⟨1, 2, 0, 3⟩, prioEvery := 3 }

def planB : Plan := { planA with interval := 50, weights := ⟨0, 1, 2, 3⟩ }

/-- Slot 0 holds plan A and is active, slot 1 holds plan B; lanes 0 and 1 METERED, lane 2 TIMED and the priority
lane, lane 3 COUNTED. -/
def furnished (s : State) : State :=
  { s with
    plans := { s.plans with slots := Bank.put (Bank.put s.plans.slots 0 (some planA)) 1 (some planB), active := some 0 }
    desc := { s.desc with modes := ⟨.metered, .metered, .timed, .counted⟩, priority := some 2 } }

/-- METERING with the arbiter FREE and every sequenced lane in RED, ready to ask. -/
def metering : State :=
  { furnished (at1000 .metering) with
    lanes := Quad.all { LaneRec.reset with state := .red, entryAt := 900, minRed := true }
    arb := { Arbiter.reset with own := .free, expired := true, credit := ⟨1, 2, 0, 3⟩ } }

def withLane (l : Lane) (f : LaneRec → LaneRec) (s : State) : State := s.modLane l f

def withChan (c : Chan) (f : Channel → Channel) (s : State) : State := s.modChan c f

def withLamp (l : Lane) (col : Colour) (f : LampRec → LampRec) (s : State) : State := s.modLamp l col f

def withArb (f : Arbiter → Arbiter) (s : State) : State := s.modArb f

def withLink (f : Link → Link) (s : State) : State := s.modLink f

def withPar (p : Param) (v : Nat) (s : State) : State :=
  s.modDesc (fun d => { d with timing := d.timing.set p v })

def withEntries (es : List Entry) (s : State) : State := s.modOvr (fun o => { o with entries := es })

def withHand (h : Handoff) (s : State) : State := { s with handoffs := [h] }

/-- Lane 0 in GREEN from tenth 980, two passages asked, the merge its own. -/
def greenAt980 : State :=
  withArb (fun a => { a with own := .releasing, owner := some 0, openRelease := some (0, 7), grantNo := 7 })
    (withLane 0 (fun r =>
      { r with
        state := .green, entryAt := 980, onsetAt := some 980, minRed := false, grant := some 7, size := some 2
        greenFor := some 30 }) metering)

def linkEntry (k : OvKind) : Entry := { kind := k, source := .link, lanes := none, limit := none, fixed := none }

def fourEntries : List Entry :=
  [preemptEntry, linkEntry .close, spillEntry 5, { linkEntry .fixed with fixed := some 10 }]

def aReply : Reply := { code := 1, status := 0, data := [] }

def aRecord : PassRec :=
  { time := 5, lane := 1, kind := .released, plan := some 0, grant := some 7, shortfall := none }

/-- Lane 0's green is cut; its GOOD STOP channel is channel 0. -/
def cutGreen : State :=
  withLane 0 (fun r => { r with cut := true }) (withChan 0 (fun q => { q with role := .stop, lane := some 0 }) greenAt980)

/-- Is one CUT record of lane 0, short of two passages, all that the log holds, with one cut counted? -/
def cutOnce (t : State) : Bool :=
  t.log.records == [{ time := 0, lane := 0, kind := .cut, plan := some 0, grant := some 7, shortfall := some 2 }] &&
    t.log.slip.cuts == 1

/-! ### Ill-formed commands are refused by the check -/

theorem test_tooManyArgumentBytesIsIllFormed :
    (Instr.wf (.writePlan (List.replicate 47 0)) = true) ∧ (Instr.wf (.writePlan (List.replicate 48 0)) = false) := by
  decide

theorem test_undefinedCodeFrameWithADefinedCodeIsIllFormed :
    (Instr.wf (.undefinedCodeFrame 0x7F []) = true) ∧ (Instr.wf (.undefinedCodeFrame 0x01 []) = false) ∧
    (Instr.wf (.undefinedCodeFrame 0x7F (List.replicate 48 0)) = false) := by decide

theorem test_lengthInRangeIsIllFormed :
    ([0, 49, 255].map (fun n => Instr.wf (.lenOutOfRange n)) = [true, true, true]) ∧
    ([1, 48].map (fun n => Instr.wf (.lenOutOfRange n)) = [false, false]) := by decide

theorem test_eventsAreWellFormed : Instr.wf .grant = true ∧ Instr.wf .powerOn = true := by decide

/-! ### The machine -/

theorem test_noRowOfTheTableGivesBits : decodeTableWord 8 1 = none ∧ State.reset.withFetchWord 8 1 = State.reset := by
  decide

theorem test_theFrontCommandIsTakenFirst :
    after (step { dark with pending := [.resetInputAsserted, .powerOn] })
      (fun t => t.resetIn && t.pending == [.powerOn]) = true := by decide

theorem test_oneEventDueIsTaken :
    (withHand .mergeChange dark).pending = [] ∧
    { withHand .mergeChange dark with det := { dark.det with periodFrom := 1000 } }.moves =
      [.event .mergeMonitorChange] := by decide

theorem test_atenthPassesAndSiteTimeWraps :
    let s := { State.reset with siteTime := 0xFFFFFF }
    s.pending = [] ∧ s.resetIn = false ∧ s.dueNow = [] ∧ s.lineMoves = [] ∧
      after (step s) (fun t => t.now == 1 && t.siteTime == 0) = true := by decide

theorem test_aTenthProvesAFlashingLamp :
    let s := withLamp 0 .amber (fun r =>
      { r with commanded := .flash, output := .driven, sensed := true, proving := .proving, phaseEnd := some 1006 })
      { dark with det := { dark.det with periodFrom := 1000 } }
    s.dueNow = [] ∧ s.lineMoves = [] ∧ 1006 ≤ s.now + 6 ∧
    after (step s) (fun t => (t.lamp 0 .amber).proving == .proven && (t.lamp 0 .amber).phaseSeen && t.now == 1001) = true ∧
    after (step (withLamp 0 .amber (fun r => { r with phaseEnd := some 1007 }) s))
      (fun t => (t.lamp 0 .amber).proving == .proving) = true := by decide

theorem test_aRowBeforeItsMomentWaits :
    let s := withLink (fun k => { k with held := { HeldSet.empty with lane := some 1, since := some 1000 } }) dark
    s.resetIn = false ∧ dueIn .prefixHoldExpiry s = some 10 ∧ dueIn .prefixHoldExpiry (advance 10 s) = some 0 ∧
      after (exec .prefixHoldExpiry s) (fun t => t.now == 1010 && !t.link.held.any) = true := by decide

theorem test_aRowWhoseConditionFailsDoesNothing :
    (dueIn .grant metering).isSome = false ∧
    (dueIn .grant (withArb (fun a => { a with queue := [0] }) metering)).isSome = true ∧
    metering.resetIn = false ∧ after (exec .grant metering) (· == metering) = true := by decide

theorem test_resetHypothesesAreMet :
    let s := { metering with resetIn := true }
    after (exec .resetInputReleased s) (fun t => !t.resetIn && t.site.state == .start && t.now == 0) = true ∧
    after (exec (.getStatus []) s) (· == s) = true ∧ after (exec .grant s) (· == s) = true ∧
    after (exec .resetInputReleased metering) (· == metering) = true := by decide

theorem test_anInputThatStandsAtAResetIsFollowed :
    let s := withChan 3 (fun c => { c with input := true, occupied := true }) (withLamp 1 .red (fun r =>
      { r with sensed := true }) metering)
    after (exec .powerOn s) (fun t => (t.chan 3).input && (t.chan 3).changeFrom == some 0 && !(t.chan 3).occupied &&
      (t.lamp 1 .red).proving == .proving && (t.lamp 1 .red).window == some 0) = true := by decide

theorem test_aPreemptionInputAssertedAtPowerOnIsPending :
    let s := metering.modOvr (fun o => { o with preInput := true, preLevel := true })
    after (exec .powerOn s) (fun t => t.ovr.preFrom == some 0 && !t.ovr.preLevel) = true ∧
    after (exec .powerOn metering) (fun t => t.ovr.preFrom == none) = true := by decide

/-! ### The line -/

theorem test_beginFrameBytesOfTheManual :
    frameBytes 0x01 [] = [0xD5, 0x01, 0x01, 0x12] ∧
    receiveBytes .hunting [0xD5, 0x01, 0x01, 0x12] = (.hunting, [.frame 0x01 [0x01, 0x12]]) ∧
    frameInstr 0x01 [0x01, 0x12] = .beginCmd [] ∧ frameInstr 0x01 [0x01, 0x13] = .badCheckFrame ∧
    aReply.bytes = [0x5D, 0x02, 0x01, 0x00, 0xC3] := by decide

theorem test_theLongestFrameIsReceived :
    (List.replicate 47 (0xD5 : Byte)).length ≤ 47 ∧
    (receiveBytes .hunting (frameBytes Cmd.writePlan.code (List.replicate 47 0xD5))).1 = .hunting ∧
    (receiveBytes .hunting (frameBytes Cmd.writePlan.code (List.replicate 47 0xD5))).2.map (fun r =>
      match r with
      | .frame len body => decide (frameInstr len body = Cmd.instr (List.replicate 47 0xD5) .writePlan)
      | _ => false) = [true] := by decide +kernel

theorem test_receiverBoundaries :
    receiveByte .length 1 = (.body 1 [], .nothing) ∧ receiveByte .length 48 = (.body 48 [], .nothing) ∧
    receiveByte .length 0 = (.hunting, .badLength 0) ∧ receiveByte .length 49 = (.hunting, .badLength 49) ∧
    receiveByte .length 0xD5 = (.length, .badLength 0xD5) ∧ receiveByte (.body 1 []) 7 = (.body 1 [7], .nothing) ∧
    receiveByte (.body 1 [7]) 9 = (.hunting, .frame 1 [7, 9]) := by decide

theorem test_bytesOfTheLineAreTaken :
    let s := { dark with rxLine := [0xD5, 0x01, 0x01, 0x12] }
    after (takeByte s) (fun t => t.link.receiver == .length && t.rxLine == [0x01, 0x01, 0x12]) = true ∧
    after (takeByte { dark with rxLine := [0x12], link := { dark.link with receiver := .body 1 [0x01], lastByte := 1000 } })
      (fun t => t.link.sending == some { code := 1, status := 0, data := [] } && t.link.begun) = true ∧
    after (takeByte { dark with rxLine := [0x00], link := { dark.link with receiver := .length, lastByte := 1000 } })
      (fun t => t.link.receiver == .hunting) = true := by decide

theorem test_aByteAfterTheGapIsExaminedInHunting :
    let s := fun (n : Nat) (b : Byte) => { withLink (fun k => { k with receiver := .body 1 [0x01], lastByte := n }) dark with
      rxLine := [b] }
    ((s 994 0x12).link.receiver ≠ .hunting) ∧ (s 994 0x12).link.lastByte + 5 < (s 994 0x12).now ∧
    (s 995 0x12).now ≤ (s 995 0x12).link.lastByte + 5 ∧
    after (takeByte (s 994 0x12)) (fun t => t.link.receiver == .hunting && !t.link.begun && t.link.sending.isNone) = true ∧
    after (takeByte (s 994 0xD5)) (fun t => t.link.receiver == .length && t.link.lastByte == 1000) = true ∧
    after (takeByte (s 995 0x12)) (fun t => t.link.receiver == .hunting && t.link.begun) = true := by decide

theorem test_brokenFramesDiscard :
    let s := withLink (fun k =>
      { k with
        receiver := .length, lastByte := 994, held := { HeldSet.empty with lane := some 1, since := some 990 } }) dark
    s.resetIn = false ∧ s.link.receiver ≠ .hunting ∧ s.link.lastByte + 5 < s.now ∧
    after (exec .frameGapTimeout s) (fun t => t.now == 1000 && t.link.discard && !t.link.held.any) = true ∧
    after (exec (.lenOutOfRange 49) s) (fun t => t.link.discard && t.link.receiver == .hunting) = true := by decide

theorem test_anOverrunDiscards :
    let s := withLink (fun k =>
      { k with waiting := List.replicate 8 aReply, sending := some aReply, held := { HeldSet.empty with slot := some 1 } })
      dark
    8 ≤ s.link.waiting.length ∧ Cmd.ofCode 0x7F = none ∧
    after (exec (.beginCmd []) s) (fun t => t.link.discard && t.link.waiting.length == 8 && !t.link.begun) = true := by
  decide

theorem test_badCheckAndUndefinedCodeAreAnswered :
    dark.link.waiting.length < 8 ∧ Cmd.ofCode 0x00 = none ∧
    after (exec .badCheckFrame dark) (fun t =>
      t.link.outstanding == [{ code := 0x00, status := 0x10, data := [] }]) = true ∧
    after (exec (.undefinedCodeFrame 0x7F [1]) dark) (fun t =>
      t.link.outstanding == [{ code := 0x7F, status := 0x20, data := [] }]) = true := by decide

theorem test_anUndefinedCodeReturnsTheSiteToCentral :
    let s := withLink (fun k => { k with mode := .localMode }) dark
    after (exec (.undefinedCodeFrame 0x7F []) s) (fun t => t.link.notices == Notice.link.bit) = true ∧
    after (exec (.undefinedCodeFrame 0x7F []) dark) (fun t => t.link.notices == 0) = true := by decide

theorem test_theLinksChecksInTheirOrder :
    let s := withLink (fun k => { k with held := { HeldSet.empty with chan := some 3, since := some 1000 } }) State.reset
    ([] : List Byte).length ≠ Cmd.setLane.argBytes ∧ [(2 : Byte)].length = Cmd.setLane.argBytes ∧
    s.link.held.fits .setLane = false ∧ State.reset.link.held.fits .setLane = true ∧ State.reset.startingUp = true ∧
    Cmd.setLane.atStart = false ∧
    after (exec (.setLane []) s) (fun t => t.link.outstanding == [{ code := 0x20, status := 0x84, data := [] }]) = true ∧
    after (exec (.setLane [2]) s) (fun t =>
      t.link.outstanding == [{ code := 0x20, status := 0x82, data := [8] }]) = true ∧
    after (exec (.setLane [2]) State.reset) (fun t =>
      t.link.outstanding == [{ code := 0x20, status := 0x82, data := [1] }]) = true := by decide

theorem test_aGoodFrameEndsAStream :
    let s := withLink (fun k =>
      { k with
        mode := .localMode, begun := true
        stream := some { asked := 0, delivered := 258, flight := some { copy := aRecord, overwritten := false } } }) dark
    after (.next (openFrame .getStatus s)) (fun u => u.link.mode == .central && u.link.lossFrom == some 1000 &&
      u.link.stream.isNone && u.link.notices == Notice.link.bit &&
      u.link.outstanding == [{ code := 0x70, status := 0x01, data := [1, 2] }]) = true := by decide

theorem test_linkTimersAreMet :
    let s := withLink (fun k =>
      { k with
        held := { HeldSet.empty with lane := some 1, since := some 990 }, lossFrom := some 400, begun := true }) dark
    990 + s.par .prefixHold ≤ s.now ∧ 400 + s.par .linkLoss ≤ s.now ∧ s.par .linkLoss ≠ 0 ∧
    after (exec .prefixHoldExpiry s) (fun t => t.now == 1000 && t.link.discard) = true ∧
    after (exec .linkLossExpiry s) (fun t => t.now == 1000 && t.link.mode == .localMode) = true ∧
    (withPar .linkLoss 0 s).par .linkLoss = 0 ∧
    after (exec .linkLossExpiry (withPar .linkLoss 0 s)) (· == withPar .linkLoss 0 s) = true := by decide

/-- A stream on a free line, its record in flight. -/
def streaming (asked delivered : Nat) (rs : List PassRec) : State :=
  (withLink (fun k =>
    { k with
      stream := some { asked := asked, delivered := delivered
                       flight := some { copy := aRecord, overwritten := false } } }) dark).modLog
    (fun g => { g with records := rs })

theorem test_recordFramesGoOnOrEnd :
    let s := streaming 2 1 [aRecord, aRecord]
    let e := streaming 2 0 [aRecord]
    let m := streaming 0 0 [aRecord, aRecord]
    s.link.sending = none ∧ s.link.waiting = [] ∧
    after (exec .recordFrameCompletion s) (fun t => t.link.stream.isNone &&
      t.link.outstanding == [{ code := 0x70, status := 0, data := [0, 2] }]) = true ∧
    after (exec .recordFrameCompletion e) (fun t => t.link.stream.isNone && t.log.records.isEmpty) = true ∧
    after (exec .recordFrameCompletion m) (fun t => t.log.records.length == 1 && t.link.lineBusy) = true := by decide

theorem test_anOverwrittenRecordInFlightIsNotRemoved :
    let s := withLink (fun k =>
      { k with stream := some { asked := 0, delivered := 0, flight := some { copy := aRecord, overwritten := true } } })
      (streaming 0 0 [aRecord])
    (s.link.stream.bind Stream.flight).isSome = true ∧ s.log.records = [aRecord] ∧
    after (exec .recordFrameCompletion s) (fun t => t.log.records == [aRecord] && t.inFlight &&
      t.link.stream.map Stream.delivered == some 1) = true := by decide

theorem test_theLineSendsTheNextReply :
    let s := withLink (fun k => { k with sending := some aReply, waiting := [aReply] }) dark
    let r := withLink (fun k => { k with sending := some aReply, stream := some (Stream.fresh 3) })
      (dark.modLog (fun g => { g with records := [aRecord] }))
    after (exec .replyFrameTransmitted s) (fun t => t.link.sending == some aReply && t.link.waiting.isEmpty) = true ∧
    after (exec .replyFrameTransmitted r) (fun t => t.link.sending.isNone && t.inFlight) = true ∧
    after (exec .replyFrameTransmitted (withLink (fun k => { k with sending := some aReply }) dark))
      (fun t => t.link.outstanding.isEmpty) = true := by decide

/-! ### Commands of the link -/

theorem test_beginAndTheLampTestsEnd :
    let s := { State.reset with now := 10, site := { SiteCtl.at .lamptest with lampTestAt := some 10 } }
    State.reset.passes .beginCmd [] = true ∧ dark.passes .beginCmd [] = true ∧
    after (exec (.beginCmd []) State.reset) (fun t => t.site.lampTestAt == some 10 && t.site.state == .lamptest) = true ∧
    after (exec .lampTestExpiry s) (fun t => t.site.state == .dark) = true ∧
    after (exec .lampTestExpiry { s with ovr := { s.ovr with preLevel := true } })
      (fun t => t.ovr.entries == [preemptEntry]) = true ∧
    after (exec .lampTestExpiry (withLamp 3 .green (fun r => { r with sensed := true }) s))
      (fun t => t.site.state == .failsafe && (t.lamp 3 .green).fault == .failedOn) = true := by decide

theorem test_readingsPass :
    let s := withLink (fun k => { k with held := { HeldSet.empty with slot := some 0 } }) metering
    let e := withLink (fun k => { k with held := { HeldSet.empty with slot := some 2 } }) metering
    [Cmd.getStatus, .readConfig, .readChannel, .readLamps, .readPlan, .readOverrides, .readMap, .readArbiter].map
      (fun c => metering.passes c []) = List.replicate 8 true ∧
    s.passes .readPlan [] = true ∧ s.slot 0 = some planA ∧ e.passes .readPlan [] = true ∧ e.slot 2 = none ∧
    metering.link.held.slot = none ∧ metering.arb.openRelease = none ∧ greenAt980.passes .readArbiter [] = true ∧
    greenAt980.arb.openRelease = some (0, 7) := by decide

theorem test_statusRecordBytes :
    metering.statusRecord = [4, 0, 0, 0xFF, 1, 0xFF, 0, 0xFF, 0, 0, 0, 0, 0, 0, 0] ∧
    (256 : Nat) < 65536 ∧ be16 (BitVec.ofNat 8 (65535 / 256)) (BitVec.ofNat 8 65535) = 65535 := by decide

theorem test_everyReadingCompletes :
    [Cmd.getStatus, .readConfig, .readChannel, .readLamps, .readOverrides, .readMap, .readArbiter].all (fun c =>
      metering.passes c [] && after (exec (c.instr []) metering) (fun t => t.link.outstanding.map Reply.status == [0x00])) =
      true := by decide

theorem test_readingsShowTheirFields :
    ((withLamp 0 .amber (fun r =>
      { r with commanded := .flash, output := .driven, fault := .failedOff, noticeOnly := true }) dark).lampsData
        (some 0)).drop 7 =
      [2, 1, 0, 0, 2, 2, 1, 0, 0, 0, 0, 2, 0, 0, 0] ∧
    (withEntries [queueEntry 1 300, { linkEntry .fixed with fixed := some 10 }] dark).overridesData =
      [2, 2, 2, 1, 1, 1, 0x2C, 0, 0, 1, 0, 0xFF, 0xFF, 0xFF, 0xFF, 0, 10, 0] ∧
    ({ dark with sel := { dark.sel with sel := .rangeHeld 2 9 (Bank.put (Bank.fill false) 8 true) } }.mapData.drop 17 =
      [2, 2, 9, 1, 0]) ∧
    aRecord.data = [0, 0, 5, 0x41, 0, 0, 7, 0xFF] := by decide

theorem test_noticesAreTakenByPriority :
    let s := withLink (fun k => { k with notices := 0x24, mask := 0x2F }) dark
    let u := openFrame .takeNotice s
    s.passes .takeNotice [] = true ∧ u.link.notices &&& u.link.mask &&& Notice.detector.bit ≠ 0 ∧
    ([Notice.failsafe, .lamp].map (fun m => u.link.notices &&& u.link.mask &&& m.bit) = [0, 0]) ∧
    (openFrame .takeNotice dark).link.notices &&& dark.link.mask = 0 ∧
    dark.passes .setNoticeMask [0] = true ∧ dark.passes .setTime [1, 2, 3] = true ∧
    after (exec (.takeNotice []) s) (fun t => t.link.notices == 0x04 && t.link.outstanding.map Reply.data == [[3, 4]]) =
      true ∧
    after (exec (.setTime [1, 2, 3]) dark) (fun t => t.siteTime == 0x010203) = true := by decide

theorem test_prefixesAreHeldAndIgnored :
    let s := withLink (fun k =>
      { k with held := { lane := some 1, slot := some 2, chan := some 3, since := some 995 } }) dark
    dark.passes .pfxLane [3] = true ∧ dark.passes .pfxLane [4] = true ∧ dark.passes .pfxPlan [15] = true ∧
    dark.passes .pfxPlan [16] = true ∧ dark.passes .pfxChannel [0] = true ∧ dark.passes .pfxChannel [16] = true ∧
    s.passes .pfxLane [3] = true ∧ s.passes .pfxPlan [15] = true ∧ s.passes .pfxChannel [15] = true ∧
    Cmd.pfxLane.isPrefix = true ∧
    after (exec (.pfxLane [3]) dark) (fun t => t.link.held == { HeldSet.empty with lane := some 3, since := some 1000 }) =
      true ∧
    after (exec (.pfxPlan [15]) s) (fun t => t.link.outstanding.map Reply.data == [[1, 2, 3, 1]]) = true := by decide

/-! ### Configuration -/

theorem test_setLaneOutcomes :
    let s := withLink (fun k => { k with held := { HeldSet.empty with lane := some 2 } }) (furnished dark)
    s.passes .setLane [3] = true ∧ s.passes .setLane [4] = true ∧ s.passes .setLane [1] = true ∧
    (s.site.state = .dark) ∧ s.desc.priority = some 2 ∧ s.link.held.lane.getD 0 = 2 ∧ (3 : Byte) = LaneMode.timed.code ∧
    metering.passes .setLane [3] = true ∧ metering.site.state = .metering ∧
    after (exec (.setLane [1]) s) (fun t => t.link.outstanding.map Reply.data == [[7]]) = true ∧
    after (exec (.setLane [2]) s) (fun t => t.mode 2 == .metered) = true := by decide

theorem test_setPriorityLaneOutcomes :
    let s := furnished dark
    let v := withChan 5 (fun c => { c with role := .advance, lane := some 2 }) s
    s.passes .setPriorityLane [0xFF] = true ∧ s.passes .setPriorityLane [4] = true ∧
    s.passes .setPriorityLane [3] = true ∧ s.mode 3 = .counted ∧ s.mode 0 = .metered ∧ (0xFF : Byte) = optByte (none : Option Lane) ∧
    v.passes .setPriorityLane [0] = true ∧ (v.chan 5).role = .advance ∧ (v.chan 5).lane = some 2 ∧
    after (exec (.setPriorityLane [0]) s) (fun t => t.desc.priority == some 0) = true ∧
    after (exec (.setPriorityLane [0]) v) (fun t => t.desc.priority == some 2) = true ∧
    (∀ c, (s.chan c).role ≠ .advance) ∧ metering.passes .setPriorityLane [0] = true := by decide

theorem test_setChannelOutcomes :
    let s := withLink (fun k => { k with held := { HeldSet.empty with lane := some 1, chan := some 4 } }) (furnished dark)
    let d := withChan 9 (fun c => { c with role := .stop, lane := some 1 }) s
    let f := withChan 4 (fun c => { c with role := .merge, health := .stuckOn, cause := some .continuous }) s
    s.passes .setChannel [1, 5, 0, 10, 2, 0x58] = true ∧ be16 0 10 = 10 ∧ be16 2 0x58 = 600 ∧
    chanSetOk s.desc.priority (s.chansWith 4 { role := .stop, lane := some 1, filter := 5, onLimit := 10, offLimit := 600 }) =
      true ∧
    chanSetOk d.desc.priority (d.chansWith 4 { role := .stop, lane := some 1, filter := 5, onLimit := 10, offLimit := 600 }) =
      false ∧
    (s.chan 4).changeFrom = none ∧ (s.chan 4).role ≠ .stop ∧ (f.chan 4).health ≠ .good ∧ d.passes .setChannel [1, 5, 0, 10, 2, 0x58] = true ∧
    after (exec (.setChannel [1, 5, 0, 10, 2, 0x58]) s) (fun t => (t.chan 4).role == .stop && (t.chan 4).lane == some 1) =
      true ∧
    after (exec (.setChannel [1, 5, 0, 10, 2, 0x58]) f) (fun t => t.link.notices == Notice.detector.bit) = true ∧
    after (exec (.setChannel [1, 5, 0, 10, 2, 0x58]) d) (fun t => t.link.outstanding.map Reply.data == [[7]]) = true := by
  decide

theorem test_setChannelRangesAndRepeats :
    let s := furnished dark
    let k : ChanConfig := { role := .merge, lane := none, filter := 1, onLimit := 0, offLimit := 0 }
    let m := withChan 0 (fun c => { c with role := .merge }) s
    s.passes .setChannel [8, 1, 0, 0, 0, 0] = true ∧ s.passes .setChannel [5, 6, 0, 0, 0, 0] = true ∧
    s.passes .setChannel [5, 1, 0, 9, 0, 0] = true ∧ (0 < be16 0 9 ∧ be16 0 9 < 10) ∧ 65000 < be16 0xFD 0xE9 ∧
    (0 < be16 2 0x57 ∧ be16 2 0x57 < 600) ∧ (m.chan 0).config = k ∧ m.passes .setChannel [5, 1, 0, 0, 0, 0] = true ∧
    chanSetOk m.desc.priority (m.chansWith 0 k) = true ∧ (m.chan 0).occupied = false ∧ (m.chan 0).changeFrom = none ∧
    ¬(metering.site.state = .dark ∨ metering.site.state = .failsafe) ∧ metering.passes .setChannel [5, 1, 0, 0, 0, 0] = true := by
  decide

theorem test_aChangedChannelIsComparedAtOnce :
    let s := withChan 0 (fun c =>
      { c with role := .merge, filter := 5, onLimit := 300, occupied := true, contOccupied := 12 }) (furnished dark)
    let p := withChan 0 (fun c => { c with changeFrom := some 998 }) s
    s.passes .setChannel [5, 2, 0, 11, 0, 0] = true ∧ (s.chan 0).config ≠
      { role := .merge, lane := none, filter := 2, onLimit := 11, offLimit := 0 } ∧ 998 + 2 ≤ p.now ∧
    be16 0 11 < (s.chan 0).contOccupied ∧
    after (exec (.setChannel [5, 2, 0, 11, 0, 0]) s) (fun t => (t.chan 0).health == .stuckOn &&
      t.link.notices == Notice.detector.bit) = true ∧
    after (exec (.setChannel [5, 2, 0, 12, 0, 0]) s) (fun t => (t.chan 0).health == .good && (t.chan 0).occupied) = true ∧
    after (exec (.setChannel [5, 2, 0, 11, 0, 0]) p) (fun t => (t.chan 0).health == .good && !(t.chan 0).occupied) = true ∧
    after (exec (.setChannel [5, 3, 0, 0, 0, 0]) p) (fun t => (t.chan 0).occupied && (t.chan 0).changeFrom == some 998) =
      true := by decide

theorem test_setTimingOutcomes :
    let s := { dark with det := { dark.det with merge := { state := .settling, settleFrom := some 990 }, periodFrom := 800 } }
    s.passes .setTiming [7, 0, 10] = true ∧ Param.all[(7 : Byte).toNat - 1]? = some .mergeSettle ∧
    Param.mergeSettle.inRange (be16 0 10) = true ∧ Param.mergeSettle.inRange (be16 0 51) = false ∧
    s.par .mergeSettle ≠ be16 0 10 ∧ s.passes .setTiming [0, 0, 0] = true ∧ s.passes .setTiming [23, 0, 0] = true ∧
    s.passes .setTiming [21, 0, 200] = true ∧ Param.all[(21 : Byte).toNat - 1]? = some .occupancyPeriod ∧
    s.par .occupancyPeriod ≠ be16 0 200 ∧ s.det.periodFrom + be16 0 200 ≤ s.now ∧
    Param.linkLoss.inRange 0 = true ∧ metering.passes .setTiming [7, 0, 10] = true ∧
    after (exec (.setTiming [7, 0, 10]) s) (fun t => t.det.merge.state == .clear && t.par .mergeSettle == 10) = true ∧
    after (exec (.setTiming [21, 0, 200]) s) (fun t => t.det.periodFrom == 1000) = true := by decide

theorem test_aStrayIsComparedAtOnce :
    let s := withLamp 0 .red (fun r => { r with sensed := true, proving := .proving, window := some 998 }) dark
    s.passes .setTiming [10, 0, 2] = true ∧ Param.all[(10 : Byte).toNat - 1]? = some .lampProve ∧
    Param.lampProve.inRange (be16 0 2) = true ∧ s.par .lampProve ≠ be16 0 2 ∧
    (s.lamp 0 .red).strayFor 2 s.now = true ∧ (s.lamp 0 .red).strayFor 4 s.now = false ∧
    after (exec (.setTiming [10, 0, 2]) s) (fun t => (t.lamp 0 .red).fault == .failedOn && t.handoffs == [.report]) = true ∧
    after (exec (.setTiming [10, 0, 4]) s) (fun t => (t.lamp 0 .red).fault == .none && t.handoffs.isEmpty) = true ∧
    after (exec (.setTiming [21, 4, 0xB0]) { s with det := { s.det with periodFrom := 700 } })
      (fun t => t.det.periodFrom == 700 && t.par .occupancyPeriod == 1200) = true := by decide

theorem test_resetChannelOutcomes :
    let s := withChan 0 (fun c => { c with role := .demand, lane := some 0, health := .stuckOn, cause := some .noShow })
      metering
    s.passes .resetChannel [] = true ∧ s.link.held.chan.getD 0 = 0 ∧ (s.chan 0).health ≠ .good ∧
    metering.passes .resetChannel [] = true ∧ (metering.chan 0).health = .good ∧
    after (exec (.resetChannel []) s) (fun t => (t.chan 0).health == .good && t.link.notices == 0x20) = true := by decide

/-! ### The site and the lamps -/

theorem test_startMeteringOutcomes :
    let s := furnished dark
    s.passes .startMetering [] = true ∧ s.site.state = .dark ∧ s.plans.active ≠ none ∧ s.mode 0 = .metered ∧
    dark.passes .startMetering [] = true ∧ dark.plans.active = none ∧
    { s with desc := dark.desc }.passes .startMetering [] = true ∧
    (∀ l, { s with desc := dark.desc }.mode l = .unused) ∧ metering.passes .startMetering [] = true ∧
    after (exec (.startMetering []) s) (fun t => t.site.warningAt == some 1100 && (t.lane 2).state == .warning &&
      (t.lane 3).state == .off && (t.lamp 0 .amber).commanded == .flash && t.lamps.sign == .flash) = true := by decide

theorem test_stopMeteringOutcomes :
    let w := { furnished (at1000 .starting) with lanes := Quad.all { LaneRec.reset with state := .warning } }
    dark.passes .stopMetering [] = true ∧ w.passes .stopMetering [] = true ∧ greenAt980.passes .stopMetering [] = true ∧
    metering.passes .stopMetering [] = true ∧
    after (exec (.stopMetering []) w) (fun t => t.site.state == .dark && (t.lane 0).state == .off) = true ∧
    after (exec (.stopMetering []) greenAt980) (fun t => t.site.state == .stopping && (t.lane 0).state == .opened &&
      (t.lane 0).onsetAt == some 980 && (t.lane 1).state == .opened && t.site.stopFlushAt == some 1150 &&
      t.handoffs.contains (.releaseEnd 0 7)) = true := by decide

theorem test_stopMeteringEndsACutGreen :
    let s := withEntries [spillEntry 5] cutGreen
    cutGreen.passes .stopMetering [] = true ∧ (cutGreen.lane 0).state = .green ∧
    (∀ m, m ≠ 0 → (cutGreen.lane m).state ≠ .green) ∧
    after (exec (.stopMetering []) cutGreen) (fun t => cutOnce t && t.handoffs == [.releaseEnd 0 7]) = true ∧
    after (exec (.stopMetering []) greenAt980) (fun t => t.log == greenAt980.log) = true ∧
    after (exec (.stopMetering []) s) (fun t => cutOnce t && t.link.notices == Notice.override.bit &&
      t.handoffs == [.arbiterGov none, .laneGov 0 none, .laneGov 1 none, .laneGov 2 none, .laneGov 3 none,
        .releaseEnd 0 7]) = true := by decide

theorem test_theStopFlushEndsInDark :
    let s := { at1000 .stopping with
      site := { SiteCtl.at .stopping with stopFlushAt := some 1000 }
      lanes := ⟨{ LaneRec.reset with state := .opened }, LaneRec.reset, LaneRec.reset, LaneRec.reset⟩ }
    s.resetIn = false ∧ s.site.stopFlushAt = some 1000 ∧
    after (exec .stopFlushExpiry s) (fun t => t.site.state == .dark && (t.lane 0).state == .off) = true := by decide

theorem test_siteResetOutcomes :
    greenAt980.passes .siteReset [] = true ∧ (at1000 .failsafe).passes .siteReset [] = true ∧
    after (exec (.siteReset []) (withHand (.releaseEnd 0 7) (withEntries fourEntries greenAt980)))
      (fun t => t.site.state == .dark && t.handoffs.all (fun h => !isReleaseEnd 0 h) && t.ovr.entries.isEmpty &&
        t.arb.openRelease.isNone) = true ∧
    after (exec (.siteReset []) (at1000 .failsafe)) (fun t => t.site.state == .failsafe) = true := by decide

theorem test_siteResetInDarkRaisesWhatChanged :
    let held := dark.modOvr (fun o => { o with preLevel := true, entries := [preemptEntry] })
    dark.passes .siteReset [] = true ∧ held.passes .siteReset [] = true ∧
    after (exec (.siteReset []) dark) (fun t => t.link.notices == 0) = true ∧
    after (exec (.siteReset []) held) (fun t => t.link.notices == Notice.override.bit && t.ovr.entries == [preemptEntry]) =
      true ∧
    after (exec (.siteReset []) metering) (fun t => t.link.notices == Notice.site.bit) = true := by decide

theorem test_clearFailsafeOutcomes :
    let s := withLamp 1 .red (fun r => { r with fault := .failedOff, proving := .unproven, retries := 0 }) (at1000 .failsafe)
    s.passes .clearFailsafe [] = true ∧ dark.passes .clearFailsafe [] = true ∧
    (withLamp 1 .red (fun r => { r with sensed := true }) s).passes .clearFailsafe [] = true ∧
    ([Colour.red, .amber, .green].all (fun col => allLanes.all (fun l => !(s.lamp l col).sensed)) = true) ∧
    after (exec (.clearFailsafe []) s) (fun t => t.site.state == .dark && (t.lamp 1 .red).fault == .none) = true ∧
    after (exec (.clearFailsafe []) { s with ovr := { s.ovr with preLevel := true } })
      (fun t => t.ovr.entries == [preemptEntry]) = true := by decide

theorem test_clearFailsafeLeavesEveryLampProven :
    let s := withLamp 1 .red (fun r =>
      { r with fault := .failedOn, proving := .proving, window := some 990, retries := 0 }) (at1000 .failsafe)
    after (exec (.clearFailsafe []) s) (fun t => (t.lamp 1 .red).proving == .proven && (t.lamp 1 .red).window.isNone &&
      (t.lamp 1 .red).retries == 2) = true := by decide

theorem test_clearAmberFaultOutcomes :
    let f := fun (c : LampCmd) (r : LampRec) => { r with
      commanded := c, fault := LampFault.failedOff, noticeOnly := true, proving := .unproven, retries := 0 }
    let s := withLamp 0 .amber (f .on) (withLamp 1 .amber (f .off) (withLamp 2 .amber (fun r =>
      { f .flash r with phaseEnd := some 1003 }) metering))
    s.passes .clearAmberFault [] = true ∧ s.link.held.lane = none ∧ (s.lamp 0 .amber).noticeOnly = true ∧
    (withLink (fun k => { k with held := { HeldSet.empty with lane := some 3 } }) s).passes .clearAmberFault [] = true ∧
    after (exec (.clearAmberFault []) s) (fun t => (t.lamp 0 .amber).window == some 1000 &&
      (t.lamp 1 .amber).proving == .proven && (t.lamp 2 .amber).proving == .proving &&
      (t.lamp 0 .amber).fault == .none) = true := by decide

theorem test_aClearedFlashStartsAWholeOnPhase :
    let s := withLamp 2 .amber (fun r =>
      { r with
        commanded := .flash, output := .driven, fault := .failedOff, noticeOnly := true, proving := .unproven, retries := 0
        phaseEnd := some 1001 }) metering
    s.passes .clearAmberFault [] = true ∧
    after (exec (.clearAmberFault []) s) (fun t => (t.lamp 2 .amber).phaseEnd == some 1005 &&
      !(t.lamp 2 .amber).phaseSeen && (t.lamp 2 .amber).proving == .proving && (t.lamp 2 .amber).retries == 2) = true := by
  decide

/-! ### Plans -/

theorem test_writePlanOutcomes :
    let s := withLink (fun k => { k with held := { HeldSet.empty with slot := some 7 } }) (furnished dark)
    let g := { s with plans := { s.plans with guarded := s.plans.guarded.set 1 true } }
    let z := furnished dark
    planA.valid = true ∧ s.passes .writePlan planA.data = true ∧ g.passes .writePlan planA.data = true ∧
    g.plans.guarded.get (groupOf 7) = true ∧ z.passes .writePlan planA.data = true ∧ z.plans.active = some 0 ∧
    s.passes .erasePlan [] = true ∧ g.passes .erasePlan [] = true ∧ z.passes .erasePlan [] = true ∧
    after (exec (.writePlan planA.data) s) (fun t => t.slot 7 == some planA) = true ∧
    after (exec (.writePlan planA.data) z) (fun t => t.link.outstanding.map Reply.data == [[3]]) = true ∧
    after (exec (.erasePlan []) g) (fun t => t.link.outstanding.map Reply.data == [[2]]) = true := by decide

theorem test_planRecordsOutOfRange :
    let s := furnished dark
    s.passes .writePlan [0, 7, 0, 7, 1, 1, 1, 1, 1, 0] = true ∧ be16 0 7 < 8 ∧ 600 < be16 2 0x59 ∧
    ({ planA with interval := 600, flushInterval := 600, size := 3, weights := ⟨7, 0, 0, 0⟩, prioEvery := 15 } : Plan).valid =
      true ∧
    [[2, 0x59, 0, 8, 1, 1, 1, 1, 1, 0], [0, 8, 0, 9, 1, 1, 1, 1, 1, 0], [0, 8, 0, 8, 0, 1, 1, 1, 1, 0],
      [0, 8, 0, 8, 4, 1, 1, 1, 1, 0], [0, 8, 0, 8, 1, 8, 1, 1, 1, 0], [0, 8, 0, 8, 1, 0, 0, 0, 0, 0],
      [0, 8, 0, 8, 1, 1, 1, 1, 1, 16], [0, 7, 0, 7, 1, 1, 1, 1, 1, 0]].map (fun args =>
        after (exec (.writePlan args) s) (fun t => t.link.outstanding.map Reply.status == [0x04])) =
      List.replicate 8 true := by decide

theorem test_selectPlanOutcomes :
    let h := fun (o : Option Slot) => withLink (fun k => { k with held := { HeldSet.empty with slot := o } })
    let s := (furnished dark).modArb (fun a => { a with credit := ⟨1, 2, 0, 3⟩ })
    (h (some 1) s).passes .selectPlan [] = true ∧ (h (some 1) metering).passes .selectPlan [] = true ∧
    (h (some 2) s).passes .selectPlan [] = true ∧ (h (some 2) s).slot 2 = none ∧ (h none s).passes .selectPlan [] = true ∧
    after (exec (.selectPlan []) (h (some 1) s)) (fun t => t.plans.active == some 1 && t.arb.credit == ⟨0, 1, 0, 3⟩) =
      true ∧
    after (exec (.selectPlan []) (h (some 1) metering)) (fun t => t.plans.staged == some 1 && t.plans.active == some 0) =
      true ∧
    after (exec (.selectPlan []) (h (some 0) metering)) (fun t => t.plans.staged == none) = true := by decide

theorem test_protectGroupOutcomes :
    dark.passes .protectGroup [3] = true ∧ dark.passes .protectGroup [4] = true ∧
    dark.passes .unprotectGroup [3] = true ∧ dark.passes .unprotectGroup [4] = true ∧
    after (exec (.protectGroup [3]) dark) (fun t => t.plans.guarded == ⟨false, false, false, true⟩) = true := by decide

/-! ### Overrides -/

theorem test_pushOverrideOutcomes :
    let s := withEntries [linkEntry .close, linkEntry .fixed] dark
    let l := withLink (fun k => { k with held := { HeldSet.empty with lane := some 1 } }) s
    let full := withEntries [preemptEntry, linkEntry .close, spillEntry 5, queueEntry 1 6] dark
    s.passes .pushOverride [3, 0, 10, 0, 0] = true ∧ l.passes .pushOverride [2, 0xEA, 0x60, 0, 0] = true ∧
    full.passes .pushOverride [1, 0, 0, 0, 8] = true ∧ be16 0xEA 0x60 = 60000 ∧
    (at1000 .failsafe).passes .pushOverride [3, 0, 0, 0, 0] = true ∧
    (∀ f ∈ full.ovr.entries, f.kind = .fixed → f.source ≠ .link) ∧ full.ovr.entries.length = 4 ∧
    after (exec (.pushOverride [2, 0, 10, 0, 0]) l) (fun t => t.ovr.entries == [linkEntry .close,
      { linkEntry .flush with lanes := some 1, limit := some 10 }, linkEntry .fixed] && t.handoffs.isEmpty) = true ∧
    after (exec (.pushOverride [3, 0, 10, 0, 0]) s) (fun t =>
      t.ovr.entries == [{ linkEntry .close with limit := some 10 }, linkEntry .fixed]) = true ∧
    after (exec (.pushOverride [1, 0, 0, 0, 8]) full) (fun t => t.link.outstanding.map Reply.data == [[4]]) = true := by
  decide

theorem test_pushOverrideRanges :
    [[0, 0, 0, 0, 0], [5, 0, 0, 0, 0], [3, 0, 9, 0, 0], [3, 0xEA, 0x61, 0, 0], [1, 0, 0, 0, 7], [1, 0, 0, 2, 0x59]].map
      (fun args => dark.passes .pushOverride args && after (exec (.pushOverride args) dark) (fun t =>
        t.link.outstanding.map Reply.status == [0x04] && t.ovr.entries.isEmpty)) = List.replicate 6 true := by decide

theorem test_automaticPushes :
    let full := withEntries fourEntries dark
    (automaticPush (queueEntry 1 100) full).ovr.entries =
      [preemptEntry, linkEntry .close, queueEntry 1 100, spillEntry 5] ∧
    (automaticPush (spillEntry 100) full).ovr.entries =
      [preemptEntry, linkEntry .close, spillEntry 100, { linkEntry .fixed with fixed := some 10 }] ∧
    full.ovr.entries.length = 4 ∧ dark.ovr.entries.length < 4 ∧
    (automaticPush preemptEntry dark).link.notices = Notice.override.bit ∧
    (∀ f ∈ full.ovr.entries, ¬(f.kind = (queueEntry 1 100).kind ∧ f.source = (queueEntry 1 100).source)) := by decide

theorem test_anEvictionHandsTheNewGoverningEntryOn :
    let s := withEntries
      [linkEntry .close, spillEntry 5, queueEntry 0 5, { linkEntry .fixed with fixed := some 10 }] dark
    let g := some preemptEntry.gov
    s.ovr.entries.length = 4 ∧ (∀ f ∈ s.ovr.entries, ¬(f.kind = preemptEntry.kind ∧ f.source = preemptEntry.source)) ∧
    s.ovr.entries.getLast?.map (fun f => decide (rankOf f.kind < rankOf .clearout)) = some true ∧
    (automaticPush preemptEntry s).ovr.entries = [preemptEntry, linkEntry .close, spillEntry 5, queueEntry 0 5] ∧
    (automaticPush preemptEntry s).handoffs = [.arbiterGov g, .laneGov 0 g, .laneGov 1 g, .laneGov 2 g, .laneGov 3 g] ∧
    (automaticPush (queueEntry 1 5) (automaticPush preemptEntry s)).ovr = (automaticPush preemptEntry s).ovr := by decide

theorem test_removeOverrideOutcomes :
    let s := withEntries fourEntries dark
    s.passes .removeOverride [3] = true ∧ s.passes .removeOverride [4] = true ∧ s.passes .removeOverride [0] = true ∧
    s.passes .removeOverride [5] = true ∧ (3 : Byte) = kindCode .close ∧
    (∀ f ∈ s.ovr.entries, f.kind = .clearout → f.source ≠ .link) ∧
    after (exec (.removeOverride [3]) s) (fun t => t.ovr.entries.length == 3) = true ∧
    after (exec (.removeOverride [4]) s) (fun t => t.link.outstanding.map Reply.data == [[9]]) = true := by decide

/-! ### The band map -/

theorem test_mapEditing :
    let f := dark.modSel (fun q => { q with sel := .fromHeld 3 })
    let r := dark.modSel (fun q => { q with sel := .rangeHeld 3 5 (Bank.put (Bank.fill false) 4 true) })
    dark.passes .mapFrom [15] = true ∧ dark.passes .mapFrom [16] = true ∧ f.passes .mapTo [3] = true ∧
    f.passes .mapTo [2] = true ∧ r.passes .mapSkip [5] = true ∧ r.passes .mapSkip [6] = true ∧
    r.passes .mapAssign [0xFF] = true ∧ r.passes .mapAssign [16] = true ∧ dark.passes .mapAssign [0] = true ∧
    dark.sel.sel = .none ∧ r.sel.sel ≠ .none ∧
    after (exec (.mapTo [3]) f) (fun t => t.sel.sel == .rangeHeld 3 3 (Bank.fill false)) = true ∧
    after (exec (.mapTo [2]) f) (fun t => t.sel.sel == .none) = true ∧
    after (exec (.mapAssign [7]) r) (fun t => [2, 3, 4, 5, 6].map (fun d => Bank.at t.sel.map d) ==
      [none, some 7, none, some 7, none]) = true ∧
    after (exec (.mapAssign [7]) dark) (fun t => t.link.outstanding.map Reply.status == [0x08]) = true := by decide

/-! ### The log and the counters -/

theorem test_streamsStart :
    let s := dark.modLog (fun g => { g with records := [aRecord] })
    dark.passes .streamLog [0] = true ∧ s.passes .streamLog [255] = true ∧ s.passes .stopStream [] = true ∧
    (openFrame .streamLog s).link.outstanding = [] ∧
    (openFrame .streamLog (withLink (fun k => { k with sending := some aReply }) s)).link.sending ≠ none ∧
    after (exec (.streamLog [255]) s) (fun t => t.inFlight && t.link.outstanding.isEmpty) = true ∧
    after (exec (.streamLog [0]) dark) (fun t => t.link.outstanding.map Reply.data == [[0, 0]]) = true := by decide

theorem test_logStateAndCounts :
    let s := metering.modLog (fun g => { g with records := [aRecord], lost := 300, lanes := Quad.all ⟨1, 2, 3, 4⟩ })
    let h := withLink (fun k => { k with held := { HeldSet.empty with lane := some 1 } }) s
    s.passes .readLogState [] = true ∧ s.passes .readCounts [] = true ∧ h.passes .readCounts [] = true ∧
    s.passes .clearCounts [] = true ∧ h.passes .clearCounts [] = true ∧
    after (exec (.readLogState []) s) (fun t => t.log.lost == 0 && t.link.outstanding.map Reply.data == [[0, 1, 1, 44]]) =
      true ∧
    after (exec (.readCounts []) h) (fun t => t.link.outstanding.map Reply.data == [[0, 1, 0, 2, 0, 3, 0, 4]]) = true ∧
    after (exec (.clearCounts []) h) (fun t => t.log.lanes == ⟨⟨1, 2, 3, 4⟩, ⟨0, 0, 0, 0⟩, ⟨1, 2, 3, 4⟩, ⟨1, 2, 3, 4⟩⟩) =
      true := by decide

theorem test_theLogAtItsMarks :
    let s := fun (n lost : Nat) => (streaming 0 0 []).modLog (fun g =>
      { g with records := List.replicate n { aRecord with time := 1 }, lost := lost })
    let lost := fun (u : State) => (u.link.stream.bind Stream.flight).map Flight.overwritten
    (writeRec aRecord (s 190 0)).link.notices = 0 ∧ (writeRec aRecord (s 191 0)).link.notices = Notice.log.bit ∧
    (writeRec aRecord (s 192 0)).link.notices = 0 ∧ (writeRec aRecord (s 255 0)).log.records.length = 256 ∧
    lost (writeRec aRecord (s 255 0)) = some false ∧
    (writeRec aRecord (s 256 0)).log.records.length = 256 ∧
    (writeRec aRecord (s 256 0)).log.records.getLast? = some aRecord ∧
    (writeRec aRecord (s 256 0)).log.lost = 1 ∧ lost (writeRec aRecord (s 256 0)) = some true ∧
    (writeRec aRecord (s 256 0)).link.notices = Notice.log.bit ∧ (writeRec aRecord (s 256 1)).link.notices = 0 ∧
    (writeRec aRecord (s 256 65535)).log.lost = 65535 := by decide +kernel

/-! ### The detector monitor -/

theorem test_detectorInputs :
    let z := withChan 0 (fun c => { c with filter := 0 }) metering
    let p := withChan 0 (fun c => { c with input := true, changeFrom := some 999 }) metering
    (metering.chan 0).input ≠ true ∧ (metering.chan 0).occupied ≠ true ∧ 0 < (metering.chan 0).filter ∧
    (z.chan 0).filter = 0 ∧ (p.chan 0).input ≠ false ∧ (p.chan 0).occupied = false ∧
    after (exec (.detectorInputChange 0 false) metering) (· == metering) = true ∧
    after (exec (.detectorInputChange 0 true) z) (fun t => (t.chan 0).occupied && (t.chan 0).count == 1) = true ∧
    after (exec (.detectorInputChange 0 false) p) (fun t => (t.chan 0).changeFrom.isNone) = true ∧
    after (exec (.detectorInputChange 0 true) { metering with resetIn := true }) (fun t =>
      (t.chan 0).changeFrom == some 0) = true := by decide

theorem test_actuations :
    let s := fun (r : Role) (h : Health) => withChan 0 (fun c =>
      { c with
        role := r, health := h, lane := if r = .advance then some 2 else none, input := true, changeFrom := some 999
        cause := if h = .stuckOff then some .noActuation else none }) metering
    (s .advance .good).resetIn = false ∧ ((s .advance .good).chan 0).occupied = false ∧
    999 + ((s .advance .good).chan 0).filter ≤ (s .advance .good).now ∧
    after (exec (.actuation 0) (s .advance .good)) (fun t => t.handoffs.contains .advance) = true ∧
    after (exec (.actuation 0) (s .merge .good)) (fun t => t.det.merge.state == .busy &&
      t.handoffs.contains (.busyEntry 3)) = true ∧
    after (exec (.actuation 0) (s .mainline .stuckOff)) (fun t => (t.chan 0).health == .good && t.link.notices == 0x20) =
      true := by decide

/-- Lane 0's GOOD STOP channel is channel 0, occupied, its clearing due now. -/
def clearingDue (s : State) : State :=
  withChan 0 (fun c => { c with role := .stop, lane := some 0, occupied := true, changeFrom := some 999 }) s

theorem test_clearings :
    let s := clearingDue greenAt980
    let stuck := withChan 0 (fun c => { c with health := .stuckOn, cause := some .continuous }) s
    s.resetIn = false ∧ (s.chan 0).occupied = true ∧ (s.chan 0).changeFrom = some 999 ∧ 999 + (s.chan 0).filter ≤ s.now ∧
    s.mode 0 ≠ .unused ∧ s.log.records.length < 255 ∧ (stuck.chan 0).health ≠ .good ∧
    after (exec (.clearing 0) s) (fun t => (t.lane 0).passages == 1 &&
      t.log.records.map PassRec.kind == [.released] && (t.log.lanes.get 0).passages == 1) = true ∧
    after (exec (.clearing 0) stuck) (fun t => t.log.records.isEmpty && (t.chan 0).health == .good) = true := by decide

theorem test_aPassageOfACutGreen :
    let s := clearingDue cutGreen
    let full := { s with log := { s.log with records := List.replicate 256 aRecord } }
    (s.lane 0).cut = true ∧ full.log.records.length = 256 ∧
    after (exec (.clearing 0) s) (fun t => (t.lane 0).state == .amber && t.log.slip.cuts == 1 &&
      t.log.records.map PassRec.kind == [.released, .cut] &&
      t.log.records.map PassRec.shortfall == [none, some 1]) = true ∧
    after (exec (.clearing 0) (withLane 0 (fun r => { r with onsetAt := some 995 }) s))
      (fun t => (t.lane 0).state == .green && t.log.records.map PassRec.kind == [.released] && t.log.slip.cuts == 0) = true ∧
    after (exec (.clearing 0) full) (fun t => t.log.lost == 2 && t.log.records.length == 256 &&
      (t.log.records.drop 254).map PassRec.kind == [.released, .cut]) = true := by decide

theorem test_theMergeFollowsItsChannels :
    let s := fun (h : Health) => { withChan 0 (fun c =>
      { c with role := .merge, health := h, occupied := true, changeFrom := some 999 }) metering with
        det := { (withChan 0 (fun c =>
          { c with role := .merge, health := h, occupied := true, changeFrom := some 999 }) metering).det with
            merge := { state := .busy, settleFrom := none } } }
    after (exec (.clearing 0) (s .good)) (fun t => t.det.merge == { state := .settling, settleFrom := some 1000 } &&
      t.handoffs == [.mergeChange, .request 0, .request 1, .request 2]) = true ∧
    after (exec (.clearing 0) (withPar .mergeSettle 0 (s .good))) (fun t => t.det.merge.state == .clear) = true ∧
    after (exec (.clearing 0) (s .stuckOff)) (fun t => t.det.merge.state == .clear && t.link.notices == 0) = true ∧
    after (exec (.stuckOnExpiry 0) (withChan 0 (fun c => { c with onLimit := 10, contOccupied := 11 }) (s .good)))
      (fun t => t.det.merge.state == .clear) = true := by decide

theorem test_aPassageEndsAGreenEarly :
    let s := fun (n : Nat) => clearingDue (withLane 0 (fun r => { r with passages := n }) greenAt980)
    ((s 1).lane 0).size = some 2 ∧ ((s 1).lane 0).greenFor = some 30 ∧ 980 + (s 1).par .minGreen ≤ (s 1).now ∧
    (s 1).now < 980 + 30 ∧ ((s 1).lane 0).cut = false ∧
    after (exec (.clearing 0) (s 1)) (fun t => (t.lane 0).state == .amber && (t.lane 0).passages == 2 &&
      t.handoffs == [.releaseEnd 0 7, .request 1, .request 2]) = true ∧
    after (exec (.clearing 0) (s 0)) (fun t => (t.lane 0).state == .green && (t.lane 0).passages == 1) = true ∧
    after (exec (.clearing 0) (withLane 0 (fun r => { r with onsetAt := some 995 }) (s 1)))
      (fun t => (t.lane 0).state == .green && (t.lane 0).passages == 2) = true := by decide

theorem test_demandIsAskedAndWithdrawn :
    let s := fun (occ : Bool) => withChan 1 (fun c =>
      { c with role := .demand, lane := some 0, occupied := occ, changeFrom := some 999 }) metering
    let q := withLane 0 (fun r => { r with inQueue := true }) (withArb (fun a => { a with queue := [0] }) (s true))
    (s false).asks 0 = [] ∧ (s true).asks 0 = [.request 0] ∧
    after (exec (.actuation 1) (s false)) (fun t => t.handoffs == [.request 0, .request 1, .request 2]) = true ∧
    after (exec (.clearing 1) q) (fun t => t.handoffs == [.withdrawal 0, .request 1, .request 2]) = true ∧
    after (exec (.clearing 1) (s true)) (fun t => t.handoffs == [.request 1, .request 2]) = true := by decide

theorem test_passageKindsAtRedOnset :
    let s := fun (now : Nat) => clearingDue (withLane 0 (fun r => { r with state := .red, entryAt := 995, grant := some 7 })
      { metering with now := now })
    (s 1000).par .redGrace = 5 ∧
    after (exec (.clearing 0) (s 1000)) (fun t => t.log.records.map PassRec.kind == [.late]) = true ∧
    after (exec (.clearing 0) (s 1001)) (fun t => t.log.records.map PassRec.kind == [.violation] &&
      (t.log.lanes.get 0).violations == 1) = true := by decide

theorem test_stuckChannels :
    let s := withChan 0 (fun c =>
      { c with
        role := .demand, lane := some 0, onLimit := 10, offLimit := 600, occupied := true, contOccupied := 11
        sinceActuation := 601 }) metering
    (s.chan 0).health = .good ∧ (s.chan 0).onLimit < (s.chan 0).contOccupied ∧
    (s.chan 0).offLimit < (s.chan 0).sinceActuation ∧ s.site.state = .metering ∧
    (withHand (.claim 0 0) s).waiting (isClaim 0) = some (.claim 0 0) ∧
    after (exec (.stuckOnExpiry 0) s) (fun t => (t.chan 0).cause == some .continuous && t.now == 1000) = true ∧
    after (exec (.stuckOffExpiry 0) s) (fun t => (t.chan 0).cause == some .noActuation && t.now == 1000) = true ∧
    after (exec (.noShowClaim 0) (withHand (.claim 0 0) s)) (fun t => (t.chan 0).cause == some .noShow) = true ∧
    after (exec (.noShowClaim 0) (withHand (.claim 0 1) s)) (fun t => (t.chan 1).health == .good) = true ∧
    (s.chan 1).role ≠ .demand := by decide

theorem test_monitorsTrigger :
    let m := fun (st : MonState) (b : Bool) (t0 : Nat) => ({ state := st, spell := some { occupied := b, since := t0 } } : Monitor)
    let s := fun (x : Monitor) => { metering with det := { metering.det with queue := Quad.all x, spill := x } }
    (s (m .watching true 900)).par .queueOn = 100 ∧ (s (m .watching true 950)).par .spillOn = 50 ∧
    after (exec (.queueOnReached 1) (s (m .watching true 900))) (fun t => t.now == 1000 &&
      t.ovr.entries == [queueEntry 1 1200] && (t.det.queue.get 1).state == .triggered) = true ∧
    after (exec .spillOnReached (s (m .watching true 950))) (fun t => t.ovr.entries == [spillEntry 1200]) = true ∧
    after (exec (.queueOffReached 1) (withEntries [queueEntry 1 9] (s (m .triggered false 950)))) (fun t =>
      t.ovr.entries.isEmpty && t.now == 1000) = true ∧
    after (exec .spillOffReached (withEntries [spillEntry 9] (s (m .triggered false 900)))) (fun t =>
      t.ovr.entries.isEmpty) = true ∧
    after (exec (.queueOffReached 1) (s (m .spent false 950))) (fun t => (t.det.queue.get 1).state == .watching) = true ∧
    after (exec .spillOffReached (s (m .spent false 900))) (fun t => t.det.spill.state == .watching) = true := by decide

theorem test_spellsFollowTheirReadings :
    let c := fun (r : Role) (occ : Bool) => withChan 5 (fun q =>
      { q with role := r, lane := if r = .queue then some 0 else none, occupied := occ, changeFrom := some 999 }) metering
    after (exec (.actuation 5) (c .queue false)) (fun t => t.det.queue.get 0 ==
      { state := .watching, spell := some { occupied := true, since := 1000 } }) = true ∧
    after (exec (.clearing 5) (c .spill true)) (fun t => t.det.spill ==
      { state := .watching, spell := some { occupied := false, since := 1000 } }) = true ∧
    after (exec (.clearing 5) { c .queue true with site := SiteCtl.at .dark }) (fun t =>
      t.det.queue.get 0 == Monitor.reset) = true := by decide

theorem test_theMergeSettles :
    let s := { metering with det := { metering.det with merge := { state := .settling, settleFrom := some 985 } } }
    985 + s.par .mergeSettle ≤ s.now ∧
    after (exec .mergeSettleExpiry s) (fun t => t.det.merge.state == .clear && t.handoffs == [.mergeChange]) = true := by
  decide

/-- A period that closes now with one MAINLINE channel occupied a third of it; LOCAL under MAP, band 5 names `e`. -/
def closing (st : SiteState) (e : Option Slot) : State :=
  let s := withChan 0 (fun c => { c with role := .mainline, occupiedPeriod := 100 })
    (withPar .localAction 1 (furnished (at1000 st)))
  { s with
    det := { s.det with periodFrom := 700 }
    link := { s.link with mode := .localMode }
    sel := { s.sel with map := Bank.put s.sel.map 5 e } }

theorem test_periodsClose :
    (closing .dark (some 1)).occupancyNow = some 33 ∧ bandOf 33 = 5 ∧ bandOf 100 = 15 ∧
    700 + (closing .dark (some 1)).par .occupancyPeriod ≤ (closing .dark (some 1)).now ∧
    dark.det.periodFrom + dark.par .occupancyPeriod ≤ dark.now ∧ dark.occupancyNow = none ∧
    (closing .dark (some 1)).slot 1 ≠ none ∧ (closing .dark (some 2)).slot 2 = none ∧
    (closing .dark (some 1)).sequenced 0 = true ∧
    (∀ l, { closing .dark (some 1) with desc := withPar .localAction 1 dark |>.desc }.sequenced l = false) ∧
    after (exec .occupancyPeriodClose (closing .dark (some 1))) (fun t => t.site.state == .starting &&
      t.plans.active == some 1 && t.sel.lastBand == some 5 && t.det.occupancy == some 33) = true ∧
    after (exec .occupancyPeriodClose (closing .metering none)) (fun t => t.site.state == .stopping) = true ∧
    after (exec .occupancyPeriodClose (closing .metering (some 1))) (fun t => t.plans.staged == some 1) = true ∧
    after (exec .occupancyPeriodClose (closing .dark (some 2))) (fun t => t.site.state == .dark) = true := by decide

/-! ### The override stack's events, and the governing entry -/

theorem test_preemption :
    let s := dark.modOvr (fun o => { o with preInput := true, preFrom := some 995 })
    let r := withEntries [preemptEntry] (dark.modOvr (fun o => { o with preLevel := true, preFrom := some 995 }))
    995 + 5 ≤ s.now ∧ s.ovr.preLevel = false ∧ r.ovr.preLevel = true ∧
    after (exec .preemptionAssertion s) (fun t => t.ovr.entries == [preemptEntry] && t.now == 1000) = true ∧
    after (exec .preemptionAssertion { s with site := SiteCtl.at .failsafe }) (fun t => t.ovr.entries.isEmpty &&
      t.ovr.preLevel) = true ∧
    after (exec .preemptionRelease r) (fun t => t.ovr.entries.isEmpty && t.link.notices == 0x10) = true ∧
    after (exec .preemptionRelease { r with site := SiteCtl.at .lamptest }) (fun t => !t.ovr.preLevel) = true ∧
    after (exec (.preemptionInputChange true) dark) (fun t => t.ovr.preFrom == some 1000) = true ∧
    after (exec (.preemptionInputChange true) { dark with resetIn := true }) (fun t => t.ovr.preFrom == some 0) = true := by
  decide

theorem test_limitsRemoveEntries :
    let s := withEntries [queueEntry 1 0] { metering with
      det := { metering.det with queue := Quad.all { state := .triggered, spell := none } } }
    (s.ovr.entries.find? (fun e => e.kind == .flush && e.source == .queue 1)).bind Entry.limit = some 0 ∧
    after (exec (.overrideLimitExpiry .flush (.queue 1)) s) (fun t => t.ovr.entries.isEmpty &&
      (t.det.queue.get 1).state == .spent && (t.det.queue.get 0).state == .triggered) = true := by decide

theorem test_aMonitorWhoseVacancyIsReachedWatchesAtOnce :
    let m := fun (t0 : Nat) => ({ state := .triggered, spell := some { occupied := false, since := t0 } } : Monitor)
    let s := fun (t0 : Nat) => { withEntries [queueEntry 1 0, spillEntry 0] metering with
      det := { metering.det with queue := Quad.all (m t0), spill := m t0 } }
    (s 950).par .queueOff = 50 ∧ (s 900).par .spillOff = 100 ∧
    after (exec (.overrideLimitExpiry .flush (.queue 1)) (s 950)) (fun t => (t.det.queue.get 1).state == .watching &&
      (t.det.queue.get 0).state == .triggered && t.det.spill.state == .triggered) = true ∧
    after (exec (.overrideLimitExpiry .flush (.queue 1)) (s 951)) (fun t => (t.det.queue.get 1).state == .spent) = true ∧
    after (exec (.overrideLimitExpiry .flush .spill) (s 900)) (fun t => t.det.spill.state == .watching) = true ∧
    after (exec (.overrideLimitExpiry .flush .spill) (s 901)) (fun t => t.det.spill.state == .spent) = true := by decide

theorem test_theArbiterTakesAGoverningEntry :
    let g := some (linkEntry .close).gov
    (withHand (.arbiterGov g) dark).waiting isArbiterGov = some (.arbiterGov g) ∧ govIs g .close = true ∧
    govIs none .close = false ∧
    after (exec .arbiterGoverningChange (withHand (.arbiterGov g) dark)) (fun t => t.arb.gov == g && t.arb.own == .shut) =
      true ∧
    after (exec .arbiterGoverningChange (withHand (.arbiterGov g) greenAt980)) (fun t => t.arb.own == .shut &&
      t.arb.openRelease == some (0, 7)) = true ∧
    after (exec .arbiterGoverningChange (withHand (.arbiterGov none) (withArb (fun _ => Arbiter.reset) metering)))
      (fun t => t.arb.own == .free && t.arb.credit == ⟨1, 2, 0, 3⟩ && t.arb.expired) = true ∧
    after (exec .arbiterGoverningChange (withHand (.arbiterGov (some (queueEntry 1 9).gov)) greenAt980))
      (fun t => t.arb.own == .releasing && t.arb.holdCause == .flush) = true := by decide

theorem test_aShutArbiterAndAFreeOneTakeAnEntry :
    let c := some (linkEntry .close).gov
    let sh := withHand (.arbiterGov c) (withArb (fun _ => Arbiter.reset) metering)
    let busyM := { withHand (.arbiterGov none) metering with
      det := { metering.det with merge := { state := .busy, settleFrom := none } } }
    after (exec .arbiterGoverningChange sh) (fun t => t.arb == { Arbiter.reset with gov := c } && t.handoffs.isEmpty) =
      true ∧
    after (exec .arbiterGoverningChange busyM) (fun t => t.arb.own == .yielding && t.log.slip.yields == 1) = true ∧
    after (exec .arbiterGoverningChange (withHand (.arbiterGov none) (withArb (fun _ => Arbiter.reset) metering)))
      (fun t => t.handoffs == [.request 0, .request 1, .request 2]) = true := by decide

theorem test_lanesTakeAGoverningEntry :
    let g := some preemptEntry.gov
    let o := withLane 1 (fun r => { r with state := .opened, onsetAt := some 990, gov := g }) metering
    (withHand (.laneGov 0 g) greenAt980).waiting (isLaneGov 0) = some (.laneGov 0 g) ∧
    after (exec (.laneGoverningChange 0) (withHand (.laneGov 0 g) greenAt980)) (fun t => (t.lane 0).state == .opened &&
      t.handoffs == [.releaseEnd 0 7]) = true ∧
    after (exec (.laneGoverningChange 0) (withHand (.laneGov 0 (some (linkEntry .close).gov)) greenAt980))
      (fun t => (t.lane 0).state == .amber) = true ∧
    after (exec (.laneGoverningChange 1) (withHand (.laneGov 1 none) o)) (fun t => (t.lane 1).state == .amber) = true ∧
    after (exec (.laneGoverningChange 1) (withHand (.laneGov 1 g) metering)) (fun t => (t.lane 1).state == .opened) = true ∧
    after (exec (.laneGoverningChange 1) (withHand (.laneGov 1 g) dark)) (fun t => (t.lane 1).gov == g) = true ∧
    10 ≤ metering.par .minGreen := by decide

theorem test_aCutGreenTakesClearoutAndClose :
    let run := fun (k : OvKind) (s : State) =>
      exec (.laneGoverningChange 0) (withHand (.laneGov 0 (some (linkEntry k).gov)) s)
    let early := withLane 0 (fun r => { r with onsetAt := some 995 })
    (cutGreen.lane 0).cut = true ∧ 980 + cutGreen.par .minGreen ≤ cutGreen.now ∧ cutGreen.now < 995 + cutGreen.par .minGreen ∧
    after (run .clearout cutGreen) (fun t => (t.lane 0).state == .opened && cutOnce t &&
      t.handoffs == [.releaseEnd 0 7]) = true ∧
    after (run .close cutGreen) (fun t => (t.lane 0).state == .amber && (t.lamp 0 .amber).commanded == .on && cutOnce t &&
      t.handoffs == [.releaseEnd 0 7]) = true ∧
    after (run .close (early cutGreen)) (fun t => (t.lane 0).state == .green && t.log == cutGreen.log) = true ∧
    after (run .flush greenAt980) (fun t => (t.lane 0).state == .green && t.handoffs.isEmpty) = true := by decide

theorem test_openAndRedTakeAGoverningEntry :
    let o := withLane 1 (fun r => { r with state := .opened, onsetAt := some 995 }) metering
    let g := some (linkEntry .clearout).gov
    after (exec (.laneGoverningChange 1) (withHand (.laneGov 1 none) o)) (fun t => (t.lane 1).state == .opened) = true ∧
    (metering.lane 1).minRed = true ∧ (metering.lane 1).inQueue = false ∧
    after (exec (.laneGoverningChange 1) { metering with handoffs := [.request 1, .laneGov 1 g] }) (fun t =>
      (t.lane 1).state == .opened && (t.lamp 1 .green).commanded == .on && t.handoffs.isEmpty) = true := by decide

theorem test_aRedAsksAnewUnderFixed :
    let s := withChan 1 (fun c => { c with role := .demand, lane := some 0 }) metering
    let g := some (linkEntry .fixed).gov
    (withHand (.laneGov 0 g) s).asks 0 = [] ∧
    after (exec (.laneGoverningChange 0) (withHand (.laneGov 0 g) s)) (fun t => t.handoffs == [.request 0]) = true := by
  decide

/-! ### The site controller's events -/

theorem test_theWarningEnds :
    let s := { furnished (at1000 .starting) with site := { SiteCtl.at .starting with warningAt := some 1000 } }
    s.site.warningAt = some 1000 ∧ s.resetIn = false ∧ (∀ l, s.sequenced l = true → (s.lane l).grant = none) ∧
    govShuts s.topGov = false ∧ govShuts (withEntries [linkEntry .close] s).topGov = true ∧
    after (exec .warningExpiry s) (fun t => t.site.state == .metering && (t.lane 0).state == .red &&
      t.arb.own == .free && t.arb.credit == ⟨1, 2, 0, 3⟩) = true ∧
    after (exec .warningExpiry (withEntries [linkEntry .close] s)) (fun t => t.arb.own == .shut && t.lamps.sign == .on) =
      true := by decide

theorem test_spellsAreCountedFromTheEntry :
    let s := withChan 4 (fun c => { c with role := .queue, lane := some 0, occupied := true })
      { furnished (at1000 .starting) with site := { SiteCtl.at .starting with warningAt := some 1000 } }
    s.chanFor .queue 0 = some 4 ∧ s.sequenced 0 = true ∧
    after (exec .warningExpiry s) (fun t =>
      t.det.queue.get 0 == { state := .watching, spell := some { occupied := true, since := 1000 } } &&
      t.det.queue.get 1 == Monitor.reset && t.arb.own == .free && t.arb.holdCause == .none) = true := by decide

theorem test_failureReportsEnterFailsafe :
    let s := withHand .report (withEntries fourEntries greenAt980)
    s.waiting isReport = some .report ∧ (withHand .report (at1000 .failsafe)).waiting isReport = some .report ∧
    after (exec .lampFailureReport s) (fun t => t.site.state == .failsafe && t.ovr.entries.isEmpty &&
      (t.lane 0).state == .off && t.arb.openRelease.isNone) = true := by decide

/-! ### The lamp monitor -/

theorem test_headCommands :
    let s := withLamp 0 .green (fun r => { r with commanded := .on, output := .driven, sensed := true }) metering
    let t := headCommand 0 (aspectOf .red) s
    (t.lamp 0 .red).output = .held ∧ (t.lamp 0 .green).proving = .proving ∧ (t.lamp 0 .amber) = (s.lamp 0 .amber) ∧
    ((headCommand 0 (aspectOf .warning) s).lamp 0 .amber).phaseEnd = some 1005 ∧
    ((headCommand 1 (aspectOf .red) s).lamp 1 .red).window = some 1000 := by decide

theorem test_lampsAndTheSignFlash :
    let f := fun (now e : Nat) => { withLamp 0 .amber (fun r =>
      { r with commanded := .flash, output := .driven, phaseEnd := some e }) metering with now := now }
    let s := fun (now : Nat) => { dark with now := now, lamps := { dark.lamps with sign := .flash, signFrom := 1000 } }
    ([1000, 1004, 1005, 1009, 1010].map (fun n => (f n 1005).lampLit 0 .amber) = [true, true, false, false, true]) ∧
    ([1000, 1004, 1005, 1009, 1010].map (fun n => (s n).signLit) = [true, true, false, false, true]) ∧
    (f 1000 1015).lampLit 0 .amber = true ∧ (withLamp 0 .amber (fun r => { r with output := .held }) (f 1000 1005)).lampLit
      0 .amber = false ∧
    (signFor .metering (some preemptEntry.gov) = .off) ∧ signFor .metering none = .on := by decide

theorem test_senseChanges :
    let w := withLamp 0 .red (fun r =>
      { r with commanded := .on, output := .driven, proving := .proving, window := some 999 }) metering
    let c := withLamp 0 .red (fun r => { r with sensed := true, window := some 999, proving := .proving }) metering
    let h := withLamp 0 .green (fun r => { r with commanded := .on, output := .held, proving := .proving }) c
    let f := withLamp 0 .amber (fun r =>
      { r with commanded := .flash, output := .driven, proving := .proving, phaseEnd := some 1003 }) metering
    after (exec (.lampSenseChange 0 .red true) w) (fun t => (t.lamp 0 .red).proving == .proven) = true ∧
    after (exec (.lampSenseChange 0 .red false) h) (fun t => (t.lamp 0 .green).output == .driven &&
      (t.lamp 0 .green).window == some 1000) = true ∧
    after (exec (.lampSenseChange 0 .green true) c) (fun t => t.handoffs == [.report] &&
      (t.lamp 0 .green).fault == .failedOn) = true ∧
    after (exec (.lampSenseChange 0 .amber true) f) (fun t => (t.lamp 0 .amber).proving == .proven) = true ∧
    after (exec (.lampSenseChange 0 .red false) c) (fun t => (t.lamp 0 .red).proving == .proven) = true ∧
    (c.lamp 0 .red).sensed ≠ false ∧ metering.startingUp = false := by decide

theorem test_lampAttempts :
    let s := fun (n : Nat) => withLamp 0 .red (fun r =>
      { r with commanded := .on, output := .driven, proving := .proving, window := some 997, retries := n }) metering
    let l := withLamp 0 .red (fun r =>
      { r with commanded := .on, output := .driven, lostFrom := some 997 }) metering
    let f := withPar .amberFaultAction 0 (withLamp 0 .amber (fun r =>
      { r with commanded := .flash, output := .driven, proving := .proving, phaseEnd := some 1000, retries := 0 }) metering)
    997 + (s 1).par .lampProve ≤ (s 1).now ∧
    after (exec (.provingWindowEnd 0 .red) (s 1)) (fun t => (t.lamp 0 .red).retries == 0 &&
      (t.lamp 0 .red).window == some 1000) = true ∧
    after (exec (.provingWindowEnd 0 .red) (s 0)) (fun t => (t.lamp 0 .red).fault == .failedOff &&
      t.handoffs == [.report]) = true ∧
    after (exec (.lossOfProof 0 .red) l) (fun t => (t.lamp 0 .red).retries == 1 && t.now == 1000) = true ∧
    after (exec (.flashOnPhaseEnd 0 .amber) f) (fun t => (t.lamp 0 .amber).noticeOnly && t.link.notices == 0x40 &&
      (t.lamp 0 .amber).phaseEnd == some 1010) = true := by decide

theorem test_straysAndGoodPhases :
    let s := withLamp 0 .red (fun r => { r with sensed := true, proving := .proving, window := some 996 }) metering
    let f := withLamp 0 .amber (fun r =>
      { r with commanded := .flash, output := .driven, phaseEnd := some 1000, phaseSeen := true, proving := .proving }) metering
    996 + s.par .lampProve < s.now ∧
    after (exec (.strayMeasureExpiry 0 .red) s) (fun t => (t.lamp 0 .red).fault == .failedOn && t.now == 1000) = true ∧
    after (exec (.flashOnPhaseEnd 0 .amber) f) (fun t => (t.lamp 0 .amber).proving == .proven) = true := by decide

theorem test_aFailedOffLampThatStraysIsReported :
    let s := withLamp 0 .red (fun r => { r with sensed := true, proving := .proving, window := some 996, fault := .failedOff })
      metering
    after (exec (.strayMeasureExpiry 0 .red) s) (fun t => (t.lamp 0 .red).fault == .failedOn && t.handoffs == [.report]) =
      true := by decide

/-! ### The lane sequencers -/

theorem test_greensEnd :
    let d := withLane 0 (fun r => { r with greenFor := some 20 }) greenAt980
    let c := withLane 0 (fun r => { r with cut := true }) (withChan 0 (fun q =>
      { q with role := .stop, lane := some 0 }) greenAt980)
    (d.lane 0).onsetAt = some 980 ∧ 980 + d.par .minGreen ≤ d.now ∧ d.log.records.length < 256 ∧
    after (exec (.greenDurationElapsed 0) d) (fun t => (t.lane 0).state == .amber && t.now == 1000 &&
      t.handoffs == [.releaseEnd 0 7]) = true ∧
    after (exec (.minGreenElapsed 0) d) (fun t => (t.lane 0).state == .amber) = true ∧
    after (exec (.minGreenElapsed 0) c) (fun t => t.log.records.map PassRec.shortfall == [some 2] &&
      t.log.slip.cuts == 1 && (t.lane 0).grant == some 7) = true := by decide

theorem test_busyMergesCut :
    let s := withHand (.busyEntry 0) greenAt980
    s.waiting (isBusyEntry 0) = some (.busyEntry 0) ∧ (s.lane 0).passages < 2 ∧
    (withHand (.busyEntry 1) greenAt980).waiting (isBusyEntry 1) = some (.busyEntry 1) ∧
    after (exec (.releaseCut 0) s) (fun t => (t.lane 0).cut && (t.lane 0).state == .amber) = true ∧
    after (exec (.releaseCut 1) (withHand (.busyEntry 1) greenAt980)) (fun t => t.handoffs.isEmpty) = true := by decide

theorem test_aBusyMergeEndsTheGreenItCuts :
    let s := withHand (.busyEntry 0) (withLane 0 (fun r => { r with cut := false }) cutGreen)
    (s.lane 0).onsetAt = some 980 ∧ 980 + s.par .minGreen ≤ s.now ∧
    after (exec (.releaseCut 0) s) (fun t => cutOnce t && t.handoffs == [.releaseEnd 0 7] &&
      (t.lamp 0 .amber).commanded == .on) = true ∧
    after (exec (.releaseCut 0) (withLane 0 (fun r => { r with onsetAt := some 995 }) s)) (fun t =>
      (t.lane 0).state == .green && (t.lane 0).cut && t.log == s.log && t.handoffs.isEmpty) = true := by decide

theorem test_opensAndAmbers :
    let o := withLane 1 (fun r => { r with state := .opened, onsetAt := some 990 }) metering
    let a := withChan 1 (fun c => { c with role := .demand, lane := some 0, occupied := true })
      (withChan 0 (fun c => { c with role := .stop, lane := some 0 })
        (withLane 0 (fun r => { r with state := .amber, entryAt := 970, grant := some 7, noShows := 1 }) metering))
    after (exec (.minGreenElapsed 1) o) (fun t => (t.lane 1).state == .amber && t.now == 1000) = true ∧
    a.goodStop 0 = true ∧ a.chainChannel 0 = some 1 ∧ 970 + a.par .amberTime ≤ a.now ∧
    after (exec (.amberTimeElapsed 0) a) (fun t => (t.lane 0).state == .red && (t.lane 0).noShows == 2 &&
      t.log.records.map PassRec.kind == [.noShow]) = true ∧
    after (exec (.amberTimeElapsed 0) (withLane 0 (fun r => { r with noShows := 2 }) a)) (fun t =>
      t.handoffs == [.claim 0 1] && (t.lane 0).noShows == 0) = true ∧
    after (exec (.amberTimeElapsed 0) (withLane 0 (fun r => { r with passages := 1 }) a)) (fun t =>
      t.log.records.isEmpty) = true := by decide

theorem test_reds :
    let r := withLane 0 (fun q => { q with entryAt := 980, minRed := false, grant := some 7 }) metering
    let g := withLane 0 (fun q => { q with gov := some preemptEntry.gov }) r
    let p := { r with site := SiteCtl.at .stopping, arb := Arbiter.reset }
    980 + r.par .minRed ≤ r.now ∧ r.hasDemand 0 = true ∧ 0 < r.weight 0 ∧ r.asking 0 = false ∧
    980 + r.par .redGrace < r.now ∧
    after (exec (.minRedElapsed 0) r) (fun t => (t.lane 0).minRed && t.handoffs == [.request 0]) = true ∧
    after (exec (.minRedElapsed 0) g) (fun t => (t.lane 0).state == .opened && (t.lane 0).grant.isNone) = true ∧
    after (exec (.minRedElapsed 0) p) (fun t => (t.lane 0).state == .opened && t.site.stopFlushAt.isNone) = true ∧
    after (exec (.minRedElapsed 0) { p with desc := { p.desc with modes := ⟨.metered, .unused, .unused, .unused⟩ } })
      (fun t => t.site.stopFlushAt == some 1150) = true ∧
    after (exec (.redGraceExpiry 0) r) (fun t => (t.lane 0).grant.isNone && t.now == 1000) = true := by decide

/-! ### The merge arbiter -/

theorem test_grants :
    let s := withArb (fun a => { a with queue := [1, 0] }) metering
    let p := { s with plans := { s.plans with staged := some 1 } }
    let z := withArb (fun a => { a with queue := [1, 0], credit := Quad.all 0 }) metering
    let h := withArb (fun a =>
      { a with own := .held, owner := some 2, prioWaiting := true, reservation := .pending, prioCount := 2 }) metering
    s.freeCandidate = some (1, false) ∧ z.freeCandidate = some (1, true) ∧ h.waits 2 = true ∧
    p.slot 1 = some planB ∧ s.laneGovIs 1 .clearout = false ∧ s.det.merge.state = .clear ∧ s.arb.openRelease = none ∧
    after (exec .grant s) (fun t => (t.lane 1).state == .green && t.arb.credit == ⟨1, 1, 0, 3⟩ && t.arb.queue == [0] &&
      t.arb.armed == some 30 && (t.lane 1).greenFor == some 30 && t.arb.prioCount == 1) = true ∧
    after (exec .grant p) (fun t => t.plans.active == some 1 && t.arb.queue == [] && t.arb.armed == some 50 &&
      t.arb.credit == ⟨0, 0, 0, 3⟩) = true ∧
    after (exec .grant z) (fun t => t.arb.credit == ⟨1, 1, 0, 3⟩) = true ∧
    after (exec .grant h) (fun t => t.arb.owner == some 2 && t.arb.reservation == .granted && t.arb.prioCount == 0) =
      true := by decide

theorem test_aLaneWithdrawnAtAPromotionOpens :
    let s := withLane 0 (fun r => { r with inQueue := true, gov := some preemptEntry.gov })
      (withLane 1 (fun r => { r with inQueue := true }) (withArb (fun a => { a with queue := [1, 0] })
        { metering with plans := { metering.plans with staged := some 1 } }))
    let q := withLane 0 (fun r => { r with gov := none }) s
    s.freeCandidate = some (1, false) ∧ planB.weights.get 0 = 0 ∧
    after (exec .grant s) (fun t => (t.lane 1).state == .green && (t.lane 0).state == .opened && !(t.lane 0).inQueue &&
      (t.lane 0).onsetAt == some 1000 && t.arb.queue.isEmpty) = true ∧
    after (exec .grant q) (fun t => (t.lane 0).state == .red && !(t.lane 0).inQueue && t.handoffs == [.request 2]) = true ∧
    after (exec .grant (withArb (fun a => { a with own := .held, owner := some 2, prioWaiting := true }) metering))
      (fun t => !t.arb.prioWaiting && (t.lane 2).state == .green) = true := by decide

theorem test_candidates :
    let s := withArb (fun a => { a with queue := [0, 1], credit := ⟨0, 2, 0, 0⟩ }) metering
    metering.activePlan = some planA ∧ planA.prioEvery ≠ 0 ∧ s.arb.prioCount < planA.prioEvery ∧
    s.freeCandidate = some (1, false) ∧
    (withArb (fun a => { a with prioWaiting := true, prioCount := 3 }) s).freeCandidate = some (2, false) ∧
    (withArb (fun a => { a with prioWaiting := true }) metering).freeCandidate = some (2, false) ∧
    metering.freeCandidate = none ∧
    after (exec .grant (withArb (fun a => { a with expired := false }) s))
      (· == withArb (fun a => { a with expired := false }) s) = true := by decide

theorem test_requestsAndWithdrawals :
    let q := withLane 0 (fun r => { r with inQueue := true }) (withArb (fun a => { a with queue := [0, 1] }) metering)
    (withHand (.request 0) metering).waiting (isAsking 0) = some (.request 0) ∧ metering.arb.own ≠ .shut ∧
    metering.waits 0 = false ∧ q.waits 0 = true ∧ govIs (metering.lane 0).gov .clearout = false ∧
    (withHand (.withdrawal 0) q).waiting (isAsking 0) = some (.withdrawal 0) ∧
    after (exec (.request 0) (withHand (.request 0) metering)) (fun t => t.arb.queue == [0] && (t.lane 0).inQueue) = true ∧
    after (exec (.request 2) (withHand (.request 2) metering)) (fun t => t.arb.prioWaiting) = true ∧
    after (exec (.request 0) (withHand (.request 0) q)) (fun t => t.arb.queue == [0, 1]) = true ∧
    after (exec (.withdrawal 0) (withHand (.withdrawal 0) q)) (fun t => t.arb.queue == [1]) = true ∧
    after (exec (.withdrawal 0) (withHand (.withdrawal 0) metering)) (fun t => t.arb.queue.isEmpty) = true := by decide

theorem test_releaseEndsSettle :
    let s := withHand (.releaseEnd 0 7) greenAt980
    let y := { s with det := { s.det with merge := { state := .busy, settleFrom := none } } }
    s.waiting (isReleaseEnd 0) = some (.releaseEnd 0 7) ∧ s.arb.openRelease = some (0, 7) ∧
    after (exec (.releaseEnd 0) s) (fun t => t.arb.own == .free && t.arb.openRelease.isNone) = true ∧
    after (exec (.releaseEnd 0) y) (fun t => t.arb.own == .yielding && t.log.slip.yields == 1) = true ∧
    after (exec (.releaseEnd 0) (withArb (fun a => { a with own := .shut }) s)) (fun t => t.arb.own == .shut) = true := by
  decide

theorem test_mergeChangesSettle :
    let s := withHand .mergeChange metering
    let y := { s with det := { s.det with merge := { state := .busy, settleFrom := none } } }
    s.waiting isMergeChange = some .mergeChange ∧
    after (exec .mergeMonitorChange y) (fun t => t.arb.own == .yielding && t.log.slip.yields == 1) = true ∧
    after (exec .mergeMonitorChange s) (fun t => t.arb.own == .free) = true ∧
    after (exec .mergeMonitorChange (withHand .mergeChange greenAt980)) (fun t => t.arb.own == .releasing) = true := by
  decide

theorem test_theIntervalExpires :
    let s := withArb (fun a => { a with armed := some 30, elapsed := 30, expired := false }) metering
    let f := withArb (fun a => { a with elapsed := 20, gov := some (queueEntry 1 9).gov }) s
    s.governingInterval = some 30 ∧ f.governingInterval = some 20 ∧ s.activePlan = some planA ∧
    (withArb (fun a => { a with gov := some (linkEntry .close).gov }) s).governingInterval = none ∧
    (withArb (fun a => { a with gov := some { (linkEntry .fixed).gov with fixed := some 8 } }) s).governingInterval =
      some 8 ∧
    after (exec .intervalExpiry s) (fun t => t.arb.expired && t.now == 1000) = true ∧
    after (exec .intervalExpiry f) (fun t => t.arb.expired && t.now == 1000) = true := by decide

theorem test_reservations :
    let s := withHand .advance metering
    let p := withArb (fun a => { a with reservation := .pending, reserveLeft := 0, holdCause := .reserve, holdLane := some 2
                                        own := .held, owner := some 2 }) metering
    s.waiting isAdvance = some .advance ∧ (withHand .advance dark).waiting isAdvance = some .advance ∧
    p.arb.reserveLeft = 0 ∧
    after (exec .advanceActuation s) (fun t => t.arb.reservation == .pending && t.arb.own == .held &&
      t.arb.owner == some 2 && t.arb.reserveLeft == 150) = true ∧
    after (exec .advanceActuation (withHand .advance greenAt980)) (fun t => t.arb.own == .releasing) = true ∧
    after (exec .advanceActuation (withHand .advance dark)) (fun t => t.arb.reservation == .none) = true ∧
    after (exec .reservationExpiry p) (fun t => t.arb.own == .free && t.log.slip.expired == 1 && t.link.notices == 0x08) =
      true := by decide

/-! ### What always holds -/

/-- A state in the middle of things: an occupied STOP channel, a full stack, lane 0 in GREEN, a prefix held. -/
def busy : State :=
  withLink (fun k => { k with held := { HeldSet.empty with lane := some 1, since := some 995 } })
    (withEntries fourEntries (clearingDue greenAt980))

theorem test_theStackAndTheLogMeetTheirInvariants : busy.stackSound ∧ busy.logSound ∧ busy.prefixSound := by
  refine ⟨⟨by decide, ?_, ?_⟩, ⟨by decide, by decide⟩, rfl⟩
  · show ranksFall fourEntries
    simp [ranksFall, fourEntries, preemptEntry, linkEntry, spillEntry, rankOf]
  · show identitiesDiffer fourEntries
    simp [identitiesDiffer, fourEntries, preemptEntry, linkEntry, spillEntry, Entry.sameId, Entry.isId]

theorem test_thePlansMeetTheirInvariants : busy.plansInUse ∧ busy.plansValid := by
  have h : ∀ i : Slot, ((busy.slot i).all Plan.valid) = true := by decide
  refine ⟨⟨by decide, by decide⟩, fun i p hp => ?_⟩
  simpa [hp] using h i

theorem test_theMergeMeetsItsInvariants : busy.mergeSound ∧ busy.creditsSound ∧ busy.arbiterSound := by
  refine ⟨⟨fun l h => ?_, fun l g h => absurd h (by simp [busy, greenAt980, metering, furnished, at1000, State.reset,
    withLink, withEntries, clearingDue, withChan, withArb, withLane, State.modLink, State.modOvr, State.modChan,
    State.modDet, State.modArb, State.modLane]), by decide⟩, by unfold State.creditsSound; decide,
    ⟨by decide, fun h => absurd h (by decide)⟩⟩
  have : l = 0 := by revert l; decide
  subst this
  exact ⟨7, by decide, by decide⟩

theorem test_theHeadsAndTheRecordsMeetTheirInvariants : busy.headsSound ∧ busy.channelsSound ∧ busy.timingSound := by
  refine ⟨fun l => ?_, fun c => ?_, fun p => by cases p <;> decide⟩
  · unfold Head.commandSound; revert l; decide
  · unfold Channel.healthSound; revert c; decide

theorem test_aStepOfABusyStateAnswers : after (step { busy with pending := [.getStatus []] }) (fun t => t.log.records.length ≤ 256) = true := by decide

end Sys2Proof.Tests
end

section
/-! PROOFS. The rows' meanings, said once for all rows: a command frame, an event with its moment, an input; the checks of
the link for every command frame; and the statements that rest on them alone. -/

namespace Sys2Proof.Machine

/-! ### The three forms of a row -/

theorem hostFrame_answers (c : Cmd) (act : Act) (args : List Byte) (s : State) :
    ∃ t, hostFrame c act args s = .next t := by
  unfold hostFrame
  split <;> exact ⟨_, rfl⟩

theorem hostFrame_inReset (c : Cmd) (act : Act) (args : List Byte) {s : State} (h : s.resetIn = true) :
    hostFrame c act args s = .next s := if_pos h

theorem timed_answers (w : Option Nat) (f : State → State) (s : State) : ∃ t, timed w f s = .next t := by
  unfold timed
  split
  · exact ⟨_, rfl⟩
  · split <;> exact ⟨_, rfl⟩

theorem timed_inReset (w : Option Nat) (f : State → State) {s : State} (h : s.resetIn = true) :
    timed w f s = .next s := if_pos h

/-- A row taken at once is a timed row whose moment is now. -/
theorem taken_eq_timed (c : Bool) (f : State → State) (s : State) : taken c f s = timed (atOnce c) f s := by
  cases c <;> rfl

theorem timed_of_taken {i : Instr} {c : State → Bool} {f : State → State} (h : ∀ s, exec i s = taken (c s) f s) :
    ∃ (w : State → Option Nat) (f : State → State), ∀ s, exec i s = timed (w s) f s :=
  ⟨fun s => atOnce (c s), f, fun s => (h s).trans (taken_eq_timed (c s) f s)⟩

theorem execResetInputReleased_answers (s : State) : ∃ t, execResetInputReleased s = .next t := by
  unfold execResetInputReleased
  split <;> exact ⟨_, rfl⟩

theorem execDetectorInputChange_answers (c : Chan) (on : Bool) (s : State) :
    ∃ t, execDetectorInputChange c on s = .next t := by
  unfold execDetectorInputChange
  split <;> exact ⟨_, rfl⟩

theorem execPreemptionInputChange_answers (on : Bool) (s : State) : ∃ t, execPreemptionInputChange on s = .next t := by
  unfold execPreemptionInputChange
  split <;> exact ⟨_, rfl⟩

theorem execLampSenseChange_answers (l : Lane) (col : Colour) (on : Bool) (s : State) :
    ∃ t, execLampSenseChange l col on s = .next t := by
  unfold execLampSenseChange
  split
  · exact ⟨_, rfl⟩
  · split <;> exact ⟨_, rfl⟩

/-- A row is a command frame, an event that comes at a moment, or an input; only an event is ever due by itself. -/
theorem exec_forms (i : Instr) :
    ((∃ c act args, ∀ s, exec i s = hostFrame c act args s) ∧ ∀ u, dueIn i u = none) ∨
    (∃ (w : State → Option Nat) (f : State → State), ∀ s, exec i s = timed (w s) f s) ∨
    ((∀ s, ∃ t, exec i s = .next t) ∧ ∀ u, dueIn i u = none) := by
  cases i with
  | beginCmd | getStatus | takeNotice | setNoticeMask | siteReset | setTime | pfxLane | pfxPlan | pfxChannel | setLane
  | setPriorityLane | setChannel | setTiming | readConfig | readChannel | resetChannel | startMetering | stopMetering
  | clearFailsafe | readLamps | clearAmberFault | writePlan | readPlan | erasePlan | selectPlan | protectGroup
  | unprotectGroup | pushOverride | removeOverride | readOverrides | mapFrom | mapTo | mapSkip | mapAssign | readMap
  | streamLog | stopStream | readLogState | readCounts | clearCounts | readArbiter =>
    exact .inl ⟨⟨_, _, _, fun _ => rfl⟩, fun _ => rfl⟩
  | frameGapTimeout | prefixHoldExpiry | linkLossExpiry | actuation | clearing | stuckOnExpiry | stuckOffExpiry
  | mergeSettleExpiry | queueOnReached | queueOffReached | spillOnReached | spillOffReached | occupancyPeriodClose
  | preemptionAssertion | preemptionRelease | overrideLimitExpiry | lampTestExpiry | warningExpiry | stopFlushExpiry
  | provingWindowEnd | flashOnPhaseEnd | strayMeasureExpiry | lossOfProof | minGreenElapsed | greenDurationElapsed
  | amberTimeElapsed | minRedElapsed | redGraceExpiry | intervalExpiry | reservationExpiry =>
    exact .inr (.inl ⟨_, _, fun _ => rfl⟩)
  | undefinedCodeFrame | badCheckFrame | lenOutOfRange | frameOverrun | recordFrameCompletion | noShowClaim
  | arbiterGoverningChange | laneGoverningChange | lampFailureReport | releaseCut | releaseEnd | request | withdrawal
  | mergeMonitorChange | grant | advanceActuation | replyFrameTransmitted =>
    exact .inr (.inl (timed_of_taken fun _ => rfl))
  | powerOn | resetInputAsserted => exact .inr (.inr ⟨fun _ => ⟨_, rfl⟩, fun _ => rfl⟩)
  | resetInputReleased => exact .inr (.inr ⟨execResetInputReleased_answers, fun _ => rfl⟩)
  | detectorInputChange c on => exact .inr (.inr ⟨execDetectorInputChange_answers c on, fun _ => rfl⟩)
  | preemptionInputChange on => exact .inr (.inr ⟨execPreemptionInputChange_answers on, fun _ => rfl⟩)
  | lampSenseChange l col on => exact .inr (.inr ⟨execLampSenseChange_answers l col on, fun _ => rfl⟩)

/-- No row stops. -/
theorem exec_answers (i : Instr) (s : State) : ∃ t, exec i s = .next t := by
  rcases exec_forms i with ⟨⟨c, act, args, h⟩, -⟩ | ⟨w, f, h⟩ | ⟨h, -⟩
  · exact h s ▸ hostFrame_answers c act args s
  · exact h s ▸ timed_answers (w s) f s
  · exact h s

/-- An event row has no effect while the reset input is asserted (R38, log 12). -/
theorem exec_event_inReset {i : Instr} {u s : State} (hd : (dueIn i u).isSome = true) (hr : s.resetIn = true) :
    exec i s = .next s := by
  rcases exec_forms i with ⟨-, h⟩ | ⟨w, f, h⟩ | ⟨-, h⟩
  · simp [h u] at hd
  · rw [h s, timed_inReset _ _ hr]
  · simp [h u] at hd

/-! ### What the part does by itself -/

theorem takeByte_answers (s : State) : ∃ t, takeByte s = .next t := by
  unfold takeByte
  split
  · exact ⟨_, rfl⟩
  · dsimp only
    split
    · exact ⟨_, rfl⟩
    · exact exec_answers _ _
    · exact exec_answers _ _

theorem runMove_answers (m : Move) (s : State) : ∃ t, runMove m s = .next t := by
  cases m with
  | event i => exact exec_answers i s
  | byte => exact takeByte_answers s
  | tenth => exact ⟨_, rfl⟩

theorem idle_answers (s : State) : ∃ t, idle s = .next t := by
  unfold idle
  split
  · exact ⟨_, rfl⟩
  · split <;> exact runMove_answers _ _

theorem step_answers (s : State) : ∃ t, step s = .next t := by
  unfold step
  split
  · exact exec_answers _ _
  · exact idle_answers s

/-! ### Command frames -/

/-- Every command of the table is taken as a host frame, with an act of its own. -/
theorem exec_instr (c : Cmd) : ∃ act, ∀ args s, exec (c.instr args) s = hostFrame c act args s := by
  cases c <;> exact ⟨_, fun _ _ => rfl⟩

/-- A frame that passes the link's checks is answered as its act says of what the opening leaves. -/
theorem answers_of_act {c : Cmd} {act : Act} {args : List Byte} {s : State} {o : Out} {a : Answer} {f : State → State}
    (ho : o = hostFrame c act args s) (hp : s.passes c args = true)
    (ha : act args s.link.held (openFrame c s) = (a, f (openFrame c s))) : Answers o c s a f := by
  unfold Answers
  rw [ho, hostFrame_passes act hp, ha]

/-- A frame that the link takes and a check stops is answered by that check. -/
theorem answers_of_check {c : Cmd} {act : Act} {args : List Byte} {s : State} {o : Out} {a : Answer}
    (ho : o = hostFrame c act args s) (hr : s.resetIn = false) (hw : s.link.waiting.length < 8)
    (ha : frameCheck c args s.link.held (openFrame c s) = some a) : Answers o c s a (endIfMap c) := by
  have hl : s.listFull = false := by simp [State.listFull]; omega
  simp [Answers, ho, hostFrame, takeFrame, runFrame, hr, hl, ha]

@[simp] theorem openFrame_startingUp (c : Cmd) (s : State) : (openFrame c s).startingUp = s.startingUp := by
  simp [State.startingUp]

/-- Checks 3, 4 and 5 of every command frame, in their order (R165). -/
theorem linkChecks (s : State) (c : Cmd) (args : List Byte) : LinkChecks s c args := by
  obtain ⟨act, hx⟩ := exec_instr c
  intro hr hw
  refine ⟨fun hl => ?_, fun hl hp hf => ?_, fun hl hf hs ha => ?_⟩ <;>
    refine answers_of_check (hx args s) hr hw ?_ <;> unfold frameCheck
  · rw [if_pos hl]
  · rw [if_neg (by simp [hl]), if_pos (by simp [hp, hf])]
  · rw [if_neg (by simp [hl]), if_neg (by rcases hf with hf | hf <;> simp [hf]), if_pos (by simp [hs, ha])]

/-- A reading that changes nothing but, with READ-ARBITER, the count of free values (log 14). -/
theorem reading_completes (s : State) (c : Cmd)
    (hc : c = .getStatus ∨ c = .readConfig ∨ c = .readChannel ∨ c = .readLamps ∨ c = .readOverrides ∨ c = .readMap ∨
      c = .readArbiter) (hp : s.passes c [] = true) :
    ∃ data u, exec (c.instr []) s = .next (answer c.code (.done data) u) ∧
      (u = openFrame c s ∨ (c = .readArbiter ∧ u = { openFrame c s with freeCount := s.freeCount + 1 })) := by
  rcases hc with rfl | rfl | rfl | rfl | rfl | rfl | rfl
  · exact ⟨_, _, hostFrame_passes actGetStatus hp, .inl rfl⟩
  · exact ⟨_, _, hostFrame_passes actReadConfig hp, .inl rfl⟩
  · exact ⟨_, _, hostFrame_passes actReadChannel hp, .inl rfl⟩
  · exact ⟨_, _, hostFrame_passes actReadLamps hp, .inl rfl⟩
  · exact ⟨_, _, hostFrame_passes actReadOverrides hp, .inl rfl⟩
  · exact ⟨_, _, hostFrame_passes actReadMap hp, .inl rfl⟩
  · refine ⟨_, _, hostFrame_passes actReadArbiter hp, ?_⟩
    unfold actReadArbiter
    by_cases h : s.arb.openRelease = none
    · exact .inr ⟨rfl, by simp [h, useFree]⟩
    · exact .inl (by simp [h])

/-- Settles O2: every row has one of three forms, none of which stops, and a step runs a row or passes a tenth. -/
theorem everyCommandAndEveryStepAnswersANextState : Obligations.EveryCommandAndEveryStepAnswersANextState :=
  ⟨exec_answers, step_answers, reading_completes⟩

/-! ### Power-on and reset -/

theorem reset_chan (c : Chan) : State.reset.chan c = Channel.reset := Bank.at_fill _ c

theorem reset_lane (l : Lane) : State.reset.lane l = LaneRec.reset := Quad.get_all _ l

theorem reset_lamp (l : Lane) (col : Colour) : State.reset.lamp l col = LampRec.reset := by
  have h : State.reset.head l = { red := LampRec.reset, amber := LampRec.reset, green := LampRec.reset } :=
    Quad.get_all _ l
  unfold State.lamp
  rw [h]
  cases col <;> rfl

theorem powerUp_chan (s : State) (c : Chan) : (powerUp s).chan c = (s.chan c).atReset := Bank.at_mapAll _ _ c

theorem Head.get_map (f : LampRec → LampRec) (h : Head) (col : Colour) : (h.map f).get col = f (h.get col) := by
  cases col <;> rfl

theorem powerUp_lamp (s : State) (l : Lane) (col : Colour) : (powerUp s).lamp l col = (s.lamp l col).atReset := by
  have h : (powerUp s).head l = (s.head l).map LampRec.atReset := Quad.get_map _ _ l
  unfold State.lamp
  rw [h, Head.get_map]

/-- A power-on loads every block's power-on values, the inputs as they read (R38, log 12, 13). -/
theorem powerUp_poweredUp (s : State) : PoweredUp s (powerUp s) :=
  ⟨rfl, rfl, rfl, rfl, rfl, rfl, rfl, rfl, rfl, rfl, rfl, rfl, rfl, rfl, rfl, fun c => powerUp_chan s c,
    fun l col => powerUp_lamp s l col, rfl, rfl, rfl, fun l => Quad.get_all _ l, rfl⟩

/-- While the reset input is asserted every output is off (R38). -/
theorem outputs_off_inReset {s : State} (h : s.resetIn = true) :
    s.attn = false ∧ s.signLit = false ∧ ∀ l col, s.lampLit l col = false := by
  refine ⟨?_, ?_, fun l col => ?_⟩
  · simp [State.attn, h]
  · simp [State.signLit, h]
  · simp [State.lampLit, h]

/-- Settles O4: the values are the records' own fields, and each reset row runs `powerUp`. -/
theorem resetLoadsThePowerOnValues : Obligations.ResetLoadsThePowerOnValues := by
  refine ⟨⟨rfl, Quad.get_all _, rfl, rfl, fun c => ?_, fun l => ?_, fun l col => ?_, rfl, rfl, rfl, rfl, rfl,
    Quad.get_all _, rfl, rfl, rfl, Bank.at_fill _, Quad.get_all _, rfl, rfl, rfl, Bank.at_fill _, rfl, rfl, rfl, rfl, rfl,
    rfl, rfl, rfl, rfl, rfl, rfl, rfl, rfl, by decide⟩, ⟨rfl, rfl, rfl, rfl, rfl, Bank.at_fill _, rfl, rfl, rfl, rfl,
    rfl, rfl, rfl, rfl, rfl, rfl, rfl, rfl, reset_lamp, rfl, Quad.get_all _, rfl, rfl, rfl⟩, fun s => ⟨?_, ?_, ?_, ?_⟩⟩
  · rw [reset_chan]
    exact ⟨rfl, rfl, rfl, rfl, rfl, rfl, rfl, rfl, rfl, rfl, rfl, rfl⟩
  · rw [reset_lane]
    exact ⟨rfl, rfl, rfl, rfl, rfl, rfl, rfl, rfl⟩
  · rw [reset_lamp]
    exact ⟨rfl, rfl, rfl, rfl⟩
  · exact ⟨_, rfl, powerUp_poweredUp s, rfl⟩
  · exact ⟨_, rfl, powerUp_poweredUp { s with resetIn := true }, rfl, outputs_off_inReset rfl⟩
  · intro hr
    refine ⟨⟨_, if_pos hr, powerUp_poweredUp { s with resetIn := false }, rfl⟩, fun c args => ?_, ?_⟩
    · obtain ⟨act, hx⟩ := exec_instr c
      rw [hx, hostFrame_inReset c act args hr]
    · rintro i ⟨u, hu⟩
      exact exec_event_inReset hu hr
  · intro hr
    exact if_neg (by simp [hr])

end Sys2Proof.Machine
end

section
/-! PROOFS. The configuration commands SET-LANE and SET-PRIORITY-LANE (R3, R5, R6). -/

namespace Sys2Proof

theorem Quad.set_get {α : Type} (q : Quad α) (i : Fin 4) : q.set i (q.get i) = q := by
  fin_cases i <;> rfl

end Sys2Proof

namespace Sys2Proof.Machine

/-! ### The configuration window (R6) -/

theorem window_iff (s : State) : s.window = true ↔ s.configurable := by
  simp [State.window, State.configurable]

@[simp] theorem openFrame_window (c : Cmd) (s : State) : (openFrame c s).window = s.window := by
  simp [State.window]

@[simp] theorem openFrame_mode (c : Cmd) (s : State) (l : Lane) : (openFrame c s).mode l = s.mode l := by
  simp [State.mode]

@[simp] theorem openFrame_chan (c : Cmd) (s : State) (d : Chan) : (openFrame c s).chan d = s.chan d := by
  simp [State.chan]

@[simp] theorem openFrame_par (c : Cmd) (s : State) (p : Param) : (openFrame c s).par p = s.par p := by
  simp [State.par]

theorem inWindow_open {s : State} (h : s.configurable) (c : Cmd) (a : Answer × State) :
    inWindow (openFrame c s) a = a := if_pos (by rw [openFrame_window]; exact (window_iff s).2 h)

theorem inWindow_closed {s : State} (h : ¬s.configurable) (c : Cmd) (a : Answer × State) :
    inWindow (openFrame c s) a = (.refused .wrongState, openFrame c s) :=
  if_neg (by rw [openFrame_window, window_iff]; exact h)

/-! ### Argument bytes -/

theorem modeArg_code (m : LaneMode) : modeArg m.code = some m := by cases m <;> rfl

theorem modeArg_high {b : Byte} (h : 4 ≤ b.toNat) : modeArg b = none := by
  unfold modeArg
  split <;> first | omega | rfl

/-- A mode code 0 or 1 is a mode that is not sequenced. -/
theorem modeArg_low {b : Byte} (h : b.toNat = 0 ∨ b.toNat = 1) : ∃ m, modeArg b = some m ∧ m.sequenced = false := by
  unfold modeArg
  rcases h with h | h <;> rw [h] <;> exact ⟨_, rfl, rfl⟩

theorem numArg_high {n : Nat} {b : Byte} (h : n ≤ b.toNat) : numArg n b = none := dif_neg (by omega)

theorem numArg_byte1 {n : Nat} (i : Fin n) (h : n ≤ 256) : numArg n (byte1 i.val) = some i := by
  have e : (byte1 i.val).toNat = i.val := by
    have := i.isLt
    simp [byte1]; omega
  unfold numArg
  rw [dif_pos (by rw [e]; exact i.isLt)]
  exact congrArg some (Fin.ext e)

/-- An optional number reads back from its byte, as long as 0xFF names none of the numbers. -/
theorem optArg_optByte {n : Nat} (o : Option (Fin n)) (h : n ≤ 255) : optArg n (optByte o) = some o := by
  cases o with
  | none => rfl
  | some i =>
    have hi : byte1 i.val ≠ 0xFF := by
      intro e
      have := i.isLt
      have := congrArg BitVec.toNat e
      simp [byte1] at this; omega
    show optArg n (byte1 i.val) = _
    unfold optArg
    rw [if_neg hi, numArg_byte1 i (by omega)]
    rfl

theorem optArg_high {n : Nat} {b : Byte} (h : n ≤ b.toNat) (hb : b ≠ 0xFF) : optArg n b = none := by
  unfold optArg
  rw [if_neg hb, numArg_high h]
  rfl

/-! ### SET-LANE -/

/-- A lane's mode is written, and its no-show count where the mode changes (R3). -/
theorem setMode_eq (l : Lane) (m : LaneMode) (s : State) :
    setMode l m s = { s with
      desc := { s.desc with modes := s.desc.modes.set l m }
      lanes := if s.mode l = m then s.lanes else s.lanes.set l { s.lane l with noShows := 0 } } := by
  unfold setMode
  by_cases h : s.mode l = m
  · have e : s.desc.modes.set l m = s.desc.modes := by
      rw [← h]; exact Quad.set_get s.desc.modes l
    rw [if_pos h, if_pos h, e]
  · rw [if_neg h, if_neg h]
    rfl

theorem actSetLane_range {b : Byte} (held : HeldSet) {s : State} (h : s.configurable) (hb : modeArg b = none) :
    actSetLane [b] held (openFrame .setLane s) = (.range, openFrame .setLane s) := by
  unfold actSetLane
  simp only [inWindow_open h, hb]

theorem actSetLane_conflict {b : Byte} {m : LaneMode} (held : HeldSet) {s : State} (h : s.configurable)
    (hb : modeArg b = some m) (hq : s.desc.priority = some (held.lane.getD 0)) (hm : m.sequenced = false) :
    actSetLane [b] held (openFrame .setLane s) = (.refused .conflict, openFrame .setLane s) := by
  unfold actSetLane
  simp only [inWindow_open h, hb, openFrame_desc, hq, hm, and_self, if_true]

theorem actSetLane_done {b : Byte} {m : LaneMode} (held : HeldSet) {s : State} (h : s.configurable)
    (hb : modeArg b = some m) (hq : m.sequenced = false → s.desc.priority ≠ some (held.lane.getD 0)) :
    actSetLane [b] held (openFrame .setLane s) = (.done [], setMode (held.lane.getD 0) m (openFrame .setLane s)) := by
  have hn : ¬(s.desc.priority = some (held.lane.getD 0) ∧ m.sequenced = false) := fun ⟨hp, hm⟩ => hq hm hp
  unfold actSetLane
  simp only [inWindow_open h, hb, openFrame_desc, if_neg hn]

theorem sequenced_false_iff (m : LaneMode) : m.sequenced = false ↔ m = .unused ∨ m = .counted := by
  cases m <;> simp [LaneMode.sequenced]

/-- Settles O15: the link's checks, the window, and the three answers of the act in the window. -/
theorem setLaneSetsOneMode : Obligations.SetLaneSetsOneMode := by
  intro s b l
  refine ⟨linkChecks s .setLane [b], fun hp hw => ?_, fun hp hw hl => ⟨fun hb => ?_, fun hb hq => ?_, ?_⟩, rfl⟩
  · exact answers_of_act rfl hp (inWindow_closed hw _ _)
  · exact answers_of_act rfl hp (actSetLane_range _ hw (modeArg_high hb))
  · obtain ⟨m, hm, hs⟩ := modeArg_low hb
    exact answers_of_act rfl hp (actSetLane_conflict _ hw hm (hl ▸ hq) hs)
  · rintro m rfl hq
    refine answers_of_act rfl hp ((actSetLane_done _ hw (modeArg_code m) fun hm => ?_).trans ?_)
    · exact hl ▸ hq ((sequenced_false_iff m).1 hm)
    · rw [← hl, setMode_eq]
      simp [State.lane]

/-! ### SET-PRIORITY-LANE -/

theorem hasAdvance_iff (s : State) (q : Lane) :
    s.hasAdvance q = true ↔ ∃ c, (s.chan c).role = .advance ∧ (s.chan c).lane = some q := by
  simp [State.hasAdvance, State.chanFor, List.find?_isSome, mem_allSixteen]

/-- The CONFLICT cases of R5: a lane that is not sequenced, and the leaving of a lane with an ADVANCE channel. -/
theorem prioConflict_iff (s : State) (p : Option Lane) :
    s.prioConflict p = true ↔
      (∃ l, p = some l ∧ (s.mode l = .unused ∨ s.mode l = .counted)) ∨
      (∃ q c, s.desc.priority = some q ∧ p ≠ some q ∧ (s.chan c).role = .advance ∧ (s.chan c).lane = some q) := by
  unfold State.prioConflict
  rw [Bool.or_eq_true]
  refine or_congr ?_ ?_
  · cases p with
    | none => simp
    | some l => simp [State.sequenced, sequenced_false_iff]
  · cases s.desc.priority with
    | none => simp
    | some q => simp [hasAdvance_iff]

theorem setPriority_none (s : State) :
    setPriority none s = { s with desc := { s.desc with priority := none } } := by
  unfold setPriority
  by_cases h : s.desc.priority = none
  · rw [if_pos h, ← h]
  · rw [if_neg h]
    rfl

/-- The designation is replaced, and a lane that gains it stores credit 0 (R5, log 31). -/
theorem setPriority_some (l : Lane) (s : State) :
    setPriority (some l) s = { s with
      desc := { s.desc with priority := some l }
      arb := { s.arb with
        credit := if s.desc.priority = some l then s.arb.credit else s.arb.credit.set l 0 } } := by
  unfold setPriority
  by_cases h : s.desc.priority = some l
  · rw [if_pos h, if_pos h, ← h]
  · rw [if_neg h, if_neg h]
    rfl

theorem openFrame_prioConflict (c : Cmd) (s : State) (p : Option Lane) :
    (openFrame c s).prioConflict p = s.prioConflict p := by
  rw [Bool.eq_iff_iff, prioConflict_iff, prioConflict_iff]
  simp

theorem actSetPriorityLane_range {b : Byte} (held : HeldSet) {s : State} (h : s.configurable) (hb : optArg 4 b = none) :
    actSetPriorityLane [b] held (openFrame .setPriorityLane s) = (.range, openFrame .setPriorityLane s) := by
  unfold actSetPriorityLane
  simp only [inWindow_open h, hb]

theorem actSetPriorityLane_lane {b : Byte} {p : Option Lane} (held : HeldSet) {s : State} (h : s.configurable)
    (hb : optArg 4 b = some p) :
    actSetPriorityLane [b] held (openFrame .setPriorityLane s) =
      if s.prioConflict p then (.refused .conflict, openFrame .setPriorityLane s)
      else (.done [], setPriority p (openFrame .setPriorityLane s)) := by
  unfold actSetPriorityLane
  simp only [inWindow_open h, hb, openFrame_prioConflict]

/-- Settles O16: the window, the range of the byte, and the two outcomes of the conflict test. -/
theorem setPriorityLaneSetsTheDesignation : Obligations.SetPriorityLaneSetsTheDesignation := by
  intro s b hp
  refine ⟨fun hw => ?_, fun hw => ⟨fun hb hn => ?_, ?_⟩⟩
  · exact answers_of_act rfl hp (inWindow_closed hw _ _)
  · exact answers_of_act rfl hp (actSetPriorityLane_range _ hw (optArg_high hb hn))
  · rintro p rfl
    have ha := actSetPriorityLane_lane s.link.held hw (optArg_optByte p (by decide))
    refine ⟨fun hc => ?_, fun hm hd => ?_⟩
    · exact answers_of_act rfl hp (ha.trans (if_pos ((prioConflict_iff s p).2 hc)))
    · have hc : ¬s.prioConflict p = true := by
        rw [prioConflict_iff]
        rintro (⟨l, hl, hu⟩ | ⟨q, c, hq, hn, hr, hl⟩)
        · rcases hm l hl with h | h <;> simp [h] at hu
        · exact hd q c hq hn hr hl
      refine answers_of_act rfl hp (ha.trans ((if_neg hc).trans ?_))
      cases p with
      | none => simp [setPriority_none]
      | some l => simp [setPriority_some]

end Sys2Proof.Machine
end

section
/-! PROOFS. SET-TIMING (R7) and what a change of a parameter makes of the timers that run (R14). -/

namespace Sys2Proof.Machine

/-! ### The timing record -/

theorem Timing.get_set_same (t : Timing) (p : Param) (v : Nat) : (t.set p v).get p = v := by cases p <;> rfl

theorem Timing.get_set_other (t : Timing) {p q : Param} (v : Nat) (h : q ≠ p) : (t.set p v).get q = t.get q := by
  cases p <;> cases q <;> first | rfl | exact absurd rfl h

theorem Timing.set_get (t : Timing) (p : Param) : t.set p (t.get p) = t := by cases p <;> rfl

/-- A number names a parameter by its place in the table of 1.4. -/
theorem Param.ofNumber_eq (k : Nat) (h : k ≠ 0) : Param.ofNumber k = Param.all[k - 1]? := by
  by_cases hk : k ≤ 22
  · interval_cases k <;> first | rfl | exact absurd rfl h
  · rw [List.getElem?_eq_none (by simp [Param.all]; omega)]
    unfold Param.ofNumber
    split <;> first | omega | rfl

theorem Param.ofNumber_none {n : Byte} (h : n = 0 ∨ 22 < n.toNat) : Param.ofNumber n.toNat = none := by
  rcases h with rfl | h
  · rfl
  · rw [Param.ofNumber_eq _ (by omega), List.getElem?_eq_none (by simp [Param.all]; omega)]

theorem Param.ofNumber_some {n : Byte} {p : Param} (h : Param.all[n.toNat - 1]? = some p) (hn : n ≠ 0) :
    Param.ofNumber n.toNat = some p := by
  rw [Param.ofNumber_eq _ (fun e => hn (BitVec.eq_of_toNat_eq e)), h]

theorem Param.inRange_iff (p : Param) (v : Nat) :
    p.inRange v = true ↔ (p.bounds.1 ≤ v ∧ v ≤ p.bounds.2) ∨ (p = .linkLoss ∧ v = 0) := by
  simp [Param.inRange]

/-! ### The link mode under the opening of a frame (R146) -/

theorem sendNext_linkMode (s : State) : (sendNext s).link.mode = s.link.mode := by
  unfold sendNext
  split <;> rfl

theorem streamStart_linkMode (st : Stream) (s : State) : (streamStart st s).link.mode = s.link.mode := by
  unfold streamStart
  split
  · rw [sendNext_linkMode]; rfl
  · rfl

theorem pump_linkMode (s : State) : (pump s).link.mode = s.link.mode := by
  unfold pump
  split
  · rfl
  · split
    · exact sendNext_linkMode s
    · split
      · exact streamStart_linkMode _ s
      · rfl

theorem endStream_linkMode (s : State) : (endStream s).link.mode = s.link.mode := by
  unfold endStream
  split
  · exact pump_linkMode _
  · rfl

theorem toCentral_linkMode (s : State) : (toCentral s).link.mode = .central := by
  unfold toCentral
  split
  · assumption
  · rfl

theorem goodFrame_linkMode (s : State) : (goodFrame s).link.mode = .central :=
  (endStream_linkMode _).trans (toCentral_linkMode _)

/-- A frame that is taken finds the link in CENTRAL (R146). -/
theorem openFrame_linkMode (c : Cmd) (s : State) : (openFrame c s).link.mode = .central := by
  have h : (if c.isPrefix then goodFrame s else consumeHeld (goodFrame s)).link.mode = .central := by
    split <;> exact goodFrame_linkMode s
  unfold openFrame
  dsimp only
  split <;> exact h

/-! ### The settle time and the occupancy period at a change (R14, R31, R35) -/

theorem reached_mergeSettle {s : State} {t0 : Nat} (h : s.det.merge.state = .settling)
    (hf : s.det.merge.settleFrom = some t0) :
    (reachedAtChange .mergeSettle s).det.merge.state =
      if t0 + s.par .mergeSettle ≤ s.now then .clear else .settling := by
  have e : s.settleIn = some (t0 + s.par .mergeSettle - s.now) := by simp [State.settleIn, h, hf, State.until]
  unfold reachedAtChange
  by_cases hr : t0 + s.par .mergeSettle ≤ s.now
  · rw [if_pos hr]
    dsimp only
    rw [e, if_pos (by rw [Nat.sub_eq_zero_of_le hr])]
    exact congrArg MergeMon.state (setMerge_handoffs _ s).1
  · rw [if_neg hr]
    dsimp only
    rw [e, if_neg (by simp; omega)]
    exact h

theorem reached_period {s : State} (h : s.det.periodFrom + s.par .occupancyPeriod ≤ s.now) :
    reachedAtChange .occupancyPeriod s = periodCloses s :=
  if_pos (by simp [State.periodIn, State.until]; omega)

theorem not_reached_period {s : State} (h : s.now < s.det.periodFrom + s.par .occupancyPeriod) :
    reachedAtChange .occupancyPeriod s = s :=
  if_neg (by simp [State.periodIn, State.until]; omega)

/-- In CENTRAL the local selector notes the band of a close and does nothing more (R147). -/
theorem selectorClose_central {s : State} (h : s.link.mode = .central) : Only [.map] s (selectorClose s) := by
  unfold selectorClose
  split
  · exact Only.refl _ s
  · dsimp only
    rw [if_neg (by simp [h])]
    intro b hb
    cases b <;> simp_all [agree]

theorem periodCloses_central {s : State} (h : s.link.mode = .central) :
    Only [.chans, .occupancy, .map] s (periodCloses s) :=
  ((closePeriod_only s).mono (cs := [.chans, .occupancy, .map])).step (selectorClose_central h)

theorem periodCloses_measure {s : State} (h : s.link.mode = .central) :
    (periodCloses s).det.periodFrom = s.now ∧ (periodCloses s).det.occupancy = s.occupancyNow := by
  obtain ⟨ho, hp⟩ := (selectorClose_central (s := closePeriod s) h).same .occupancy
  exact ⟨hp, ho⟩

/-! ### The stray measures at a change (R14, R80) -/

/-- A lamp whose stray is found (R80). -/
def LampRec.strayed (r : LampRec) : LampRec :=
  { r with
    fault := .failedOn, noticeOnly := if r.fault = .failedOn then r.noticeOnly else false
    proving := .unproven, window := none, lostFrom := none }

theorem lamp_strayFound (l m : Lane) (col d : Colour) (s : State) :
    (strayFound l col s).lamp m d = if m = l ∧ d = col then (s.lamp l col).strayed else s.lamp m d := by
  unfold strayFound LampRec.strayed
  by_cases h : (s.lamp l col).fault = .failedOn
  · rw [if_pos h, lamp_modLamp, if_pos h, ← h]
    rfl
  · rw [if_neg h, if_neg h]
    exact lamp_modLamp s l m col d _

theorem handoffs_strayFound (l : Lane) (col : Colour) (s : State) :
    (strayFound l col s).handoffs = s.handoffs ++ if (s.lamp l col).fault ≠ .failedOn then [.report] else [] := by
  unfold strayFound
  by_cases h : (s.lamp l col).fault = .failedOn
  · simp [h, State.modLamp, State.modHead]
  · simp [h, State.modLamp, State.modHead, reportFailure, send]

theorem sign_strayFound (l : Lane) (col : Colour) (s : State) : (strayFound l col s).lamps.sign = s.lamps.sign := by
  unfold strayFound
  split <;> rfl

/-- Where strays are judged, a lamp lit against OFF is found if its measure reaches lamp_prove (R14, R80). -/
theorem strayIfOver_judging {s : State} (hj : s.judging = true) (l : Lane) (col : Colour) :
    strayIfOver l col s =
      if (s.lamp l col).strayFor (s.par .lampProve) s.now = true then strayFound l col s else s := by
  unfold strayIfOver State.strayFrom LampRec.strayFor
  by_cases hc : (s.lamp l col).commanded = .off ∧ (s.lamp l col).sensed = true
  · obtain ⟨hoff, hon⟩ := hc
    cases hw : (s.lamp l col).window <;> simp [hj, hoff, hon, hw]
  · simp [hj, hc]

/-- The record of a lamp, and the reports handed on, once its stray measure is compared with `n` tenths. -/
def LampRec.compared (n now : Nat) (r : LampRec) : LampRec := if r.strayFor n now = true then r.strayed else r

def LampRec.strayReports (n now : Nat) (r : LampRec) : List Handoff :=
  if r.strayFor n now = true ∧ r.fault ≠ .failedOn then [.report] else []

/-- The lamps `xs` of `s` have been compared with `n` tenths, in their order, and no other lamp and not the sign changed. -/
def StraysCompared (xs : List (Lane × Colour)) (n : Nat) (s t : State) : Prop :=
  (∀ m d, t.lamp m d = if (m, d) ∈ xs then (s.lamp m d).compared n s.now else s.lamp m d) ∧
  t.handoffs = s.handoffs ++ xs.flatMap (fun x => (s.lamp x.1 x.2).strayReports n s.now) ∧
  t.lamps.sign = s.lamps.sign

theorem strayIfOver_compared {s : State} (hj : s.judging = true) (x : Lane × Colour) :
    StraysCompared [x] (s.par .lampProve) s (strayIfOver x.1 x.2 s) := by
  obtain ⟨l, col⟩ := x
  unfold StraysCompared LampRec.compared LampRec.strayReports
  rw [strayIfOver_judging hj]
  by_cases h : (s.lamp l col).strayFor (s.par .lampProve) s.now = true
  · refine ⟨fun m d => ?_, ?_, ?_⟩
    · rw [if_pos h, lamp_strayFound]
      by_cases hm : m = l ∧ d = col
      · obtain ⟨rfl, rfl⟩ := hm
        simp [h]
      · simp [hm]
    · rw [if_pos h, handoffs_strayFound]
      simp [h]
    · rw [if_pos h, sign_strayFound]
  · refine ⟨fun m d => ?_, ?_, ?_⟩
    · by_cases hm : m = l ∧ d = col
      · obtain ⟨rfl, rfl⟩ := hm
        simp [h]
      · simp [h, hm]
    · simp [h]
    · simp [h]

/-- Comparing one lamp after another: a lamp compared is not among those still to compare. -/
theorem StraysCompared.cons {x : Lane × Colour} {xs : List (Lane × Colour)} {n : Nat} {s t u : State} (hx : x ∉ xs)
    (hn : t.now = s.now) (h : StraysCompared [x] n s t) (k : StraysCompared xs n t u) :
    StraysCompared (x :: xs) n s u := by
  obtain ⟨hl, hh, hs⟩ := h
  obtain ⟨kl, kh, ks⟩ := k
  have same : ∀ y ∈ xs, t.lamp y.1 y.2 = s.lamp y.1 y.2 := fun y hy => by
    rw [hl, if_neg]
    simp only [List.mem_singleton]
    rintro rfl
    exact hx hy
  refine ⟨fun m d => ?_, ?_, ks.trans hs⟩
  · rw [kl, hn]
    by_cases hm : (m, d) ∈ xs
    · rw [if_pos hm, same (m, d) hm, if_pos (List.mem_cons_of_mem x hm)]
    · rw [if_neg hm, hl]
      simp [hm]
  · have e : xs.flatMap (fun y => (t.lamp y.1 y.2).strayReports n s.now) =
        xs.flatMap (fun y => (s.lamp y.1 y.2).strayReports n s.now) :=
      List.flatMap_congr fun y hy => by rw [same y hy]
    rw [kh, hh, hn, e]
    simp

theorem straysCompared {xs : List (Lane × Colour)} (hx : xs.Nodup) {s : State} (hj : s.judging = true) :
    StraysCompared xs (s.par .lampProve) s (forAll xs (fun x => strayIfOver x.1 x.2) s) := by
  induction xs generalizing s with
  | nil => exact ⟨by simp [forAll], by simp [forAll], rfl⟩
  | cons x xs ih =>
    obtain ⟨hx, hxs⟩ := List.nodup_cons.1 hx
    have k := strayIfOver_only x.1 x.2 s
    have hp : (strayIfOver x.1 x.2 s).par .lampProve = s.par .lampProve := by
      simp only [State.par, show (strayIfOver x.1 x.2 s).desc = s.desc from k.same .desc]
    have hs : (strayIfOver x.1 x.2 s).judging = true := by
      simpa only [State.judging, State.startingUp, show (strayIfOver x.1 x.2 s).site = s.site from k.same .site] using hj
    exact (strayIfOver_compared hj x).cons hx (k.same .env).2.1 (hp ▸ ih hxs hs)

/-- The twelve lamps, in the order they are compared. -/
def everyLamp : List (Lane × Colour) := allLanes.flatMap (fun l => [(l, .red), (l, .amber), (l, .green)])

theorem mem_everyLamp (l : Lane) (col : Colour) : (l, col) ∈ everyLamp := by
  cases col <;> revert l <;> decide

theorem straysOfLanes_eq (s : State) :
    forAll allLanes straysOfLane s = forAll everyLamp (fun x => strayIfOver x.1 x.2) s := by
  unfold forAll everyLamp
  rw [List.foldl_flatMap]
  rfl

theorem reached_lampProve {s : State} (hj : s.judging = true) :
    StraysCompared everyLamp (s.par .lampProve) s (reachedAtChange .lampProve s) := by
  have e : reachedAtChange .lampProve s = forAll allLanes straysOfLane s := rfl
  rw [e, straysOfLanes_eq]
  exact straysCompared (by decide) hj

/-! ### SET-TIMING -/

/-- What a timer that reaches its new value can change, in CENTRAL. -/
abbrev reachedParts : List Part := [.merge, .handoffs, .lamps, .chans, .occupancy, .map]

theorem reachedAtChange_only (p : Param) {s : State} (h : s.link.mode = .central) :
    Only reachedParts s (reachedAtChange p s) := by
  unfold reachedAtChange
  split
  · exact Only.ite (fun _ => (setMerge_only _ s).mono) (fun _ => Only.refl _ s)
  · exact Only.ite (fun _ => (periodCloses_central h).mono) (fun _ => Only.refl _ s)
  · exact (Only.forAll straysOfLane_only allLanes s).mono
  · exact Only.refl _ s

/-- The state with one parameter written and nothing else changed. -/
def State.withPar (p : Param) (v : Nat) (s : State) : State :=
  { s with desc := { s.desc with timing := s.desc.timing.set p v } }

theorem withPar_only (p : Param) (v : Nat) (s : State) : Only [.desc] s (s.withPar p v) :=
  modDesc_only s (fun d => { d with timing := d.timing.set p v })

theorem withPar_par (p : Param) (v : Nat) (s : State) : (s.withPar p v).par p = v := Timing.get_set_same _ p v

theorem setPar_same {p : Param} {v : Nat} {s : State} (h : s.par p = v) : setPar p v s = s.withPar p v := by
  have e : s.desc.timing.set p v = s.desc.timing := by
    rw [← h]
    exact Timing.set_get s.desc.timing p
  unfold setPar State.withPar
  rw [if_pos h, e]

theorem setPar_changed {p : Param} {v : Nat} {s : State} (h : s.par p ≠ v) :
    setPar p v s = reachedAtChange p (s.withPar p v) := if_neg h

/-- A parameter that no running timer is compared with, and the value it holds, change nothing else (R7, R14). -/
theorem setPar_quiet {p : Param} {v : Nat} {s : State}
    (h : s.par p = v ∨ (p ≠ .mergeSettle ∧ p ≠ .lampProve ∧ p ≠ .occupancyPeriod)) : setPar p v s = s.withPar p v := by
  by_cases hv : s.par p = v
  · exact setPar_same hv
  · obtain ⟨h1, h2, h3⟩ := h.resolve_left hv
    rw [setPar_changed hv]
    unfold reachedAtChange
    split <;> first | contradiction | rfl

/-- After the write only what a timer brings about can differ. -/
theorem setPar_only (p : Param) (v : Nat) {s : State} (h : s.link.mode = .central) :
    Only reachedParts (s.withPar p v) (setPar p v s) := by
  by_cases hv : s.par p = v
  · rw [setPar_same hv]
    exact Only.refl _ _
  · rw [setPar_changed hv]
    exact reachedAtChange_only p h

theorem setPar_desc (p : Param) (v : Nat) {s : State} (h : s.link.mode = .central) :
    (setPar p v s).desc = { s.desc with timing := s.desc.timing.set p v } := (setPar_only p v h).same .desc

theorem setPar_par (p q : Param) (v : Nat) {s : State} (h : s.link.mode = .central) :
    (setPar p v s).par q = if q = p then v else s.par q := by
  unfold State.par
  rw [setPar_desc p v h]
  by_cases hq : q = p
  · rw [if_pos hq, hq]
    exact Timing.get_set_same _ p v
  · rw [if_neg hq]
    exact Timing.get_set_other _ v hq

theorem setPar_mergeSettle {s : State} {v t0 : Nat} (hv : s.par .mergeSettle ≠ v) (h : s.det.merge.state = .settling)
    (hf : s.det.merge.settleFrom = some t0) :
    (setPar .mergeSettle v s).det.merge.state = if t0 + v ≤ s.now then .clear else .settling := by
  rw [setPar_changed hv]
  have k := reached_mergeSettle (s := s.withPar .mergeSettle v) h hf
  rwa [withPar_par] at k

theorem setPar_period {s : State} {v : Nat} (hc : s.link.mode = .central) (hv : s.par .occupancyPeriod ≠ v)
    (h : s.det.periodFrom + v ≤ s.now) :
    (setPar .occupancyPeriod v s).det.periodFrom = s.now ∧
      (setPar .occupancyPeriod v s).det.occupancy = s.occupancyNow := by
  rw [setPar_changed hv, reached_period (by rw [withPar_par]; exact h)]
  exact periodCloses_measure (s := s.withPar .occupancyPeriod v) hc

theorem setPar_period_waits {s : State} {v : Nat} (h : s.now < s.det.periodFrom + v) :
    setPar .occupancyPeriod v s = s.withPar .occupancyPeriod v := by
  by_cases hv : s.par .occupancyPeriod = v
  · exact setPar_same hv
  · rw [setPar_changed hv, not_reached_period (by rw [withPar_par]; exact h)]

theorem setPar_lampProve {s : State} {v : Nat} (hj : s.judging = true) (hv : s.par .lampProve ≠ v) :
    StraysCompared everyLamp v s (setPar .lampProve v s) := by
  have k := reached_lampProve (s := s.withPar .lampProve v) hj
  rwa [withPar_par, ← setPar_changed hv] at k

theorem setPar_lampProve_only (v : Nat) (s : State) : Only [.desc, .lamps, .handoffs] s (setPar .lampProve v s) := by
  have w := (withPar_only .lampProve v s).mono (cs := [.desc, .lamps, .handoffs])
  by_cases hv : s.par .lampProve = v
  · rw [setPar_same hv]
    exact w
  · rw [setPar_changed hv]
    exact w.step (Only.forAll straysOfLane_only allLanes _)

theorem judging_of_configurable {s : State} (h : s.configurable) : s.judging = true := by
  rcases h with h | h <;> simp [State.judging, State.startingUp, h]

/-- Every lamp compared, read lamp by lamp. -/
theorem StraysCompared.lamp {n : Nat} {s t : State} (h : StraysCompared everyLamp n s t) (l : Lane) (col : Colour) :
    t.lamp l col = (s.lamp l col).compared n s.now := by
  rw [h.1, if_pos (mem_everyLamp l col)]

@[simp] theorem openFrame_lamp (c : Cmd) (s : State) (l : Lane) (col : Colour) :
    (openFrame c s).lamp l col = s.lamp l col := by
  simp [State.lamp, State.head]

theorem actSetTiming_none {args : List Byte} (held : HeldSet) {s : State} (h : s.configurable)
    (ha : timingArgs args = none) : actSetTiming args held (openFrame .setTiming s) = (.range, openFrame .setTiming s) := by
  unfold actSetTiming
  simp only [inWindow_open h, ha]

theorem actSetTiming_some {args : List Byte} {p : Param} {v : Nat} (held : HeldSet) {s : State} (h : s.configurable)
    (ha : timingArgs args = some (p, v)) :
    actSetTiming args held (openFrame .setTiming s) = (.done [], setPar p v (openFrame .setTiming s)) := by
  unfold actSetTiming
  simp only [inWindow_open h, ha]

theorem timingArgs_unknown {n : Byte} (hi lo : Byte) (h : n = 0 ∨ 22 < n.toNat) : timingArgs [n, hi, lo] = none := by
  unfold timingArgs
  simp only [Param.ofNumber_none h]

theorem timingArgs_known {n : Byte} {p : Param} (hi lo : Byte) (h : Param.all[n.toNat - 1]? = some p) (hn : n ≠ 0) :
    timingArgs [n, hi, lo] = if p.inRange (be16 hi lo) then some (p, be16 hi lo) else none := by
  unfold timingArgs
  simp only [Param.ofNumber_some h hn]

/-- Settles O18: the refusals, then the state an accepted frame leaves, part by part. -/
theorem setTimingSetsOneParameter : Obligations.SetTimingSetsOneParameter := by
  intro s n hi lo hp
  refine ⟨fun hw => ?_, fun hw hn => ?_, fun p hw hn h0 => ⟨fun hr => ?_, fun hr => ⟨fun hq => ?_, ?_⟩⟩, rfl,
    Param.inRange_iff⟩
  · exact answers_of_act rfl hp (inWindow_closed hw _ _)
  · exact answers_of_act rfl hp (actSetTiming_none _ hw (timingArgs_unknown hi lo hn))
  · exact answers_of_act rfl hp
      (actSetTiming_none _ hw ((timingArgs_known hi lo hn h0).trans (if_neg (by simp [hr]))))
  · refine answers_of_act rfl hp
      ((actSetTiming_some _ hw ((timingArgs_known hi lo hn h0).trans (if_pos hr))).trans ?_)
    rw [setPar_quiet (by simpa using hq)]
    simp [State.withPar]
  · have ha := actSetTiming_some s.link.held hw ((timingArgs_known hi lo hn h0).trans (if_pos hr))
    have hx := hostFrame_passes actSetTiming hp
    rw [ha] at hx
    have hc := openFrame_linkMode .setTiming s
    generalize be16 hi lo = v at *
    refine ⟨_, hx, ?_, ?_, ?_, ?_, ?_, ?_, ?_, ?_⟩
    · rw [setPar_desc p v hc, openFrame_desc]
    · rw [setPar_par p p v hc, if_pos rfl]
    · intro q hq
      rw [setPar_par p q v hc, if_neg hq, openFrame_par]
    · exact ((withPar_only p v _).mono (cs := .desc :: reachedParts)).step (setPar_only p v hc)
    · rintro t0 rfl hv hs hf
      rw [setPar_mergeSettle (by simpa using hv) (by simpa using hs) (by simpa using hf), openFrame_now]
    · rintro rfl hv hd
      have k := setPar_period hc (by simpa using hv) (by simpa using hd)
      simpa [State.occupancyNow, State.measured] using k
    · rintro rfl hd
      rw [setPar_period_waits (by simpa using hd)]
      exact withPar_only _ _ _
    · rintro rfl hv
      have hj : (openFrame .setTiming s).judging = true := judging_of_configurable (by simpa [State.configurable] using hw)
      have hk := setPar_lampProve (v := v) hj (by simpa using hv)
      have hl := hk.lamp
      obtain ⟨-, hh, hs⟩ := hk
      simp only [openFrame_lamp, openFrame_lamps, openFrame_now, openFrame_handoffs] at hl hh hs
      refine ⟨setPar_lampProve_only v _, hs, ?_, ?_⟩
      · rintro l col r rfl
        exact ⟨fun h => (hl l col).trans (if_pos h), fun h => (hl l col).trans (if_neg (by simp [h]))⟩
      · rw [hh]
        simp [everyLamp, allLanes, LampRec.strayReports]

end Sys2Proof.Machine
end

section
/-! PROOFS. The records keep their form over every step (R7, R18, R19, R155, R167): what an operation can do to a channel's
health, to the held prefixes, to a parameter and to the log, said once for each operation that can touch them. -/

namespace Sys2Proof.Machine

set_option Elab.async false

/-! ### The relation -/

/-- Each of the four records is in its form in `t` where it was in `s`. -/
structure FormKept (s t : State) : Prop where
  channels : s.channelsSound → t.channelsSound
  held : s.prefixSound → t.prefixSound
  timing : s.timingSound → t.timingSound
  log : s.logSound → t.logSound

theorem FormKept.refl (s : State) : FormKept s s := ⟨id, id, id, id⟩

theorem FormKept.trans {s t u : State} (h : FormKept s t) (k : FormKept t u) : FormKept s u :=
  ⟨k.channels ∘ h.channels, k.held ∘ h.held, k.timing ∘ h.timing, k.log ∘ h.log⟩

theorem FormKept.ite {s t u : State} {p : Prop} [Decidable p] (ht : p → FormKept s t) (hu : ¬p → FormKept s u) :
    FormKept s (if p then t else u) := by
  split
  · exact ht (by assumption)
  · exact hu (by assumption)

theorem FormKept.forAll {α : Type} {f : α → State → State} (hf : ∀ x t, FormKept t (f x t)) (xs : List α) (s : State) :
    FormKept s (forAll xs f s) := by
  induction xs generalizing s with
  | nil => exact FormKept.refl s
  | cons x xs ih => exact (hf x s).trans (ih (f x s))

/-- The parts none of the four records lies in. -/
abbrev quietParts : List Part :=
  [.env, .site, .merge, .monitors, .occupancy, .lanes, .lamps, .arb, .plans, .entries, .preempt, .map, .selection,
    .counts, .notices, .stream, .handoffs]

/-- An operation that leaves channels, site description and link alone keeps every form if it keeps the log's. -/
theorem Only.keptLog {bs : List Part} {s t : State} (h : Only bs s t) (hl : s.logSound → t.logSound)
    (hq : bs ⊆ .records :: quietParts := by decide) : FormKept s t := by
  have k : Only (.records :: quietParts) s t := h.mono hq
  have hc : t.det.chans = s.det.chans := k.same .chans
  have hd : t.desc = s.desc := k.same .desc
  have hk : { t.link with notices := 0, stream := none } = { s.link with notices := 0, stream := none } := k.same .link
  have hh : t.link.held = s.link.held := by simpa using congrArg Link.held hk
  refine ⟨fun a => ?_, fun a => ?_, fun a => ?_, hl⟩
  · simpa only [State.channelsSound, State.chan, hc] using a
  · simpa only [State.prefixSound, hh] using a
  · simpa only [State.timingSound, State.par, hd] using a

/-- An operation that leaves the log alone too keeps every form. -/
theorem Only.kept {bs : List Part} {s t : State} (h : Only bs s t) (hq : bs ⊆ quietParts := by decide) :
    FormKept s t := by
  have k : Only quietParts s t := h.mono hq
  obtain ⟨hr, hn⟩ : t.log.records = s.log.records ∧ t.log.lost = s.log.lost := k.same .records
  refine k.keptLog (fun a => ?_)
  simpa only [State.logSound, hr, hn] using a

/-! ### The four records' own updates -/

theorem modChan_kept {s : State} {c : Chan} {f : Channel → Channel}
    (hf : (s.chan c).healthSound → (f (s.chan c)).healthSound) : FormKept s (s.modChan c f) := by
  refine ⟨fun a d => ?_, id, id, id⟩
  rw [chan_modChan]
  split
  · exact hf (a c)
  · exact a d

/-- A change of every channel that leaves role, health and cause alone. -/
theorem mapChans_kept {s t : State} {f : Channel → Channel}
    (hf : ∀ r, (f r).role = r.role ∧ (f r).health = r.health ∧ (f r).cause = r.cause)
    (hc : t.det.chans = Bank.mapAll f s.det.chans) (hh : t.link = s.link) (hd : t.desc = s.desc) (hl : t.log = s.log) :
    FormKept s t := by
  refine ⟨fun a d => ?_, fun a => ?_, fun a => ?_, fun a => ?_⟩
  · have e : t.chan d = f (s.chan d) := by simp only [State.chan, hc, Bank.at_mapAll]
    obtain ⟨hr, hq, hw⟩ := hf (s.chan d)
    simpa only [e, Channel.healthSound, hr, hq, hw] using a d
  · simpa only [State.prefixSound, hh] using a
  · simpa only [State.timingSound, State.par, hd] using a
  · simpa only [State.logSound, hl] using a

theorem modLink_kept {s : State} {f : Link → Link}
    (hf : s.prefixSound → (f s.link).held.since.isSome = (f s.link).held.any) : FormKept s (s.modLink f) :=
  ⟨id, hf, id, id⟩

theorem modDesc_kept {s : State} {f : SiteDesc → SiteDesc}
    (hf : s.timingSound → ∀ p : Param, p.inRange ((f s.desc).timing.get p) = true) : FormKept s (s.modDesc f) :=
  ⟨id, id, hf, id⟩

theorem modLog_kept {s : State} {f : PassLog → PassLog}
    (hf : s.logSound → (f s.log).records.length ≤ logRoom ∧ (f s.log).lost ≤ 65535) : FormKept s (s.modLog f) :=
  ⟨id, id, id, hf⟩

theorem advance_kept (k : Nat) (s : State) : FormKept s (advance k s) :=
  mapChans_kept (f := Channel.elapse s.metering k) (fun _ => ⟨rfl, rfl, rfl⟩) rfl rfl rfl rfl

theorem atReset_healthSound (r : Channel) : r.atReset.healthSound := by
  simp [Channel.healthSound, Channel.atReset, Channel.reset]

theorem default_inRange (p : Param) : p.inRange (Timing.default.get p) = true := by cases p <;> rfl

/-- A power-on leaves every record in its form, whatever was before. -/
theorem powerUp_kept (r s : State) : FormKept r (powerUp s) := by
  refine ⟨fun _ c => ?_, fun _ => rfl, fun _ => default_inRange, fun _ => ⟨Nat.zero_le _, Nat.zero_le _⟩⟩
  rw [powerUp_chan]
  exact atReset_healthSound _

/-! ### The log and what ends in a write into it (R155) -/

theorem writeRec_kept (r : PassRec) (s : State) : FormKept s (writeRec r s) := by
  refine (writeRec_only r s).keptLog fun ⟨hn, hm⟩ => ?_
  simp only [logRoom] at hn
  unfold State.logSound logRoom
  by_cases h : s.log.records.length < 256
  · rw [(writeRec_room h).1]
    simp; omega
  · rw [(writeRec_full (by omega)).1]
    simp; omega

theorem endRelease_kept (l : Lane) (s : State) : FormKept s (endRelease l s) := by
  have e : FormKept s
      (if (s.lane l).cut then countCut (writeRec (s.recordNow l .cut (s.lane l).grant (s.shortfall l)) s) else s) :=
    FormKept.ite (fun _ => (writeRec_kept _ s).trans (countSlip_only _ _).kept) (fun _ => FormKept.refl s)
  unfold endRelease
  dsimp only
  split
  · exact e.trans (send_only _ _).kept
  · exact e

theorem greenToAmber_kept (l : Lane) (s : State) : FormKept s (greenToAmber l s) :=
  ((enterState_only l .amber s).kept.trans (modLane_only _ l _).kept).trans (endRelease_kept l _)

theorem greenToOpen_kept (l : Lane) (s : State) : FormKept s (greenToOpen l s) :=
  ((modLane_only s l _).kept.trans (endRelease_kept l _)).trans (modLane_only _ l _).kept

theorem tryEndGreen_kept (l : Lane) (s : State) : FormKept s (tryEndGreen l s) :=
  FormKept.ite (fun _ => greenToAmber_kept l s) (fun _ => FormKept.refl s)

theorem settleRed_kept (l : Lane) (s : State) : FormKept s (settleRed l s) := (settleRed_only l s).kept

theorem takeGrant_kept (l : Lane) (g : BitVec 16) (n : Nat) (s : State) : FormKept s (takeGrant l g n s) := by
  have e := (enterState_only l .green s).kept.trans (modLane_only _ l (fun r =>
    { r with
      onsetAt := some s.now
      grant := some g
      size := some n
      greenFor := some (s.greenTime n)
      passages := 0
      cut := false
      inQueue := false })).kept
  exact FormKept.ite (fun _ => e.trans (greenToOpen_kept l _)) (fun _ => e)

theorem passage_kept (l : Lane) (s : State) : FormKept s (passage l s) := by
  unfold passage
  refine FormKept.ite (fun _ => FormKept.refl s) (fun _ => ?_)
  have e : ∀ r, FormKept s (countPassage l (writeRec r s)) :=
    fun r => (writeRec_kept r s).trans (countLane_only l _ _).kept
  refine (FormKept.trans ?_ (modLane_only _ l _).kept).trans (tryEndGreen_kept l _)
  exact FormKept.ite (fun _ => (e _).trans (countLane_only l _ _).kept) (fun _ => e _)

theorem noShowDecision_kept (l : Lane) (s : State) : FormKept s (noShowDecision l s) :=
  FormKept.ite (fun _ => ((writeRec_kept _ s).trans (countLane_only l _ _).kept).trans (chainNoShow_only l _).kept)
    (fun _ => FormKept.refl s)

theorem goRed_kept (l : Lane) (s : State) : FormKept s (goRed l s) :=
  ((enterState_only l .red s).kept.trans (modLane_only _ l _).kept).trans (noShowDecision_kept l _)

theorem tryCloseOpen_kept (l : Lane) (s : State) : FormKept s (tryCloseOpen l s) :=
  FormKept.ite (fun _ => (openToAmber_only l s).kept) (fun _ => FormKept.refl s)

theorem takeBusy_kept (l : Lane) (s : State) : FormKept s (takeBusy l s) :=
  FormKept.ite (fun _ => (modLane_only s l _).kept.trans (tryEndGreen_kept l _)) (fun _ => FormKept.refl s)

theorem laneTakes_kept (l : Lane) (g : Option Gov) (s : State) : FormKept s (laneTakes l g s) := by
  have e : FormKept s (s.modLane l (fun r => { r with gov := g })) := (modLane_only s l _).kept
  unfold laneTakes
  refine FormKept.ite (fun _ => ?_) (fun _ => e)
  split
  · exact e.trans (FormKept.ite (fun _ => greenToOpen_kept l _) (fun _ => tryEndGreen_kept l _))
  · exact e.trans (tryCloseOpen_kept l _)
  · exact e.trans (settleRed_kept l _)
  all_goals exact e

theorem takeLaneGov_kept (l : Lane) (s : State) : FormKept s (takeLaneGov l s) := by
  unfold takeLaneGov
  split
  · exact (takeOff_only _ s).kept.trans (laneTakes_kept _ _ _)
  · exact FormKept.refl s

theorem grantUnder_kept (p : Plan) (l : Lane) (s : State) : FormKept s (grantUnder p l s) :=
  (((modArb_only s _).kept.trans (unqueue_only l _).kept).trans (countGrant_only l _).kept).trans
    ((takeGrant_kept l _ _ _).trans (settleReds_only _).kept)

theorem makeGrant_kept (c : Lane × Bool) (s : State) : FormKept s (makeGrant c s) := by
  unfold makeGrant
  split
  · exact FormKept.refl s
  · refine FormKept.trans (FormKept.trans ?_ (promote_only _ _).kept) (grantUnder_kept _ _ _)
    exact FormKept.ite (fun _ => (refillCredits_only s).kept) (fun _ => FormKept.refl s)

theorem grantNow_kept (s : State) : FormKept s (grantNow s) := by
  unfold grantNow
  split
  · exact makeGrant_kept _ s
  · exact FormKept.refl s

/-! ### The site's changes of state (R44, R45, R46) -/

theorem restartStuckOff_kept (s : State) : FormKept s (restartStuckOff s) :=
  mapChans_kept (f := fun c => { c with sinceActuation := 0 }) (fun _ => ⟨rfl, rfl, rfl⟩) rfl rfl rfl rfl

theorem enterMetering_kept (s : State) : FormKept s (enterMetering s) := by
  have reds : ∀ t, FormKept t (forAll allLanes firstRed t) :=
    FormKept.forAll (fun l t => FormKept.ite (fun _ => goRed_kept l t) (fun _ => FormKept.refl t)) allLanes
  have entered : FormKept s (restartStuckOff (takeGoverning (forAll allLanes firstRed (enterSite .metering s)))) :=
    (((enterSite_only .metering s).kept.trans (reds _)).trans (takeGoverning_only _).kept).trans (restartStuckOff_kept _)
  exact ((entered.trans (refreshMonitors_only _).kept).trans (leaveShutIfOpen_only _).kept).trans
    ((syncSign_only _).kept.trans (raise_only _ _).kept)

theorem makeForOpen_kept (l : Lane) (s : State) : FormKept s (makeForOpen l s) := by
  unfold makeForOpen
  split
  · exact greenToOpen_kept l s
  · exact settleRed_kept l s
  all_goals exact FormKept.refl s

theorem enterStopping_kept (s : State) : FormKept s (enterStopping s) :=
  (((enterSite_only .stopping s).kept.trans (leaveMetering_only _).kept).trans (enterShut_only true _).kept).trans
    ((FormKept.forAll makeForOpen_kept allLanes _).trans
      ((syncSign_only _).kept.trans (armStopFlush_only _).kept))

theorem stopMetering_kept (s : State) : FormKept s (stopMetering s) := by
  unfold stopMetering
  split
  · exact (finishToDark_only s).kept
  · exact enterStopping_kept s
  all_goals exact FormKept.refl s

/-! ### The close of an occupancy period (R35, R147, R148) -/

theorem localPlan_kept (i : Slot) (s : State) : FormKept s (localPlan i s) := by
  have e : FormKept s (selectSlot i s) := (selectSlot_only i s).kept
  have st : FormKept s (startIfAllowed (selectSlot i s)) :=
    e.trans (FormKept.ite (fun _ => (enterStarting_only _).kept) (fun _ => FormKept.refl _))
  unfold localPlan
  cases s.site.state with
  | dark => exact st
  | starting | metering | stopping | failsafe => exact e
  | start | lamptest => exact FormKept.refl s

theorem localAct_kept (e : Option Slot) (s : State) : FormKept s (localAct e s) := by
  unfold localAct
  split
  · split
    · exact localPlan_kept _ s
    · exact FormKept.refl s
  · exact stopMetering_kept s

theorem selectorClose_kept (s : State) : FormKept s (selectorClose s) := by
  unfold selectorClose
  split
  · exact FormKept.refl s
  · exact FormKept.ite (fun _ => (modSel_only s _).kept.trans (localAct_kept _ _)) (fun _ => (modSel_only s _).kept)

theorem periodCloses_kept (s : State) : FormKept s (periodCloses s) := by
  refine FormKept.trans ?_ (selectorClose_kept _)
  exact mapChans_kept (f := fun c => { c with occupiedPeriod := 0 }) (fun _ => ⟨rfl, rfl, rfl⟩) rfl rfl rfl rfl

/-! ### The channels (R18, R19) -/

theorem actuated_healthSound {r : Channel} (h : r.healthSound) : r.actuated.healthSound := by
  cases hh : r.health <;> simp_all [Channel.healthSound, Channel.actuated]

theorem cleared_healthSound {r : Channel} (h : r.healthSound) : r.cleared.healthSound := by
  cases hh : r.health <;> simp_all [Channel.healthSound, Channel.cleared]

theorem forcedGood_healthSound (r : Channel) : r.forcedGood.healthSound := by
  simp [Channel.healthSound, Channel.forcedGood]

theorem rebound_healthSound (k : ChanConfig) (r : Channel) : (r.rebound k).healthSound := by
  simp [Channel.healthSound, Channel.rebound, Channel.withConfig]

/-- A new configuration that keeps the role keeps the record's form. -/
theorem withConfig_healthSound {k : ChanConfig} {r : Channel} (hr : r.role = k.role) (h : r.healthSound) :
    (r.withConfig k).healthSound := by
  simpa [Channel.healthSound, Channel.withConfig, hr] using h

theorem refresh_kept (s : State) : FormKept s (refresh s) := (refresh_only s).kept

theorem takeActuation_kept (c : Chan) (s : State) : FormKept s (takeActuation c s) := by
  have e : FormKept s (s.modChan c Channel.actuated) := modChan_kept actuated_healthSound
  have u : FormKept s (if (s.chan c).health = .stuckOff then raise .detector (s.modChan c Channel.actuated)
      else s.modChan c Channel.actuated) := FormKept.ite (fun _ => e.trans (raise_only _ _).kept) (fun _ => e)
  unfold takeActuation
  exact (FormKept.ite (fun _ => u.trans (send_only _ _).kept) (fun _ => u)).trans (refresh_kept _)

theorem takeClearing_kept (c : Chan) (s : State) : FormKept s (takeClearing c s) := by
  have e : FormKept s (s.modChan c Channel.cleared) := modChan_kept cleared_healthSound
  have u : FormKept s (if (s.chan c).health = .stuckOn then raise .detector (s.modChan c Channel.cleared)
      else s.modChan c Channel.cleared) := FormKept.ite (fun _ => e.trans (raise_only _ _).kept) (fun _ => e)
  unfold takeClearing
  dsimp only
  split
  · exact (u.trans (passage_kept _ _)).trans (refresh_kept _)
  · exact u.trans (refresh_kept _)

theorem takeIfHeld_kept (c : Chan) (s : State) : FormKept s (takeIfHeld c s) :=
  FormKept.ite (fun _ => takeActuation_kept c s)
    (fun _ => FormKept.ite (fun _ => takeClearing_kept c s) (fun _ => FormKept.refl s))

theorem inputChange_kept (c : Chan) (level : Bool) (s : State) : FormKept s (inputChange c level s) :=
  FormKept.ite (fun _ => FormKept.refl s) (fun _ => (modChan_kept id).trans (takeIfHeld_kept c _))

/-- A cause that fits a fault. -/
def causeFits (h : Health) (w : Cause) : Prop := h ≠ .good ∧ (h = .stuckOff ↔ w = .noActuation)

/-- A fault with a cause that fits, at a channel with a role, leaves the record in its form (R18, R19). -/
theorem becomeStuck_kept {c : Chan} {h : Health} {w : Cause} {s : State} (hw : causeFits h w)
    (hr : (s.chan c).role ≠ .none) : FormKept s (becomeStuck c h w s) := by
  obtain ⟨hg, hf⟩ := hw
  refine ((modChan_kept fun _ => ?_).trans (raise_only _ _).kept).trans (refresh_kept _)
  simp [Channel.healthSound, hg, hf, hr]

/-- Only a channel with a role is ever due to be stuck. -/
theorem role_of_supervised {r : Channel} (h : r.supervised = true) : r.role ≠ .none := by
  simp [Channel.supervised] at h
  exact h.1

theorem stuckOnIn_role {s : State} {c : Chan} (h : (s.stuckOnIn c).isSome = true) : (s.chan c).role ≠ .none := by
  apply role_of_supervised
  by_contra hs
  simp [State.stuckOnIn, hs] at h

theorem stuckOffIn_role {s : State} {c : Chan} (h : (s.stuckOffIn c).isSome = true) : (s.chan c).role ≠ .none := by
  apply role_of_supervised
  by_contra hs
  simp [State.stuckOffIn, hs] at h

theorem advance_chan (k : Nat) (s : State) (c : Chan) :
    (advance k s).chan c = (s.chan c).elapse s.metering k := Bank.at_mapAll _ _ c

theorem stickIfOver_kept (c : Chan) (s : State) : FormKept s (stickIfOver c s) :=
  FormKept.ite (fun h => becomeStuck_kept (by simp [causeFits]) (stuckOnIn_role (by rw [h]; rfl)))
    (fun _ => FormKept.refl s)

theorem takeClaim_kept (l : Lane) (c : Chan) (s : State) : FormKept s (takeClaim l c s) :=
  FormKept.ite (fun ⟨_, _, hr, _⟩ => becomeStuck_kept (by simp [causeFits]) (by simp [hr])) (fun _ => FormKept.refl s)

theorem takeClaimOf_kept (l : Lane) (s : State) : FormKept s (takeClaimOf l s) := by
  unfold takeClaimOf
  split
  · exact (takeOff_only _ s).kept.trans (takeClaim_kept _ _ _)
  · exact FormKept.refl s

theorem forceGood_kept (c : Chan) (s : State) : FormKept s (forceGood c s) :=
  FormKept.ite (fun _ => FormKept.refl s) (fun _ =>
    ((modChan_kept fun _ => forcedGood_healthSound _).trans (raise_only _ _).kept).trans (refresh_kept _))

theorem configure_kept (c : Chan) (k : ChanConfig) (s : State) : FormKept s (configure c k s) := by
  have taken : ∀ t, FormKept s t → FormKept s (takeIfHeld c (refresh t)) :=
    fun t h => (h.trans (refresh_kept t)).trans (takeIfHeld_kept c _)
  refine FormKept.ite (fun _ => FormKept.refl s) (fun _ => FormKept.ite (fun ⟨hr, _⟩ => ?_) (fun _ => taken _ ?_))
  · exact (taken _ (modChan_kept (withConfig_healthSound hr))).trans (stickIfOver_kept c _)
  · have e : FormKept s (s.modChan c (Channel.rebound k)) := modChan_kept fun _ => rebound_healthSound k _
    exact FormKept.ite (fun _ => e) (fun _ => e.trans (raise_only _ _).kept)

/-! ### The parameters (R7) -/

theorem withPar_kept {p : Param} {v : Nat} (hv : p.inRange v = true) (s : State) : FormKept s (s.withPar p v) := by
  refine modDesc_kept (f := fun d => { d with timing := d.timing.set p v }) fun a q => ?_
  by_cases hq : q = p
  · subst hq
    exact (Timing.get_set_same s.desc.timing q v).symm ▸ hv
  · exact (Timing.get_set_other s.desc.timing v hq).symm ▸ a q

theorem reachedAtChange_kept (p : Param) (s : State) : FormKept s (reachedAtChange p s) := by
  unfold reachedAtChange
  split
  · exact FormKept.ite (fun _ => (setMerge_only _ s).kept) (fun _ => FormKept.refl s)
  · exact FormKept.ite (fun _ => periodCloses_kept s) (fun _ => FormKept.refl s)
  · exact (Only.forAll straysOfLane_only allLanes s).kept
  · exact FormKept.refl s

theorem setPar_kept {p : Param} {v : Nat} (hv : p.inRange v = true) (s : State) : FormKept s (setPar p v s) :=
  FormKept.ite (fun _ => FormKept.refl s) (fun _ => (withPar_kept hv s).trans (reachedAtChange_kept p _))

/-- The arguments of SET-TIMING name a value in its parameter's range (R7). -/
theorem timingArgs_inRange {args : List Byte} {p : Param} {v : Nat} (h : timingArgs args = some (p, v)) :
    p.inRange v = true := by
  unfold timingArgs at h
  split at h
  · split at h
    · split at h
      · obtain ⟨rfl, rfl⟩ := Prod.mk.inj (Option.some.inj h)
        assumption
      · exact absurd h (by simp)
    · exact absurd h (by simp)
  · exact absurd h (by simp)

/-! ### The link (R163 to R168) -/

theorem formReply_kept (code : Byte) (v : Verdict) (data : List Byte) (s : State) :
    FormKept s (formReply code v data s) := by
  unfold formReply
  exact modLink_kept id

theorem endFrame_kept (st : Stream) (s : State) : FormKept s (endFrame st s) :=
  (modLink_kept id).trans (formReply_kept _ _ _ _)

theorem sendNext_kept (s : State) : FormKept s (sendNext s) := by
  unfold sendNext
  split
  · exact modLink_kept id
  · exact FormKept.refl s

theorem streamStart_kept (st : Stream) (s : State) : FormKept s (streamStart st s) :=
  FormKept.ite (fun _ => (endFrame_kept st s).trans (sendNext_kept _)) (fun _ => modLink_kept id)

theorem pump_kept (s : State) : FormKept s (pump s) := by
  unfold pump
  refine FormKept.ite (fun _ => FormKept.refl s) (fun _ => ?_)
  split
  · exact sendNext_kept s
  · split
    · exact streamStart_kept _ s
    · exact FormKept.refl s

theorem reply_kept (code : Byte) (v : Verdict) (data : List Byte) (s : State) : FormKept s (reply code v data s) :=
  (formReply_kept code v data s).trans (pump_kept _)

theorem endStream_kept (s : State) : FormKept s (endStream s) := by
  unfold endStream
  split
  · exact (endFrame_kept _ s).trans (pump_kept _)
  · exact FormKept.refl s

/-- The record that was sent leaves the log, which is then shorter (R158). -/
theorem recordSent_kept (s : State) : FormKept s (recordSent s) := by
  unfold recordSent
  split
  · exact FormKept.refl s
  · split
    · exact FormKept.refl s
    · refine FormKept.trans ?_ (pump_kept _)
      refine FormKept.ite (fun _ => modLink_kept id) (fun _ => (modLink_kept id).trans (modLog_kept fun ⟨hn, hm⟩ => ?_))
      exact ⟨le_trans (by simp) hn, hm⟩

theorem replySent_kept (s : State) : FormKept s (replySent s) := (modLink_kept id).trans (pump_kept _)

theorem discardHeld_kept (s : State) : FormKept s (discardHeld s) := modLink_kept fun _ => rfl

theorem consumeHeld_kept (s : State) : FormKept s (consumeHeld s) := modLink_kept fun _ => rfl

theorem discardSelection_kept (s : State) : FormKept s (discardSelection s) :=
  (modLink_kept id).trans (modSel_only _ _).kept

theorem discardAll_kept (s : State) : FormKept s (discardAll s) :=
  ((discardHeld_kept s).trans (discardSelection_kept _)).trans (modLink_kept id)

theorem toCentral_kept (s : State) : FormKept s (toCentral s) := by
  unfold toCentral
  split
  · exact FormKept.refl s
  · exact (modLink_kept id).trans (raise_only _ _).kept

theorem goodFrame_kept (s : State) : FormKept s (goodFrame s) :=
  ((modLink_kept id).trans (toCentral_kept _)).trans
    (FormKept.trans (modLink_kept id : FormKept _ (restartLoss _)) (endStream_kept _))

theorem openFrame_kept (c : Cmd) (s : State) : FormKept s (openFrame c s) := by
  have u : FormKept s (if c.isPrefix then goodFrame s else consumeHeld (goodFrame s)) :=
    FormKept.ite (fun _ => goodFrame_kept s) (fun _ => (goodFrame_kept s).trans (consumeHeld_kept _))
  exact FormKept.ite (fun _ => u) (fun _ => u.trans (discardSelection_kept _))

theorem answer_kept (code : Byte) (a : Answer) (s : State) : FormKept s (answer code a s) := by
  cases a with
  | done data => exact reply_kept ..
  | range => exact reply_kept ..
  | order => exact reply_kept ..
  | refused r => exact reply_kept ..
  | streaming => exact FormKept.refl s

/-- What an act must do for its frame to keep the records' form. -/
def Act.Keeps (act : Act) : Prop := ∀ args held s, FormKept s (act args held s).2

theorem takeFrame_kept (c : Cmd) {act : Act} (h : act.Keeps) (args : List Byte) (s : State) :
    FormKept s (takeFrame c act args s) := by
  refine FormKept.ite (fun _ => discardAll_kept s) (fun _ => ?_)
  refine ((openFrame_kept c s).trans ?_).trans (answer_kept _ _ _)
  unfold runFrame
  split
  · exact FormKept.ite (fun _ => (setSelection_only _ _).kept) (fun _ => FormKept.refl _)
  · exact h _ _ _

/-- The time of hold runs while a selection is held (R167). -/
theorem holdPrefix_kept {f : HeldSet → HeldSet} (hf : ∀ (h : HeldSet) (n : Option Nat), ({ f h with since := n }).any = true)
    (s : State) : FormKept s (holdPrefix f s) := by
  refine modLink_kept fun h => ?_
  rw [hf]
  dsimp only
  split
  · next ha => exact (h : _ = _).trans ha
  · rfl

theorem takePrefix_kept {f : HeldSet → HeldSet} (hf : ∀ (h : HeldSet) (n : Option Nat), ({ f h with since := n }).any = true)
    (already : Bool) (s : State) : FormKept s (takePrefix already f s).2 := by
  unfold takePrefix
  cases already
  · exact holdPrefix_kept hf s
  · exact FormKept.refl s

end Sys2Proof.Machine
end

section
/-! PROOFS. The rows of the table, and the step: each act of a command frame and each event keeps the records' form. -/

namespace Sys2Proof.Machine

set_option Elab.async false

/-! ### The acts of the command frames -/

/-- An act that only reads. -/
theorem reads_kept (f : List Byte → HeldSet → State → Answer) : Act.Keeps (fun args held s => (f args held s, s)) :=
  fun _ _ s => FormKept.refl s

theorem actBegin_kept : Act.Keeps actBegin := fun _ _ s =>
  FormKept.ite (fun _ => (modLink_kept id : FormKept s (markBegun s)).trans (modSite_only _ _).kept)
    (fun _ => modLink_kept id)

theorem actTakeNotice_kept : Act.Keeps actTakeNotice := by
  intro args held s
  unfold actTakeNotice
  split
  · exact (modLink_kept id : FormKept s (clearNotice _ s))
  · exact FormKept.refl s

theorem actSetNoticeMask_kept : Act.Keeps actSetNoticeMask := by
  intro args held s
  unfold actSetNoticeMask
  split
  · next m => exact (modLink_kept id : FormKept s (s.modLink (fun k => { k with mask := m })))
  · exact FormKept.refl s

theorem actSetTime_kept : Act.Keeps actSetTime := by
  intro args held s
  unfold actSetTime
  split
  · exact ⟨id, id, id, id⟩
  · exact FormKept.refl s

theorem actPfxLane_kept : Act.Keeps actPfxLane := by
  intro args held s
  unfold actPfxLane
  split
  · split
    · exact takePrefix_kept (fun h n => by simp [HeldSet.any]) _ s
    · exact FormKept.refl s
  · exact FormKept.refl s

theorem actPfxPlan_kept : Act.Keeps actPfxPlan := by
  intro args held s
  unfold actPfxPlan
  split
  · split
    · exact takePrefix_kept (fun h n => by simp [HeldSet.any]) _ s
    · exact FormKept.refl s
  · exact FormKept.refl s

theorem actPfxChannel_kept : Act.Keeps actPfxChannel := by
  intro args held s
  unfold actPfxChannel
  split
  · split
    · exact takePrefix_kept (fun h n => by simp [HeldSet.any]) _ s
    · exact FormKept.refl s
  · exact FormKept.refl s

theorem inWindow_kept {s : State} {a : Answer × State} (h : FormKept s a.2) : FormKept s (inWindow s a).2 := by
  unfold inWindow
  split
  · exact h
  · exact FormKept.refl s

theorem setMode_kept (l : Lane) (m : LaneMode) (s : State) : FormKept s (setMode l m s) :=
  FormKept.ite (fun _ => FormKept.refl s) (fun _ => (modDesc_kept id).trans (modLane_only _ l _).kept)

theorem actSetLane_kept : Act.Keeps actSetLane := by
  intro args held s
  refine inWindow_kept ?_
  split
  · split
    · split
      · exact FormKept.refl s
      · exact setMode_kept _ _ s
    · exact FormKept.refl s
  · exact FormKept.refl s

theorem setPriority_kept (p : Option Lane) (s : State) : FormKept s (setPriority p s) :=
  FormKept.ite (fun _ => FormKept.refl s) (fun _ => (modDesc_kept id).trans (modArb_only _ _).kept)

theorem actSetPriorityLane_kept : Act.Keeps actSetPriorityLane := by
  intro args held s
  refine inWindow_kept ?_
  split
  · split
    · split
      · exact FormKept.refl s
      · exact setPriority_kept _ s
    · exact FormKept.refl s
  · exact FormKept.refl s

theorem actSetChannel_kept : Act.Keeps actSetChannel := by
  intro args held s
  refine inWindow_kept ?_
  split
  · split
    · exact configure_kept _ _ s
    · exact FormKept.refl s
  · exact FormKept.refl s

theorem actSetTiming_kept : Act.Keeps actSetTiming := by
  intro args held s
  refine inWindow_kept ?_
  split
  · next p v h => exact setPar_kept (timingArgs_inRange h) s
  · exact FormKept.refl s

theorem actResetChannel_kept : Act.Keeps actResetChannel := fun _ _ s => forceGood_kept _ s

theorem actSiteReset_kept : Act.Keeps actSiteReset := by
  intro args held s
  unfold actSiteReset
  split
  · exact FormKept.refl s
  · exact (siteToDark_only s).kept

theorem actStartMetering_kept : Act.Keeps actStartMetering := by
  intro args held s
  unfold actStartMetering
  cases s.startCheck with
  | passes => exact (enterStarting_only s).kept
  | wrongState | noPlan | noLane => exact FormKept.refl s

theorem actStopMetering_kept : Act.Keeps actStopMetering := fun _ _ s => stopMetering_kept s

theorem actClearFailsafe_kept : Act.Keeps actClearFailsafe := by
  intro args held s
  unfold actClearFailsafe
  split
  · exact (clearFailsafe_only s).kept
  · exact FormKept.refl s

theorem actClearAmberFault_kept : Act.Keeps actClearAmberFault := fun _ held s =>
  (Only.forAll (f := clearAmber) (fun l t => modLamp_only t l .amber _) (lanesFor held.lane) s).kept

theorem clearStaged_only (s : State) : Only [.plans] s (clearStaged s) := modPlans_only s _

theorem setGuard_only (g : Fin 4) (on : Bool) (s : State) : Only [.plans] s (setGuard g on s) := modPlans_only s _

theorem assignMap_only (e : Option Slot) (s : State) : Only [.map, .selection] s (assignMap e s) := modSel_only s _

theorem setSlot_only (i : Slot) (p : Option Plan) (s : State) : Only [.plans] s (setSlot i p s) := modPlans_only s _

theorem changeSlot_kept (i : Slot) (p : Option Plan) (s : State) : FormKept s (changeSlot i p s).2 := by
  unfold changeSlot
  split
  · exact FormKept.refl s
  · split
    · exact FormKept.refl s
    · exact (setSlot_only i p s).kept

theorem actWritePlan_kept : Act.Keeps actWritePlan := by
  intro args held s
  unfold actWritePlan
  split
  · split
    · exact changeSlot_kept _ _ s
    · exact FormKept.refl s
  · exact FormKept.refl s

theorem actReadPlan_kept : Act.Keeps actReadPlan := by
  intro args held s
  unfold actReadPlan
  split
  · split <;> exact FormKept.refl s
  · exact FormKept.refl s

theorem actErasePlan_kept : Act.Keeps actErasePlan := fun _ _ s => changeSlot_kept _ _ s

theorem actSelectPlan_kept : Act.Keeps actSelectPlan := by
  intro args held s
  unfold actSelectPlan
  split
  · split
    · exact (selectSlot_only _ s).kept
    · exact FormKept.refl s
  · exact (clearStaged_only s).kept

theorem guardGroup_kept (on : Bool) (args : List Byte) (s : State) : FormKept s (guardGroup on args s).2 := by
  unfold guardGroup
  split
  · split
    · exact (setGuard_only _ on s).kept
    · exact FormKept.refl s
  · exact FormKept.refl s

theorem linkPush_kept (e : Entry) (s : State) : FormKept s (linkPush e s).2 := by
  unfold linkPush
  split
  · exact (setStack_only _ s).kept
  · split
    · exact (setStack_only _ s).kept
    · exact FormKept.refl s

theorem actPushOverride_kept : Act.Keeps actPushOverride := by
  intro args held s
  unfold actPushOverride
  split
  · exact FormKept.refl s
  · split
    · exact linkPush_kept _ s
    · exact FormKept.refl s

theorem actRemoveOverride_kept : Act.Keeps actRemoveOverride := by
  intro args held s
  unfold actRemoveOverride
  split
  · split
    · split
      · exact (removeEntry_only _ _ s).kept
      · exact FormKept.refl s
    · exact FormKept.refl s
  · exact FormKept.refl s

theorem setSelection_kept (m : MapSel) (s : State) : FormKept s (setSelection m s) := (setSelection_only m s).kept

theorem onBand_kept {f : Band → State → Answer × State} (hf : ∀ b t, FormKept t (f b t).2) (args : List Byte)
    (s : State) : FormKept s (onBand f args s).2 := by
  unfold onBand
  split
  · split
    · exact hf _ s
    · exact setSelection_kept _ s
  · exact setSelection_kept _ s

theorem actMapFrom_kept : Act.Keeps actMapFrom := fun args _ s =>
  onBand_kept (f := fun b t => (.done [], setSelection (.fromHeld b) t)) (fun _ t => setSelection_kept _ t) args s

theorem mapTo_kept (b : Band) (s : State) : FormKept s (mapTo b s).2 := by
  unfold mapTo
  split
  · split <;> exact setSelection_kept _ s
  all_goals exact setSelection_kept _ s

theorem mapSkip_kept (b : Band) (s : State) : FormKept s (mapSkip b s).2 := by
  unfold mapSkip
  split
  · split <;> exact setSelection_kept _ s
  all_goals exact setSelection_kept _ s

theorem actMapAssign_kept : Act.Keeps actMapAssign := by
  intro args held s
  unfold actMapAssign
  split
  · split
    · split
      · exact setSelection_kept _ s
      · exact (assignMap_only _ s).kept
    · exact setSelection_kept _ s
  · exact setSelection_kept _ s

theorem actStreamLog_kept : Act.Keeps actStreamLog := by
  intro args held s
  unfold actStreamLog
  split
  · split
    · exact FormKept.refl s
    · exact (modLink_kept id).trans (pump_kept _)
  · exact FormKept.refl s

theorem actReadLogState_kept : Act.Keeps actReadLogState := fun _ _ s =>
  (modLog_kept fun hl => ⟨hl.1, Nat.zero_le _⟩ : FormKept s (s.modLog (fun g => { g with lost := 0 })))

theorem actClearCounts_kept : Act.Keeps actClearCounts := by
  intro args held s
  unfold actClearCounts clearCounts
  dsimp only
  split <;> exact modLog_kept id

theorem actReadArbiter_kept : Act.Keeps actReadArbiter := fun _ _ s =>
  FormKept.ite (fun _ => ⟨id, id, id, id⟩) (fun _ => FormKept.refl s)

/-! ### The events -/

theorem takeReleaseEnd_kept (l : Lane) (s : State) : FormKept s (takeReleaseEnd l s) := by
  have e : ∀ t, FormKept t (releaseEnded t) := fun t =>
    FormKept.ite (fun _ => (modArb_only t _).kept)
      (fun _ => ((modArb_only t _).kept.trans (deriveHold_only _).kept).trans (settle_only _).kept)
  unfold takeReleaseEnd
  split
  · exact FormKept.ite (fun _ => (takeOff_only _ s).kept.trans (e _)) (fun _ => (takeOff_only _ s).kept)
  · exact FormKept.refl s

theorem enqueue_only (l : Lane) (s : State) : Only [.arb, .lanes] s (enqueue l s) :=
  ((modArb_only s _).mono (cs := [.arb, .lanes])).step (modLane_only _ l _)

theorem takeRequest_only (l : Lane) (s : State) : Only [.arb, .lanes] s (takeRequest l s) :=
  Only.ite (fun _ => Only.refl _ s) (fun _ => enqueue_only l s)

theorem takeWithdrawal_only (l : Lane) (s : State) : Only [.arb, .lanes] s (takeWithdrawal l s) :=
  Only.ite (fun _ => unqueue_only l s) (fun _ => Only.refl _ s)

theorem takeAdvance_kept (s : State) : FormKept s (takeAdvance s) :=
  FormKept.ite (fun _ => (modArb_only s _).kept.trans (rederive_only _).kept) (fun _ => FormKept.refl s)

theorem reservationOver_kept (s : State) : FormKept s (reservationOver s) :=
  (((modArb_only s _).kept.trans (countSlip_only _ _).kept).trans (raise_only _ _).kept).trans (rederive_only _).kept

theorem arbiterTakes_kept (g : Option Gov) (s : State) : FormKept s (arbiterTakes g s) := by
  have e : FormKept s (s.modArb (fun a => { a with gov := g })) := (modArb_only s _).kept
  refine FormKept.ite (fun _ => FormKept.ite (fun _ => FormKept.ite (fun _ => e) (fun _ => ?_))
    (fun _ => FormKept.ite (fun _ => ?_) (fun _ => ?_))) (fun _ => e)
  · exact (e.trans (enterShut_only true _).kept).trans (settleReds_only _).kept
  · exact e.trans (leaveShut_only _).kept
  · exact (e.trans (checkInterval_only _).kept).trans (rederive_only _).kept

theorem takeArbiterGov_kept (s : State) : FormKept s (takeArbiterGov s) := by
  unfold takeArbiterGov
  split
  · exact (takeOff_only _ s).kept.trans (arbiterTakes_kept _ _)
  · exact FormKept.refl s

theorem queueClears_kept (l : Lane) (s : State) : FormKept s (queueClears l s) :=
  FormKept.ite (fun _ => (modQueueMon_only l _ s).kept.trans (removeEntry_only _ _ _).kept)
    (fun _ => (modQueueMon_only l _ s).kept)

theorem spillClears_kept (s : State) : FormKept s (spillClears s) :=
  FormKept.ite (fun _ => (modSpillMon_only _ s).kept.trans (removeEntry_only _ _ _).kept)
    (fun _ => (modSpillMon_only _ s).kept)

theorem preemptAsserted_kept (s : State) : FormKept s (preemptAsserted s) :=
  FormKept.ite (fun _ => (modOvr_only s _).kept.trans (automaticPush_only _ _).kept) (fun _ => (modOvr_only s _).kept)

theorem preemptReleased_kept (s : State) : FormKept s (preemptReleased s) :=
  FormKept.ite (fun _ => (modOvr_only s _).kept.trans (removeEntry_only _ _ _).kept) (fun _ => (modOvr_only s _).kept)

theorem phaseEnds_kept (l : Lane) (col : Colour) (s : State) : FormKept s (phaseEnds l col s) := by
  refine FormKept.trans (FormKept.ite (fun _ => (modLamp_only s l col _).kept) (fun _ => ?_)) (modLamp_only _ l col _).kept
  split
  · exact (attemptFailed_only l col s).kept
  · exact (proofLost_only l col s).kept
  · exact FormKept.refl s

theorem takeUndefined_kept (code : Byte) (s : State) : FormKept s (takeUndefined code s) :=
  FormKept.ite (fun _ => discardAll_kept s) (fun _ =>
    (((goodFrame_kept s).trans (consumeHeld_kept _)).trans (discardSelection_kept _)).trans (reply_kept _ _ _ _))

theorem takeBadCheck_kept (s : State) : FormKept s (takeBadCheck s) :=
  FormKept.ite (fun _ => discardAll_kept s) (fun _ =>
    ((endStream_kept s).trans (discardAll_kept _)).trans (reply_kept _ _ _ _))

/-! ### The forms of a row -/

theorem next_kept {s t u : State} (h : FormKept s u) (e : (Host.Outcome.next u : Out) = .next t) : FormKept s t := by
  injection e with e
  exact e ▸ h

theorem hostFrame_kept {c : Cmd} {act : Act} (ha : act.Keeps) {args : List Byte} {s t : State}
    (h : hostFrame c act args s = .next t) : FormKept s t := by
  unfold hostFrame at h
  split at h
  · exact next_kept (FormKept.refl s) h
  · exact next_kept (takeFrame_kept c ha args s) h

/-- A timed row keeps the form if its event does wherever the row's moment can come. -/
theorem timed_keptWhere {w : Option Nat} {f : State → State} {s t : State} (P : State → Prop)
    (hp : w.isSome = true → P s) (ha : ∀ k, P s → P (advance k s)) (hf : ∀ u, P u → FormKept u (f u))
    (h : timed w f s = .next t) : FormKept s t := by
  unfold timed at h
  split at h
  · exact next_kept (FormKept.refl s) h
  · split at h
    · exact next_kept (FormKept.refl s) h
    · exact next_kept (hf s (hp rfl)) h
    · exact next_kept ((advance_kept _ s).trans (hf _ (ha _ (hp rfl)))) h

theorem timed_kept {w : Option Nat} {f : State → State} (hf : ∀ u, FormKept u (f u)) {s t : State}
    (h : timed w f s = .next t) : FormKept s t :=
  timed_keptWhere (fun _ => True) (fun _ => trivial) (fun _ _ => trivial) (fun u _ => hf u) h

theorem taken_kept {c : Bool} {f : State → State} (hf : ∀ u, FormKept u (f u)) {s t : State}
    (h : taken c f s = .next t) : FormKept s t := by
  rw [taken_eq_timed] at h
  exact timed_kept hf h

/-- A channel becomes stuck at a moment of its own only while it has a role. -/
theorem stuckRow_kept {c : Chan} {q : Health} {w : Cause} {o : Option Nat} {s t : State} (hw : causeFits q w)
    (ho : o.isSome = true → (s.chan c).role ≠ .none) (h : timed o (becomeStuck c q w) s = .next t) : FormKept s t :=
  timed_keptWhere (fun u => (u.chan c).role ≠ .none) ho (fun k hr => by rw [advance_chan]; exact hr)
    (fun _ hr => becomeStuck_kept hw hr) h

theorem execDetectorInputChange_kept {c : Chan} {on : Bool} {s t : State}
    (h : execDetectorInputChange c on s = .next t) : FormKept s t := by
  unfold execDetectorInputChange at h
  split at h
  · exact next_kept (modChan_kept fun _ => atReset_healthSound _ : FormKept s (inputInReset c on s)) h
  · exact next_kept (inputChange_kept c on s) h

theorem execPreemptionInputChange_kept {on : Bool} {s t : State}
    (h : execPreemptionInputChange on s = .next t) : FormKept s t := by
  unfold execPreemptionInputChange at h
  split at h
  · exact next_kept (modOvr_only s _).kept h
  · exact next_kept (FormKept.ite (fun _ => FormKept.refl s) (fun _ => (modOvr_only s _).kept)) h

theorem execLampSenseChange_kept {l : Lane} {col : Colour} {on : Bool} {s t : State}
    (h : execLampSenseChange l col on s = .next t) : FormKept s t := by
  unfold execLampSenseChange at h
  split at h
  · exact next_kept (FormKept.refl s) h
  · split at h
    · exact next_kept (modLamp_only s l col _).kept h
    · exact next_kept (senseChange_only l col on s).kept h

theorem execResetInputReleased_kept {s t : State} (h : execResetInputReleased s = .next t) : FormKept s t := by
  unfold execResetInputReleased at h
  split at h
  · exact next_kept (powerUp_kept s _) h
  · exact next_kept (FormKept.refl s) h

/-- Every row keeps the records' form: the frames by their acts, the events by their operations. -/
theorem exec_kept (i : Instr) {s t : State} (h : exec i s = .next t) : FormKept s t := by
  cases i with
  | powerOn => exact next_kept (powerUp_kept s _) h
  | resetInputAsserted => exact next_kept (powerUp_kept s _) h
  | resetInputReleased => exact execResetInputReleased_kept h
  | beginCmd args => exact hostFrame_kept actBegin_kept h
  | takeNotice args => exact hostFrame_kept actTakeNotice_kept h
  | setNoticeMask args => exact hostFrame_kept actSetNoticeMask_kept h
  | siteReset args => exact hostFrame_kept actSiteReset_kept h
  | setTime args => exact hostFrame_kept actSetTime_kept h
  | pfxLane args => exact hostFrame_kept actPfxLane_kept h
  | pfxPlan args => exact hostFrame_kept actPfxPlan_kept h
  | pfxChannel args => exact hostFrame_kept actPfxChannel_kept h
  | setLane args => exact hostFrame_kept actSetLane_kept h
  | setPriorityLane args => exact hostFrame_kept actSetPriorityLane_kept h
  | setChannel args => exact hostFrame_kept actSetChannel_kept h
  | setTiming args => exact hostFrame_kept actSetTiming_kept h
  | resetChannel args => exact hostFrame_kept actResetChannel_kept h
  | startMetering args => exact hostFrame_kept actStartMetering_kept h
  | stopMetering args => exact hostFrame_kept actStopMetering_kept h
  | clearFailsafe args => exact hostFrame_kept actClearFailsafe_kept h
  | clearAmberFault args => exact hostFrame_kept actClearAmberFault_kept h
  | writePlan args => exact hostFrame_kept actWritePlan_kept h
  | readPlan args => exact hostFrame_kept actReadPlan_kept h
  | erasePlan args => exact hostFrame_kept actErasePlan_kept h
  | selectPlan args => exact hostFrame_kept actSelectPlan_kept h
  | protectGroup args => exact hostFrame_kept (act := actProtectGroup) (fun args _ => guardGroup_kept true args) h
  | unprotectGroup args => exact hostFrame_kept (act := actUnprotectGroup) (fun args _ => guardGroup_kept false args) h
  | pushOverride args => exact hostFrame_kept actPushOverride_kept h
  | removeOverride args => exact hostFrame_kept actRemoveOverride_kept h
  | mapFrom args => exact hostFrame_kept actMapFrom_kept h
  | mapTo args => exact hostFrame_kept (act := actMapTo) (fun args _ => onBand_kept mapTo_kept args) h
  | mapSkip args => exact hostFrame_kept (act := actMapSkip) (fun args _ => onBand_kept mapSkip_kept args) h
  | mapAssign args => exact hostFrame_kept actMapAssign_kept h
  | streamLog args => exact hostFrame_kept actStreamLog_kept h
  | readLogState args => exact hostFrame_kept actReadLogState_kept h
  | clearCounts args => exact hostFrame_kept actClearCounts_kept h
  | readArbiter args => exact hostFrame_kept actReadArbiter_kept h
  | getStatus args | readConfig args | readChannel args | readLamps args | readOverrides args | readMap args
  | stopStream args | readCounts args => exact hostFrame_kept (reads_kept _) h
  | undefinedCodeFrame code args => exact taken_kept (takeUndefined_kept code) h
  | badCheckFrame => exact taken_kept takeBadCheck_kept h
  | frameGapTimeout => exact timed_kept discardAll_kept h
  | lenOutOfRange len => exact taken_kept (f := breakOff len) (fun u => (discardAll_kept u).trans (modLink_kept id)) h
  | frameOverrun => exact taken_kept discardAll_kept h
  | prefixHoldExpiry => exact timed_kept discardHeld_kept h
  | linkLossExpiry =>
    exact timed_kept (f := loseLink) (fun u => FormKept.trans (modLink_kept id) (raise_only _ _).kept) h
  | recordFrameCompletion => exact taken_kept recordSent_kept h
  | detectorInputChange c on => exact execDetectorInputChange_kept h
  | actuation c => exact timed_kept (takeActuation_kept c) h
  | clearing c => exact timed_kept (takeClearing_kept c) h
  | stuckOnExpiry c => exact stuckRow_kept (by simp [causeFits]) stuckOnIn_role h
  | stuckOffExpiry c => exact stuckRow_kept (by simp [causeFits]) stuckOffIn_role h
  | noShowClaim l => exact taken_kept (takeClaimOf_kept l) h
  | mergeSettleExpiry => exact timed_kept (fun u => (setMerge_only _ u).kept) h
  | queueOnReached l =>
    exact timed_kept (fun u => (modQueueMon_only l _ u).kept.trans (automaticPush_only _ _).kept) h
  | queueOffReached l => exact timed_kept (queueClears_kept l) h
  | spillOnReached => exact timed_kept (fun u => (modSpillMon_only _ u).kept.trans (automaticPush_only _ _).kept) h
  | spillOffReached => exact timed_kept spillClears_kept h
  | occupancyPeriodClose => exact timed_kept periodCloses_kept h
  | preemptionInputChange on => exact execPreemptionInputChange_kept h
  | preemptionAssertion => exact timed_kept preemptAsserted_kept h
  | preemptionRelease => exact timed_kept preemptReleased_kept h
  | overrideLimitExpiry k src =>
    exact timed_kept (fun u => (removeEntry_only k src u).kept.trans (tellMonitor_only src _).kept) h
  | arbiterGoverningChange => exact taken_kept takeArbiterGov_kept h
  | laneGoverningChange l => exact taken_kept (takeLaneGov_kept l) h
  | lampTestExpiry => exact timed_kept (fun u => (endLampTest_only u).kept) h
  | warningExpiry => exact timed_kept enterMetering_kept h
  | stopFlushExpiry => exact timed_kept (fun u => (finishToDark_only u).kept) h
  | lampFailureReport => exact taken_kept (fun u => (takeOff_only _ u).kept.trans (takeReport_only _).kept) h
  | lampSenseChange l col on => exact execLampSenseChange_kept h
  | provingWindowEnd l col => exact timed_kept (fun u => (attemptFailed_only l col u).kept) h
  | flashOnPhaseEnd l col => exact timed_kept (phaseEnds_kept l col) h
  | strayMeasureExpiry l col => exact timed_kept (fun u => (strayFound_only l col u).kept) h
  | lossOfProof l col => exact timed_kept (fun u => (proofLost_only l col u).kept) h
  | minGreenElapsed l => exact timed_kept (fun u => (tryEndGreen_kept l u).trans (tryCloseOpen_kept l _)) h
  | greenDurationElapsed l => exact timed_kept (tryEndGreen_kept l) h
  | amberTimeElapsed l => exact timed_kept (goRed_kept l) h
  | minRedElapsed l => exact timed_kept (fun u => (modLane_only u l _).kept.trans (settleRed_kept l _)) h
  | redGraceExpiry l => exact timed_kept (fun u => (modLane_only u l _).kept) h
  | releaseCut l => exact taken_kept (fun u => (takeOff_only _ u).kept.trans (takeBusy_kept l _)) h
  | releaseEnd l => exact taken_kept (takeReleaseEnd_kept l) h
  | request l =>
    exact taken_kept (fun u => ((takeOff_only _ u).kept.trans (takeRequest_only l _).kept).trans (settleRed_kept l _)) h
  | withdrawal l =>
    exact taken_kept (fun u => ((takeOff_only _ u).kept.trans (takeWithdrawal_only l _).kept).trans (settleRed_kept l _)) h
  | mergeMonitorChange => exact taken_kept (fun u => (takeOff_only _ u).kept.trans (settleIfLoose_only _).kept) h
  | intervalExpiry => exact timed_kept (fun u => (modArb_only u _).kept) h
  | grant => exact taken_kept grantNow_kept h
  | advanceActuation => exact taken_kept (fun u => (takeOff_only _ u).kept.trans (takeAdvance_kept _)) h
  | reservationExpiry => exact timed_kept reservationOver_kept h
  | replyFrameTransmitted => exact taken_kept replySent_kept h

/-! ### The step -/

theorem takeByte_kept {s t : State} (h : takeByte s = .next t) : FormKept s t := by
  have gap : FormKept s (breakAtGap s) := FormKept.ite (fun _ => discardAll_kept s) (fun _ => FormKept.refl s)
  have byte : ∀ (rest : List Byte) (r : Receiver), FormKept s
      (({ breakAtGap s with rxLine := rest }).modLink (fun k => { k with receiver := r, lastByte := s.now })) :=
    fun rest r => gap.trans ⟨id, id, id, id⟩
  unfold takeByte at h
  split at h
  · exact next_kept (FormKept.refl s) h
  · dsimp only at h
    split at h
    · exact next_kept (byte _ _) h
    · exact (byte _ _).trans (exec_kept _ h)
    · exact (byte _ _).trans (exec_kept _ h)

theorem runMove_kept (m : Move) {s t : State} (h : runMove m s = .next t) : FormKept s t := by
  cases m with
  | event i => exact exec_kept i h
  | byte => exact takeByte_kept h
  | tenth => exact next_kept (advance_kept 1 s) h

theorem idle_kept {s t : State} (h : idle s = .next t) : FormKept s t := by
  have free : FormKept s { s with freeCount := s.freeCount + 1 } := ⟨id, id, id, id⟩
  unfold idle at h
  split at h
  · exact next_kept (⟨id, id, id, id⟩ : FormKept s (idleInReset s)) h
  · split at h
    · exact runMove_kept _ h
    · exact free.trans (runMove_kept _ h)

theorem step_kept {s t : State} (h : step s = .next t) : FormKept s t := by
  unfold step at h
  split at h
  · next c rest _ =>
    have front : FormKept s { s with pending := rest } := ⟨id, id, id, id⟩
    exact front.trans (exec_kept c h)
  · exact idle_kept h

/-- Settles O60: a step runs a row or lets a tenth pass, and each of those keeps the form of each record. -/
theorem everyStepKeepsTheRecordsSound : Obligations.EveryStepKeepsTheRecordsSound :=
  ⟨fun _ _ h => ⟨(step_kept h).channels, (step_kept h).held, (step_kept h).timing⟩,
    fun _ _ hs h => (step_kept h).log hs⟩

end Sys2Proof.Machine
end

section
/-! PROOFS. The arbiter takes requests and withdrawals (R67 to R69, R96 to R98). -/

namespace Sys2Proof.Machine

set_option Elab.async false

/-! ### The words demand and weight (R67, R116) -/

theorem sequenced_iff (s : State) (l : Lane) : s.sequenced l = true ↔ s.mode l = .metered ∨ s.mode l = .timed := by
  unfold State.sequenced
  cases s.mode l <;> simp [LaneMode.sequenced]

theorem laneGovIs_iff (s : State) (l : Lane) (k : OvKind) :
    s.laneGovIs l k = true ↔ s.site.state = .metering ∧ govIs (s.lane l).gov k = true := by
  simp [State.laneGovIs, State.metering]

theorem hasDemand_iff (s : State) (l : Lane) :
    s.hasDemand l = true ↔ (s.mode l = .metered ∨ s.mode l = .timed) ∧
      (s.mode l = .timed ∨ s.chanFor .demand l = none ∨
        (∃ c, s.chanFor .demand l = some c ∧ (s.chan c).reading = true) ∨
        (s.site.state = .metering ∧ govIs (s.lane l).gov .fixed = true)) := by
  unfold State.hasDemand
  simp only [Bool.and_eq_true, Bool.or_eq_true, beq_iff_eq, sequenced_iff, laneGovIs_iff]
  cases s.chanFor .demand l <;> simp [or_assoc]

theorem weight_active {s : State} {i : Slot} {p : Plan} (hi : s.plans.active = some i) (hp : s.slot i = some p)
    (l : Lane) : s.weight l = p.weights.get l := by
  simp [State.weight, State.activePlan, hi, hp]

/-! ### The oldest message of a sort -/

/-- Taking the oldest of a sort takes that message. -/
theorem eraseP_eq_erase {p : Handoff → Bool} {h : Handoff} {hs : List Handoff} (hf : hs.find? p = some h) :
    hs.eraseP p = hs.erase h := by
  induction hs with
  | nil => rfl
  | cons x xs ih =>
    by_cases hx : p x = true
    · obtain rfl : x = h := by simpa [hx] using hf
      simp [hx]
    · have hn : x ≠ h := fun e => hx (e ▸ List.find?_some hf)
      rw [List.find?_cons_of_neg hx] at hf
      rw [List.eraseP_cons_of_neg hx, ih hf, List.erase_cons_tail (by simpa using hn)]

theorem takeOff_handoffs {p : Handoff → Bool} {h : Handoff} {s : State} (hw : s.waiting p = some h) :
    (takeOff p s).handoffs = s.handoffs.erase h := eraseP_eq_erase hw

/-! ### Asking anew (R68, R69) -/

/-- A lane in METERING that no CLEAROUT governs stays and hands on what it asks. -/
theorem settleRed_asks {l : Lane} {s : State} (hm : s.site.state = .metering)
    (hg : govIs (s.lane l).gov .clearout = false) : settleRed l s = { s with handoffs := s.handoffs ++ s.asks l } := by
  have h : s.redOpens l = false := by simp [State.redOpens, State.laneGovIs, hm, hg]
  unfold settleRed
  rw [h, ← settleRequest_asks]
  rfl

/-- What a lane asks when the arbiter has taken its message `h` and come to `u`. -/
theorem asksAnew {l : Lane} {h : Handoff} {s u : State} (hm : s.site.state = .metering)
    (hw : s.waiting (isAsking l) = some h) (hu : Only [.arb, .lanes] (takeOff (isAsking l) s) u)
    (hg : govIs (u.lane l).gov .clearout = false) :
    Only [.arb, .lanes, .handoffs] s (settleRed l u) ∧ (settleRed l u).arb = u.arb ∧ (settleRed l u).lanes = u.lanes ∧
      ∀ hs, hs = s.handoffs.erase h →
        (settleRed l u).handoffs = hs ++ { settleRed l u with handoffs := hs }.asks l := by
  have hs : u.site = s.site := hu.same .site
  have hh : u.handoffs = s.handoffs.erase h := by
    rw [← takeOff_handoffs hw]
    exact hu.same .handoffs
  have ho := (takeOff_only (isAsking l) s).mono (cs := [.arb, .lanes, .handoffs])
  have hr := settleRequest_only l u
  rw [settleRed_asks (by rw [hs]; exact hm) hg]
  rw [settleRequest_asks] at hr
  refine ⟨(ho.step hu).step hr, rfl, rfl, ?_⟩
  rintro _ rfl
  rw [← hh]

/-! ### The two messages (R96, R97, R98) -/

theorem takeRequest_waits {l : Lane} {s : State} (h : s.arb.own = .shut ∨ s.waits l = true) : takeRequest l s = s :=
  if_pos h

theorem takeRequest_placed {l : Lane} {s : State} (h : ¬(s.arb.own = .shut ∨ s.waits l = true)) :
    takeRequest l s = enqueue l s := if_neg h

theorem lane_enqueue (l m : Lane) (s : State) :
    (enqueue l s).lane m = if m = l then { s.lane l with inQueue := true } else s.lane m := lane_modLane _ l m _

theorem arb_enqueue (l : Lane) (s : State) :
    (enqueue l s).arb = (if s.desc.priority = some l then { s.arb with prioWaiting := true }
      else { s.arb with queue := s.arb.queue ++ [l] }) := rfl

theorem lane_unqueue (l m : Lane) (s : State) :
    (unqueue l s).lane m = if m = l then { s.lane l with inQueue := false } else s.lane m := lane_modLane _ l m _

/-- A lane's record where the lanes are those of another state. -/
theorem lane_of_lanes {s t : State} (h : t.lanes = s.lanes) (m : Lane) : t.lane m = s.lane m := by
  simp only [State.lane, h]

theorem exec_request {l : Lane} {s : State} (hr : s.resetIn = false) (hw : s.waiting (isAsking l) = some (.request l)) :
    exec (.request l) s = .next (settleRed l (takeRequest l (takeOff (isAsking l) s))) :=
  taken_now (f := fun t => settleRed l (takeRequest l (takeOff (isAsking l) t))) hr (by simp [State.requestFirst, hw])

theorem exec_withdrawal {l : Lane} {s : State} (hr : s.resetIn = false)
    (hw : s.waiting (isAsking l) = some (.withdrawal l)) :
    exec (.withdrawal l) s = .next (settleRed l (takeWithdrawal l (takeOff (isAsking l) s))) :=
  taken_now (f := fun t => settleRed l (takeWithdrawal l (takeOff (isAsking l) t))) hr (by simp [State.withdrawalFirst, hw])

/-- Settles O50: the words, then each message by whether the lane waits. -/
theorem requestsAndWithdrawalsAreTaken : Obligations.RequestsAndWithdrawalsAreTaken := by
  refine ⟨fun s l => ⟨hasDemand_iff s l, fun i p hi hp => weight_active hi hp l⟩, fun s l hr hm _ hg => ⟨?_, ?_⟩⟩
  · intro hw
    refine ⟨_, exec_request hr hw, ?_⟩
    by_cases hq : s.arb.own = .shut ∨ s.waits l = true
    · rw [takeRequest_waits (s := takeOff (isAsking l) s) hq]
      obtain ⟨ho, ha, hl, hh⟩ := asksAnew hm hw (Only.refl _ _) hg
      refine ⟨ho, fun m _ => lane_of_lanes hl m, hh, fun _ => ⟨ha, hl⟩, fun h1 h2 => ?_⟩
      simp [h1, h2] at hq
    · rw [takeRequest_placed (s := takeOff (isAsking l) s) hq]
      obtain ⟨ho, ha, hl, hh⟩ := asksAnew hm hw (enqueue_only l _) (by rw [lane_enqueue, if_pos rfl]; exact hg)
      refine ⟨ho, fun m hn => ?_, hh, fun h => absurd h hq, fun _ _ => ⟨?_, ha⟩⟩
      · rw [lane_of_lanes hl, lane_enqueue, if_neg hn]; rfl
      · rw [lane_of_lanes hl, lane_enqueue, if_pos rfl]; rfl
  · intro hw
    refine ⟨_, exec_withdrawal hr hw, ?_⟩
    by_cases hq : s.waits l = true
    · rw [show takeWithdrawal l (takeOff (isAsking l) s) = unqueue l (takeOff (isAsking l) s) from if_pos hq]
      obtain ⟨ho, ha, hl, hh⟩ := asksAnew hm hw (unqueue_only l _) (by rw [lane_unqueue, if_pos rfl]; exact hg)
      refine ⟨ho, fun m hn => ?_, hh, fun h => ?_, fun _ => ⟨?_, ha⟩⟩
      · rw [lane_of_lanes hl, lane_unqueue, if_neg hn]; rfl
      · simp [h] at hq
      · rw [lane_of_lanes hl, lane_unqueue, if_pos rfl]; rfl
    · rw [show takeWithdrawal l (takeOff (isAsking l) s) = takeOff (isAsking l) s from if_neg hq]
      obtain ⟨ho, ha, hl, hh⟩ := asksAnew hm hw (Only.refl _ _) hg
      exact ⟨ho, fun m _ => lane_of_lanes hl m, hh, fun _ => ⟨ha, hl⟩, fun h => absurd h hq⟩

end Sys2Proof.Machine
end

section
/-! PROOFS. A channel that changes and what every consumer makes of it, said once; then RESET-CHANNEL (R27), the channels
that become stuck (R23 to R25), the merge and the monitors (R31, R32, R34) and the close of a period (R35, R147, R148). -/

namespace Sys2Proof.Machine

set_option Elab.async false

/-! ### A channel changes and every consumer takes its reading (R29) -/

theorem Only.chan {bs : List Part} {s t : State} (h : Only bs s t) (d : Chan) (hc : Part.chans ∉ bs := by decide) :
    t.chan d = s.chan d := by
  have e : t.det.chans = s.det.chans := h _ hc
  simp only [State.chan, e]

/-- What the consumers make of a change is said of where the monitors stood before it. -/
theorem ReadingsTaken.since {hs : List Handoff} {r s t : State} (h : ReadingsTaken hs s t)
    (hm : s.det.merge = r.det.merge) (hq : s.det.queue = r.det.queue ∧ s.det.spill = r.det.spill) :
    ReadingsTaken hs r t := by
  obtain ⟨h1, h2, h3⟩ := h
  refine ⟨?_, h2.from hq.1 hq.2, ?_⟩
  · simpa only [MergeFollows, hm] using h1
  · simpa only [mergeSignals, hm] using h3

/-- After an operation that moves no monitor, the refresh takes the readings from where the monitors stood. -/
theorem refresh_takes {bs : List Part} {s u : State} (h : Only bs s u) (hm : Part.merge ∉ bs := by decide)
    (hq : Part.monitors ∉ bs := by decide) : ReadingsTaken u.handoffs s (refresh u) :=
  (refresh_readingsTaken u).since (h _ hm) (h _ hq)

/-- In `t` channel `c` of `s` holds the record `r`, no other channel changed, the notices are `n`, and every consumer has
taken the readings; `hs` waited before. -/
structure ChannelTakes (c : Chan) (r : Channel) (n : BitVec 8) (hs : List Handoff) (s t : State) : Prop where
  only : Only [.chans, .merge, .monitors, .notices, .handoffs] s t
  self : t.chan c = r
  others : ∀ d, d ≠ c → t.chan d = s.chan d
  notices : t.link.notices = n
  taken : ReadingsTaken hs s t

/-- A channel's record changes, a notice or a signal may follow, and the readings are taken. -/
theorem refresh_channelTakes {c : Chan} {f : Channel → Channel} {s u : State}
    (h : Only [.notices, .handoffs] (s.modChan c f) u) :
    ChannelTakes c (f (s.chan c)) u.link.notices u.handoffs s (refresh u) := by
  have hs : Only [.chans, .notices, .handoffs] s u := ((modChan_only s c f).mono).step h
  have hr := refresh_only u
  refine ⟨(hs.mono).step hr, ?_, fun d hd => ?_, hr.same .notices, refresh_takes hs⟩
  · rw [hr.chan, h.chan, chan_modChan, if_pos rfl]
  · rw [hr.chan, h.chan, chan_modChan, if_neg hd]

theorem becomeStuck_takes (c : Chan) (h : Health) (w : Cause) (s : State) :
    ChannelTakes c { s.chan c with health := h, cause := some w } (s.link.notices ||| Notice.detector.bit) s.handoffs s
      (becomeStuck c h w s) :=
  refresh_channelTakes (c := c) (f := fun r => { r with health := h, cause := some w }) ((raise_only _ _).mono)

theorem forceGood_takes {c : Chan} {s : State} (h : (s.chan c).health ≠ .good) :
    ChannelTakes c (s.chan c).forcedGood (s.link.notices ||| Notice.detector.bit) s.handoffs s (forceGood c s) := by
  unfold forceGood
  rw [if_neg h]
  exact refresh_channelTakes (c := c) (f := Channel.forcedGood) ((raise_only _ _).mono)

/-! ### RESET-CHANNEL (R27) -/

/-- Settles O19: a GOOD channel is left alone; at a faulted one the forced record is taken by every consumer. -/
theorem resetChannelForcesGood : Obligations.ResetChannelForcesGood := by
  intro s c
  refine ⟨linkChecks s .resetChannel [], fun hp hc => ⟨fun hg => ?_, fun hg => ?_⟩⟩
  · refine answers_of_act rfl hp ?_
    show (Answer.done [], forceGood (s.link.held.chan.getD 0) (openFrame .resetChannel s)) = _
    rw [← hc, forceGood, openFrame_chan, if_pos hg]
    rfl
  · have k := forceGood_takes (s := openFrame .resetChannel s) (c := c) (by rw [openFrame_chan]; exact hg)
    have hx := hostFrame_passes actResetChannel hp
    rw [show (actResetChannel [] s.link.held (openFrame .resetChannel s)) =
      (.done [], forceGood c (openFrame .resetChannel s)) by rw [hc]; rfl] at hx
    have ht := k.taken.since (r := s) (by rw [openFrame_det]) (by rw [openFrame_det]; exact ⟨rfl, rfl⟩)
    have hs := k.self
    rw [openFrame_handoffs] at ht
    rw [openFrame_chan] at hs
    refine ⟨_, hx, k.only, hs, ?_, fun d hd => ?_, ht, k.notices⟩
    · rw [hs]
      simp [Channel.reading, Channel.forcedGood]
    · rw [k.others d hd, openFrame_chan]

/-! ### Stuck channels (R23, R24, R25) -/

theorem exec_stuckOnExpiry {s : State} {c : Chan} (hr : s.resetIn = false) (hg : (s.chan c).health = .good)
    (hn : (s.chan c).role ≠ .none) (hl : (s.chan c).onLimit ≠ 0) (ho : (s.chan c).occupied = true)
    (ht : (s.chan c).onLimit < (s.chan c).contOccupied) :
    exec (.stuckOnExpiry c) s = .next (becomeStuck c .stuckOn .continuous s) :=
  timed_now hr (by simp [State.stuckOnIn, Channel.supervised, hg, hn, hl, ho]; omega)

theorem exec_stuckOffExpiry {s : State} {c : Chan} (hr : s.resetIn = false) (hg : (s.chan c).health = .good)
    (hn : (s.chan c).role ≠ .none) (hl : (s.chan c).offLimit ≠ 0) (hm : s.site.state = .metering)
    (ht : (s.chan c).offLimit < (s.chan c).sinceActuation) :
    exec (.stuckOffExpiry c) s = .next (becomeStuck c .stuckOff .noActuation s) :=
  timed_now hr (by simp [State.stuckOffIn, State.metering, Channel.supervised, hg, hn, hl, hm]; omega)

theorem exec_noShowClaim {s : State} {l : Lane} {c : Chan} (hr : s.resetIn = false)
    (hw : s.waiting (isClaim l) = some (.claim l c)) :
    exec (.noShowClaim l) s = .next (takeClaim l c (takeOff (isClaim l) s)) := by
  have e : takeClaimOf l s = takeClaim l c (takeOff (isClaim l) s) := by simp [takeClaimOf, hw]
  rw [← e]
  exact taken_now hr (by simp [hw])

theorem anyReads_iff (s : State) (r : Role) :
    s.anyReads r = true ↔ ∃ c, (s.chan c).role = r ∧ (s.chan c).reading = true := by
  simp [State.anyReads, mem_allSixteen]

theorem anyGood_iff (s : State) (r : Role) :
    s.anyGood r = true ↔ ∃ c, (s.chan c).role = r ∧ (s.chan c).health = .good := by
  simp [State.anyGood, mem_allSixteen]

theorem chanFor_some {s : State} {r : Role} {l : Lane} {c : Chan} (h : s.chanFor r l = some c) :
    (s.chan c).role = r ∧ (s.chan c).lane = some l := by
  simpa using List.find?_some h

theorem chanFor_none {s : State} {r : Role} {l : Lane} (h : s.chanFor r l = none) (c : Chan) (hr : (s.chan c).role = r) :
    (s.chan c).lane ≠ some l := by
  have k := List.find?_eq_none.1 h c (mem_allSixteen c)
  simpa [hr] using k

/-- Settles O34: each of the three rows makes the channel stuck; a claim that does not fit only leaves the line. -/
theorem channelsBecomeStuck : Obligations.ChannelsBecomeStuck := by
  refine ⟨fun s c h w i hr hg hc => ?_, fun s l c hr hw hn => ?_, fun s r l => ⟨fun _ => rfl, anyReads_iff s r,
    anyGood_iff s r, fun _ => chanFor_some, chanFor_none⟩⟩
  · have stuck : ∀ (u : State) (q : Health) (v : Cause), Only [.handoffs] s u → q ≠ .good →
        ∃ t, (Host.Outcome.next (becomeStuck c q v u) : Out) = .next t ∧
          Only [.chans, .merge, .monitors, .notices, .handoffs] s t ∧
          t.chan c = { s.chan c with health := q, cause := some v } ∧ (∀ d, d ≠ c → t.chan d = s.chan d) ∧
          t.link.notices = s.link.notices ||| Notice.detector.bit ∧ (t.chan c).reading = ((s.chan c).role == .demand) ∧
          ReadingsTaken u.handoffs s t := by
      intro u q v hu hq
      have k := becomeStuck_takes c q v u
      have hs := k.self
      have hn := k.notices
      rw [hu.chan] at hs
      rw [show u.link.notices = s.link.notices from hu.same .notices] at hn
      refine ⟨_, rfl, (hu.mono).step k.only, hs, fun d hd => ?_, hn, ?_, k.taken.since (hu.same .merge) (hu.same .monitors)⟩
      · rw [k.others d hd, hu.chan]
      · rw [hs]
        simp [Channel.reading, hq]
    rcases hc with ⟨rfl, rfl, rfl, hn, hl, ho, ht⟩ | ⟨rfl, rfl, rfl, hn, hl, hm, ht⟩ | ⟨l, rfl, rfl, rfl, hn, hl, ho, hw⟩
    · rw [exec_stuckOnExpiry hr hg hn hl ho ht]
      exact stuck s .stuckOn .continuous (Only.refl _ s) (by decide)
    · rw [exec_stuckOffExpiry hr hg hn hl hm ht]
      exact stuck s .stuckOff .noActuation (Only.refl _ s) (by decide)
    · have fits : takeClaim l c (takeOff (isClaim l) s) = becomeStuck c .stuckOn .noShow (takeOff (isClaim l) s) :=
        if_pos ⟨hg, ho, hn, hl⟩
      rw [exec_noShowClaim hr hw, fits]
      have k := stuck (takeOff (isClaim l) s) .stuckOn .noShow (takeOff_only _ s) (by decide)
      rwa [takeOff_handoffs hw] at k
  · have unfit : takeClaim l c (takeOff (isClaim l) s) = takeOff (isClaim l) s := by
      refine if_neg fun ⟨h1, h2, h3, h4⟩ => ?_
      rcases hn with h | h | h | h
      · exact h h1
      · exact absurd (h2.symm.trans h) (by decide)
      · exact h h3
      · exact h h4
    rw [exec_noShowClaim hr hw, unfit]
    exact ⟨_, rfl, takeOff_only _ s, takeOff_handoffs hw⟩

/-! ### The merge settles, the monitors trigger and clear (R31, R32, R34) -/

/-- A spell of a level that has lasted its time is due now. -/
theorem spellIn_reached {m : Monitor} {level : Bool} {n now t0 : Nat}
    (hs : m.spell = some { occupied := level, since := t0 }) (h : t0 + n ≤ now) : m.spellIn level n now = some 0 := by
  simp [Monitor.spellIn, hs]
  omega

theorem onIn_reached {m : Monitor} {n now t0 : Nat} (hm : m.state = .watching)
    (hs : m.spell = some { occupied := true, since := t0 }) (h : t0 + n ≤ now) : m.onIn n now = some 0 := by
  unfold Monitor.onIn
  rw [hm]
  exact spellIn_reached hs h

theorem offIn_reached {m : Monitor} {n now t0 : Nat} (hm : m.state ≠ .watching)
    (hs : m.spell = some { occupied := false, since := t0 }) (h : t0 + n ≤ now) : m.offIn n now = some 0 := by
  unfold Monitor.offIn
  cases hw : m.state with
  | watching => exact absurd hw hm
  | triggered | spent => exact spellIn_reached hs h

theorem mergeSettled_settling {s : State} (h : s.det.merge.state = .settling) :
    mergeSettled s = { s with
      det := { s.det with merge := { state := .clear, settleFrom := none } }
      handoffs := s.handoffs ++ [.mergeChange] } := by
  unfold mergeSettled setMerge
  rw [h]
  rfl

theorem exec_mergeSettleExpiry {s : State} {t0 : Nat} (hr : s.resetIn = false) (hm : s.det.merge.state = .settling)
    (hf : s.det.merge.settleFrom = some t0) (ht : t0 + s.par .mergeSettle ≤ s.now) :
    exec .mergeSettleExpiry s = .next (mergeSettled s) :=
  timed_now hr (by simp [State.settleIn, hm, hf, State.until]; omega)

/-- Settles O35: each row is due now, and its event is the push or the removal of the statement. -/
theorem theMergeSettlesAndMonitorsTrigger : Obligations.TheMergeSettlesAndMonitorsTrigger := by
  refine ⟨fun s t0 hr hm hf ht => ?_, fun s t0 hr => ⟨fun l hw hs ht => ?_, fun l hs ht u hu => ⟨fun hm => ?_, fun hm => ?_⟩,
    fun hw hs ht => ?_, fun hs ht u hu => ⟨fun hm => ?_, fun hm => ?_⟩⟩⟩
  · rw [exec_mergeSettleExpiry hr hm hf ht, mergeSettled_settling hm]
  · exact timed_now (f := queueTriggers l) hr (onIn_reached hw hs ht)
  · have hx : exec (.queueOffReached l) s = .next (queueClears l s) :=
      timed_now hr (offIn_reached (by simp [hm]) hs ht)
    refine ⟨_, hx, ?_⟩
    unfold queueClears
    rw [if_pos hm, hu]
    exact setStack_becomes _ _
  · have hx : exec (.queueOffReached l) s = .next (queueClears l s) :=
      timed_now hr (offIn_reached (by simp [hm]) hs ht)
    rw [hx, hu, queueClears, if_neg (by simp [hm])]
    rfl
  · exact timed_now (f := spillTriggers) hr (onIn_reached hw hs ht)
  · have hx : exec .spillOffReached s = .next (spillClears s) := timed_now hr (offIn_reached (by simp [hm]) hs ht)
    refine ⟨_, hx, ?_⟩
    unfold spillClears
    rw [if_pos hm, hu]
    exact setStack_becomes _ _
  · have hx : exec .spillOffReached s = .next (spillClears s) := timed_now hr (offIn_reached (by simp [hm]) hs ht)
    rw [hx, hu, spillClears, if_neg (by simp [hm])]
    rfl

/-! ### A period closes (R35, R147, R148) -/

theorem exec_periodClose {s : State} (hr : s.resetIn = false) (ht : s.det.periodFrom + s.par .occupancyPeriod ≤ s.now) :
    exec .occupancyPeriodClose s = .next (periodCloses s) :=
  timed_now hr (by simp [State.periodIn, State.until]; omega)

/-- What the close leaves before the map is acted on: the measure, and the band where there is an occupancy. -/
def State.closed (s : State) : State :=
  { s with
    det := { s.det with
      occupancy := s.occupancyNow, periodFrom := s.now
      chans := Bank.mapAll (fun c => { c with occupiedPeriod := 0 }) s.det.chans }
    sel := match s.occupancyNow with
      | some pct => { s.sel with lastBand := some (bandOf pct) }
      | none => s.sel }

theorem periodCloses_unknown {s : State} (h : s.occupancyNow = none) : periodCloses s = s.closed := by
  unfold periodCloses selectorClose closePeriod State.closed
  simp only [modDet_det, h] <;> rfl

theorem periodCloses_known {s : State} {pct : Nat} (h : s.occupancyNow = some pct) :
    periodCloses s =
      if s.link.mode = .localMode ∧ s.par .localAction = 1 then localAct (Bank.at s.sel.map (bandOf pct)) s.closed
      else s.closed := by
  unfold periodCloses selectorClose closePeriod State.closed
  simp only [modDet_det, h] <;> rfl

theorem bankList_eq (b : Bank Channel) : Bank.list b = allSixteen.map (Bank.at b) := rfl

theorem localAct_plan {s : State} {i : Slot} (h : s.slot i ≠ none) : localAct (some i) s = localPlan i s := by
  unfold localAct
  cases hi : s.slot i with
  | none => exact absurd hi h
  | some p => simp only [hi]

theorem localAct_empty {s : State} {i : Slot} (h : s.slot i = none) : localAct (some i) s = s := by
  unfold localAct
  simp only [h]

theorem localPlan_lit {s : State} {i : Slot} (h : s.site.state = .starting ∨ s.site.state = .metering ∨
    s.site.state = .stopping ∨ s.site.state = .failsafe) : localPlan i s = selectSlot i s := by
  unfold localPlan
  rcases h with h | h | h | h <;> rw [h]

/-- In DARK a selection makes the slot active, so that only a sequenced lane is missing for metering to start. -/
theorem selectSlot_startCheck {s : State} (i : Slot) (hd : s.site.state = .dark) :
    (selectSlot i s).startCheck = if allLanes.any s.sequenced = false then .noLane else .passes := by
  have hs : (selectSlot i s).site = s.site := (selectSlot_only i s).same .site
  have hq : (selectSlot i s).desc = s.desc := (selectSlot_only i s).same .desc
  have ha : (selectSlot i s).plans.active = some i := by
    simp [selectSlot, State.metering, hd, clampCredits, creditAll]
  have he : (selectSlot i s).sequenced = s.sequenced := by
    funext l
    simp only [State.sequenced, State.mode, hq]
  unfold State.startCheck
  rw [hs, ha, he, if_neg (by simp [hd]), if_neg (by simp)]

theorem localPlan_dark {s : State} (i : Slot) (hd : s.site.state = .dark) :
    localPlan i s = if allLanes.any s.sequenced = false then selectSlot i s else enterStarting (selectSlot i s) := by
  unfold localPlan
  rw [hd]
  dsimp only
  unfold startIfAllowed
  rw [selectSlot_startCheck i hd]
  by_cases h : allLanes.any s.sequenced = false <;> simp [h]

theorem mem_allLanes (l : Lane) : l ∈ allLanes := by revert l; decide

/-- Settles O36: the measure and the band stand, and the map entry is acted on in LOCAL under MAP alone. -/
theorem occupancyPeriodsClose : Obligations.OccupancyPeriodsClose := by
  intro s hr ht u hu
  obtain rfl : u = s.closed := hu
  rw [exec_periodClose hr ht]
  refine ⟨fun h => ?_, fun pct ho hm ha => ?_, ?_, fun _ => rfl⟩
  · cases ho : s.occupancyNow with
    | none => rw [periodCloses_unknown ho]
    | some pct =>
      rw [periodCloses_known ho, if_neg]
      rintro ⟨hm, ha⟩
      rcases h with h | h | h
      · simp [h] at ho
      · simp [h] at hm
      · simp [h] at ha
  · rw [periodCloses_known ho, if_pos ⟨hm, ha⟩]
    refine ⟨fun he => ?_, fun i he hs => ?_, fun i he hs hl => ?_, fun i he hs hd => ⟨fun ⟨l, hl⟩ => ?_, fun hl => ?_⟩⟩ <;>
      rw [he]
    · rfl
    · rw [localAct_empty (s := s.closed) hs]
    · rw [localAct_plan (s := s.closed) hs, localPlan_lit (s := s.closed) hl]
    · rw [localAct_plan (s := s.closed) hs, localPlan_dark (s := s.closed) i hd, if_neg]
      rw [Bool.eq_false_iff, not_not, List.any_eq_true]
      exact ⟨l, mem_allLanes l, hl⟩
    · rw [localAct_plan (s := s.closed) hs, localPlan_dark (s := s.closed) i hd, if_pos]
      rw [List.any_eq_false]
      intro l _ hc
      exact absurd (hc.symm.trans (hl l)) (by decide)
  · rintro good rfl
    have e : s.measured = (allSixteen.map s.chan).filter (fun r => r.role == .mainline && r.health == .good) := by
      unfold State.measured
      rw [bankList_eq]
      rfl
    rw [← e]
    unfold State.occupancyNow
    simp only [List.isEmpty_iff]

end Sys2Proof.Machine
end

section
/-! PROOFS. The detector inputs: the filter, the actuation and the clearing of a channel (R22, R26, R29 to R34). -/

namespace Sys2Proof.Machine

set_option Elab.async false

/-! ### The filter (R22) -/

theorem actuationIn_of_vacant {s : State} {c : Chan} (h : (s.chan c).occupied = false) :
    s.actuationIn c = (s.chan c).changeIn s.now := by simp [State.actuationIn, h]

theorem clearingIn_of_occupied {s : State} {c : Chan} (h : (s.chan c).occupied = true) :
    s.clearingIn c = (s.chan c).changeIn s.now := by simp [State.clearingIn, h]

/-- A pending change is due once its level has been held for the filter time. -/
theorem changeIn_held {r : Channel} {now t0 : Nat} (hp : r.changeFrom = some t0) (ht : t0 + r.filter ≤ now) :
    r.changeIn now = some 0 := by
  simp [Channel.changeIn, hp]
  omega

theorem changeIn_waits {r : Channel} {now : Nat} (h : ∀ t0, r.changeFrom = some t0 → now < t0 + r.filter) :
    r.changeIn now ≠ some 0 := by
  unfold Channel.changeIn
  cases hp : r.changeFrom with
  | none => simp
  | some t0 =>
    have := h t0 hp
    simp
    omega

theorem takeIfHeld_waits {s : State} {c : Chan} (h : (s.chan c).changeIn s.now ≠ some 0) : takeIfHeld c s = s := by
  unfold takeIfHeld State.actuationIn State.clearingIn
  cases (s.chan c).occupied <;> simp [h]

theorem takeIfHeld_actuation {s : State} {c : Chan} (ho : (s.chan c).occupied = false)
    (h : (s.chan c).changeIn s.now = some 0) : takeIfHeld c s = takeActuation c s :=
  if_pos (by rw [actuationIn_of_vacant ho, h])

theorem takeIfHeld_clearing {s : State} {c : Chan} (ho : (s.chan c).occupied = true)
    (h : (s.chan c).changeIn s.now = some 0) : takeIfHeld c s = takeClearing c s := by
  unfold takeIfHeld
  rw [if_neg (by simp [State.actuationIn, ho]), if_pos (by rw [clearingIn_of_occupied ho, h])]

theorem exec_actuation {s : State} {c : Chan} {t0 : Nat} (hr : s.resetIn = false) (ho : (s.chan c).occupied = false)
    (hp : (s.chan c).changeFrom = some t0) (ht : t0 + (s.chan c).filter ≤ s.now) :
    exec (.actuation c) s = .next (takeActuation c s) :=
  timed_now hr (by rw [actuationIn_of_vacant ho, changeIn_held hp ht])

theorem exec_clearing {s : State} {c : Chan} {t0 : Nat} (hr : s.resetIn = false) (ho : (s.chan c).occupied = true)
    (hp : (s.chan c).changeFrom = some t0) (ht : t0 + (s.chan c).filter ≤ s.now) :
    exec (.clearing c) s = .next (takeClearing c s) :=
  timed_now hr (by rw [clearingIn_of_occupied ho, changeIn_held hp ht])

theorem exec_input {s : State} {c : Chan} {level : Bool} (hr : s.resetIn = false) :
    exec (.detectorInputChange c level) s = .next (inputChange c level s) := by
  show execDetectorInputChange c level s = _
  unfold execDetectorInputChange
  rw [if_neg (by simp [hr])]

/-- A new level is noted at the input, and a pending change starts where it is opposite to the filtered state. -/
theorem inputChange_new {s : State} {c : Chan} {level : Bool} (h : (s.chan c).input ≠ level) :
    inputChange c level s = takeIfHeld c (s.modChan c (fun r =>
      { r with input := level, changeFrom := if level = (s.chan c).occupied then none else some s.now })) := by
  unfold inputChange
  rw [if_neg h]
  congr 1

/-! ### An actuation (R22, R26) -/

/-- What an actuation leaves before the readings are taken: its notice, and the signal of an ADVANCE channel. -/
theorem takeActuation_refreshes (c : Chan) (s : State) :
    ∃ u, takeActuation c s = refresh u ∧ Only [.notices, .handoffs] (s.modChan c Channel.actuated) u ∧
      u.link.notices =
        (if (s.chan c).health = .stuckOff then s.link.notices ||| Notice.detector.bit else s.link.notices) ∧
      u.handoffs =
        (if (s.chan c).role = .advance ∧ (s.chan c).health ≠ .stuckOn then s.handoffs ++ [.advance] else s.handoffs) := by
  have noticed := (raise_only .detector (s.modChan c Channel.actuated)).mono (cs := [.notices, .handoffs])
  unfold takeActuation
  refine ⟨_, rfl, ?_, ?_, ?_⟩
  · split
    · split
      · exact noticed.step (send_only _ _)
      · exact (send_only _ _).mono
    · split
      · exact noticed
      · exact Only.refl _ _
  · split <;> split <;> rfl
  · split <;> split <;> rfl

/-- An actuation at a channel: its record, and every consumer takes it. -/
theorem takeActuation_takes (c : Chan) (s : State) :
    ChannelTakes c (s.chan c).actuated
      (if (s.chan c).health = .stuckOff then s.link.notices ||| Notice.detector.bit else s.link.notices)
      (if (s.chan c).role = .advance ∧ (s.chan c).health ≠ .stuckOn then s.handoffs ++ [.advance] else s.handoffs)
      s (takeActuation c s) := by
  obtain ⟨u, he, hu, hn, hh⟩ := takeActuation_refreshes c s
  rw [he, ← hn, ← hh]
  exact refresh_channelTakes hu

/-- What waited before is still waiting once the readings are taken, with the merge monitor's signals. -/
theorem ReadingsTaken.mem {hs : List Handoff} {s t : State} (h : ReadingsTaken hs s t) {x : Handoff}
    (hx : x ∈ hs ∨ x ∈ mergeSignals s t) : x ∈ t.handoffs := by
  obtain ⟨-, -, ha⟩ := h
  rw [ha]
  exact List.mem_append_left _ (List.mem_append.2 hx)

/-- An occupied GOOD MERGE channel makes the merge BUSY, and an entry to BUSY is handed on (R31). -/
theorem ReadingsTaken.busy {hs : List Handoff} {s t : State} (h : ReadingsTaken hs s t) {c : Chan}
    (hr : (t.chan c).role = .merge) (hg : (t.chan c).health = .good) (ho : (t.chan c).occupied = true) :
    t.det.merge = { state := .busy, settleFrom := none } ∧
      (s.det.merge.state ≠ .busy → Handoff.mergeChange ∈ t.handoffs ∧ ∀ l, Handoff.busyEntry l ∈ t.handoffs) := by
  have hm : t.det.merge = { state := .busy, settleFrom := none } :=
    h.1.2.1 ((anyGood_iff t .merge).2 ⟨c, hr, hg⟩) ((anyReads_iff t .merge).2 ⟨c, hr, by simp [Channel.reading, hg, ho]⟩)
  refine ⟨hm, fun hb => ?_⟩
  have signals : mergeSignals s t = [.mergeChange, .busyEntry 0, .busyEntry 1, .busyEntry 2, .busyEntry 3] := by
    simp [mergeSignals, hm, Ne.symm hb]
  refine ⟨h.mem (.inr (by simp [signals])), fun l => h.mem (.inr ?_)⟩
  rw [signals]
  revert l
  decide

/-- An actuated channel that was not STUCK-ON is GOOD (R26). -/
theorem actuated_good {r : Channel} (h : r.health ≠ .stuckOn) : r.actuated.health = .good := by
  cases hh : r.health <;> simp_all [Channel.actuated]

/-- Settles O32: what a level makes of the pending change, then what an actuation leaves. -/
theorem detectorInputsAreFilteredAndActuationsTaken : Obligations.DetectorInputsAreFilteredAndActuationsTaken := by
  refine ⟨fun s c level => ⟨fun hr hi => ?_, fun hr hi ho => ?_, fun hr hi ho t ht => ?_, fun hr => ?_⟩,
    fun s c t0 hr ho hp ht => ?_⟩
  · rw [exec_input hr, inputChange, if_pos hi]
  · rw [exec_input hr, inputChange_new hi, if_pos ho.symm]
    exact congrArg _ (takeIfHeld_waits (by simp [chan_modChan, Channel.changeIn]))
  · have hx : inputChange c level s = takeIfHeld c t := by rw [inputChange_new hi, if_neg (Ne.symm ho), ht]
    have hc : t.chan c = { s.chan c with input := level, changeFrom := some s.now } := by
      rw [ht, chan_modChan, if_pos rfl]
    have hn : t.now = s.now := by rw [ht]; rfl
    have hrt : t.resetIn = false := by rw [ht]; exact hr
    rw [exec_input hr, hx]
    refine ⟨fun hf => ?_, fun hf => ?_⟩
    · rw [takeIfHeld_waits (by rw [hc]; simp [Channel.changeIn, hn]; omega)]
    · have held : (t.chan c).changeFrom = some t.now ∧ t.now + (t.chan c).filter ≤ t.now := by
        rw [hc, hn]
        exact ⟨rfl, by simp [hf]⟩
      cases level with
      | true =>
        have hv : (t.chan c).occupied = false := by rw [hc]; simpa using ho
        rw [if_pos rfl, exec_actuation hrt hv held.1 held.2, takeIfHeld_actuation hv (changeIn_held held.1 held.2)]
      | false =>
        have hv : (t.chan c).occupied = true := by rw [hc]; simpa using ho
        rw [if_neg (by decide), exec_clearing hrt hv held.1 held.2,
          takeIfHeld_clearing hv (changeIn_held held.1 held.2)]
  · show execDetectorInputChange c level s = _
    unfold execDetectorInputChange
    rw [if_pos hr]
    rfl
  · have k := takeActuation_takes c s
    refine ⟨_, exec_actuation hr ho hp ht, k.only, k.self, k.others, k.notices, fun ha hh => ?_, fun hm hh => ?_, k.taken⟩
    · exact k.taken.mem (.inl (by simp [ha, hh]))
    · refine k.taken.busy (c := c) ?_ ?_ ?_ <;> rw [k.self]
      · exact hm
      · exact actuated_good hh
      · rfl

end Sys2Proof.Machine
end

section
/-! PROOFS. A clearing, and the passage it is at a GOOD STOP channel (R22, R26, R56, R57, R61, R70, R71, R73, R160). -/

namespace Sys2Proof

theorem Quad.set_set {α : Type} (q : Quad α) (i : Fin 4) (a b : α) : (q.set i a).set i b = q.set i b := by
  refine Quad.ext_get fun j => ?_
  simp only [Quad.get_set]
  split <;> rfl

end Sys2Proof

namespace Sys2Proof.Machine

set_option Elab.async false

/-! ### A clearing (R22, R26) -/

/-- A clearing that is no passage: the record, its notice, and every consumer takes it. -/
theorem takeClearing_takes {c : Chan} {s : State}
    (h : (s.chan c).role ≠ .stop ∨ (s.chan c).health ≠ .good ∨ ∀ l, (s.chan c).lane = some l → s.mode l = .unused) :
    ChannelTakes c (s.chan c).cleared
      (if (s.chan c).health = .stuckOn then s.link.notices ||| Notice.detector.bit else s.link.notices)
      s.handoffs s (takeClearing c s) := by
  obtain ⟨u, he, hu, hn, hh⟩ : ∃ u, takeClearing c s = refresh u ∧ Only [.notices, .handoffs] (s.modChan c Channel.cleared) u ∧
      u.link.notices =
        (if (s.chan c).health = .stuckOn then s.link.notices ||| Notice.detector.bit else s.link.notices) ∧
      u.handoffs = s.handoffs := by
    unfold takeClearing
    cases hl : (s.chan c).passageLane with
    | none =>
      refine ⟨_, rfl, Only.ite (fun _ => (raise_only _ _).mono) (fun _ => Only.refl _ _), ?_, ?_⟩ <;> split <;> rfl
    | some l =>
      obtain ⟨⟨hr, hg⟩, hl⟩ : ((s.chan c).role = .stop ∧ (s.chan c).health = .good) ∧ (s.chan c).lane = some l := by
        simpa [Channel.passageLane] using hl
      have hm : s.mode l = .unused := ((h.resolve_left (not_not.2 hr)).resolve_left (not_not.2 hg)) l hl
      have hs : (s.chan c).health ≠ .stuckOn := by simp [hg]
      refine ⟨s.modChan c Channel.cleared, ?_, Only.refl _ _, ?_, rfl⟩
      · dsimp only
        rw [if_neg hs]
        exact congrArg refresh (if_pos hm)
      · rw [if_neg hs]
        rfl
  rw [he, ← hn, ← hh]
  exact refresh_channelTakes hu

theorem takeClearing_passage {c : Chan} {l : Lane} {s : State} (hr : (s.chan c).role = .stop)
    (hg : (s.chan c).health = .good) (hl : (s.chan c).lane = some l) :
    takeClearing c s = refresh (passage l (s.modChan c Channel.cleared)) := by
  unfold takeClearing
  simp [Channel.passageLane, hr, hg, hl]

/-- Whatever follows from it, a clearing writes its own channel's record and no other's. -/
theorem takeClearing_chan (c d : Chan) (s : State) :
    (takeClearing c s).chan d = if d = c then (s.chan c).cleared else s.chan d := by
  by_cases h : (s.chan c).role ≠ .stop ∨ (s.chan c).health ≠ .good ∨ ∀ l, (s.chan c).lane = some l → s.mode l = .unused
  · have k := takeClearing_takes h
    by_cases hd : d = c
    · rw [if_pos hd, hd, k.self]
    · rw [if_neg hd, k.others d hd]
  · push Not at h
    obtain ⟨hr, hg, l, hl, -⟩ := h
    rw [takeClearing_passage hr hg hl, (refresh_only _).chan, (passage_only l _).chan, chan_modChan]

/-! ### A passage, up to the end of the green (R70, R71, R73) -/

/-- A lane's record after a passage that counts toward its grant, or one that does not (R71, R73). -/
def LaneRec.passed (counts : Bool) (r : LaneRec) : LaneRec :=
  { r with noShows := 0, passages := if counts then satAdd 255 r.passages 1 else r.passages }

/-- The record a passage of this kind writes (R70, R154). -/
def State.passageRecord (s : State) (l : Lane) (k : RecKind) : PassRec :=
  s.recordNow l k (if k.ofGrant then (s.lane l).grant else none) none

/-- A lane's counters after a passage of this kind (R160). -/
def LaneCounts.passed (k : RecKind) (c : LaneCounts) : LaneCounts :=
  { c with passages := c.passages + 1, violations := if k = .violation then c.violations + 1 else c.violations }

/-- A passage written and counted, before the green may end. -/
def passageCounted (l : Lane) (s : State) : State :=
  let k := s.passageKind l
  let t := countPassage l (writeRec (s.passageRecord l k) s)
  let u := if k = .violation then countViolation l t else t
  u.modLane l (LaneRec.passed k.ofGrant)

theorem passage_eq {l : Lane} {s : State} (h : s.mode l ≠ .unused) :
    passage l s = tryEndGreen l (passageCounted l s) := if_neg h

theorem passageCounted_only (l : Lane) (s : State) :
    Only [.lanes, .records, .counts, .notices, .stream] s (passageCounted l s) := by
  have e : Only [.lanes, .records, .counts, .notices, .stream] s
      (countPassage l (writeRec (s.passageRecord l (s.passageKind l)) s)) :=
    ((writeRec_only _ s).mono).step (countLane_only l _ _)
  exact (Only.ite (fun _ => e.step (countLane_only l _ _)) (fun _ => e)).step (modLane_only _ l _)

theorem lane_passageCounted (l m : Lane) (s : State) :
    (passageCounted l s).lane m =
      if m = l then (s.lane l).passed (s.passageKind l).ofGrant else s.lane m := by
  have hw : ∀ r n, (writeRec r s).lane n = s.lane n := fun r => lane_of_lanes ((writeRec_only r s).same .lanes)
  unfold passageCounted
  rw [lane_modLane, ← hw (s.passageRecord l (s.passageKind l)) l, ← hw (s.passageRecord l (s.passageKind l)) m]
  split <;> split <;> rfl

/-- The write of the passage's record, then its lane's record and its lane's counters. -/
theorem passageCounted_eq (l : Lane) (s : State) :
    passageCounted l s =
      { writeRec (s.passageRecord l (s.passageKind l)) s with
        lanes := (writeRec (s.passageRecord l (s.passageKind l)) s).lanes.set l
          ((s.lane l).passed (s.passageKind l).ofGrant)
        log := { (writeRec (s.passageRecord l (s.passageKind l)) s).log with
          lanes := s.log.lanes.set l ((s.log.lanes.get l).passed (s.passageKind l)) } } := by
  have hc := ((writeRec_only (s.passageRecord l (s.passageKind l)) s).same .counts).1
  have hl := lane_of_lanes ((writeRec_only (s.passageRecord l (s.passageKind l)) s).same .lanes) l
  unfold passageCounted
  dsimp only
  generalize writeRec (s.passageRecord l (s.passageKind l)) s = w at hc hl ⊢
  rw [← hc, ← hl]
  by_cases h : s.passageKind l = .violation
  · rw [if_pos h]
    simp [h, countViolation, countPassage, countLane, LaneCounts.passed, State.modLane, State.modLog, Quad.modify,
      Quad.set_set, State.lane]
  · rw [if_neg h]
    simp [h, countPassage, countLane, LaneCounts.passed, State.modLane, State.modLog, Quad.modify, State.lane]

theorem log_passageCounted (l : Lane) (s : State) :
    (passageCounted l s).log = { (writeRec (s.passageRecord l (s.passageKind l)) s).log with
      lanes := s.log.lanes.set l ((s.log.lanes.get l).passed (s.passageKind l)) } ∧
    (passageCounted l s).link = (writeRec (s.passageRecord l (s.passageKind l)) s).link := by
  rw [passageCounted_eq]
  exact ⟨rfl, rfl⟩

/-- A passage is counted alike after its channel's record was written. -/
theorem passageCounted_modChan (l : Lane) (c : Chan) (f : Channel → Channel) (s : State) :
    (passageCounted l (s.modChan c f)).lane l = (passageCounted l s).lane l ∧
    (passageCounted l (s.modChan c f)).log = (passageCounted l s).log ∧
    (passageCounted l (s.modChan c f)).link = (passageCounted l s).link := by
  have hw := writeRec_congr (s.passageRecord l (s.passageKind l)) (s := s) (t := s.modChan c f) rfl rfl
  have hk : (s.modChan c f).passageKind l = s.passageKind l := rfl
  have hr : (s.modChan c f).passageRecord l (s.passageKind l) = s.passageRecord l (s.passageKind l) := rfl
  refine ⟨?_, ?_, ?_⟩
  · rw [lane_passageCounted, lane_passageCounted, hk]
    rfl
  · rw [(log_passageCounted l _).1, (log_passageCounted l _).1, hk, hr, hw.1]
    rfl
  · rw [(log_passageCounted l _).2, (log_passageCounted l _).2, hk, hr, hw.2]

/-! ### The end of the green that a passage brings (R56, R57, R61) -/

/-- A green that a passage may end ends now. -/
def State.greenOver (s : State) (l : Lane) : Prop :=
  (s.lane l).state = .green ∧ s.greenFor l (s.par .minGreen) = true ∧ s.greenEnds l = true

theorem greenFor_iff {s : State} {l : Lane} {t1 : Nat} (h : (s.lane l).onsetAt = some t1) (n : Nat) :
    s.greenFor l n = true ↔ t1 + n ≤ s.now := by
  simp [State.greenFor, h]

theorem greenEnds_iff {s : State} {l : Lane} {t1 d z : Nat} (ho : (s.lane l).onsetAt = some t1)
    (hd : (s.lane l).greenFor = some d) (hz : (s.lane l).size = some z) :
    s.greenEnds l = true ↔ z ≤ (s.lane l).passages ∨ t1 + d ≤ s.now ∨ (s.lane l).cut = true ∨
      (s.site.state = .metering ∧ govIs (s.lane l).gov .close = true) := by
  unfold State.greenEnds
  simp only [hd, hz, Bool.or_eq_true, greenFor_iff ho, decide_eq_true_eq, laneGovIs_iff]
  tauto

/-- A green that stands: the lane's other parts are as the passage left them. -/
theorem tryEndGreen_stands {l : Lane} {s : State} (h : ¬s.greenOver l) : tryEndGreen l s = s := if_neg h

theorem tryEndGreen_ends {l : Lane} {s : State} (h : s.greenOver l) : tryEndGreen l s = greenToAmber l s := if_pos h

theorem endRelease_logLanes (l : Lane) (s : State) : (endRelease l s).log.lanes = s.log.lanes := by
  have hw : ∀ r, (writeRec r s).log.lanes = s.log.lanes := fun r => ((writeRec_only r s).same .counts).1
  unfold endRelease
  cases (s.lane l).grant <;> cases (s.lane l).cut <;> simp [send, countCut, countSlip, hw]

theorem tryEndGreen_logLanes (l : Lane) (s : State) : (tryEndGreen l s).log.lanes = s.log.lanes := by
  unfold tryEndGreen
  split
  · exact endRelease_logLanes l _
  · rfl

/-- The end of a green changes its lane's state, entry, flag and onset, and no other lane. -/
theorem lane_greenToAmber (l m : Lane) (s : State) :
    (greenToAmber l s).lane m = if m = l then (s.lane l).toAmber s.now else s.lane m := by
  have k := greenToAmber_becomes s l
  by_cases h : m = l
  · rw [if_pos h, h, k.1]
  · rw [if_neg h, (k.2.2 m h).1]

/-- What becomes of a lane is said of a state whose other lanes and heads are the same. -/
theorem LaneBecomes.since {l : Lane} {r : LaneRec} {st : LaneState} {s t u : State} (h : LaneBecomes l r st t u)
    (hl : ∀ m, m ≠ l → t.lane m = s.lane m) (hp : t.lamps = s.lamps) : LaneBecomes l r st s u := by
  obtain ⟨h1, h2, h3⟩ := h
  refine ⟨h1, h2, fun m hm => ⟨(h3 m hm).1.trans (hl m hm), (h3 m hm).2.trans ?_⟩⟩
  simp only [State.head, hp]

/-- Whether a green is over rests on its lane, the clock, the parameters and the site state. -/
theorem greenOver_congr {s t : State} {l : Lane} (hl : t.lane l = s.lane l) (hn : t.now = s.now) (hd : t.desc = s.desc)
    (hs : t.site = s.site) : t.greenOver l ↔ s.greenOver l := by
  unfold State.greenOver State.greenEnds State.greenFor State.laneGovIs State.metering State.par
  rw [hl, hn, hd, hs]

theorem goodStop_congr {s t : State} (h : ∀ d, (t.chan d).role = (s.chan d).role ∧ (t.chan d).lane = (s.chan d).lane ∧
    (t.chan d).health = (s.chan d).health) (l : Lane) : t.goodStop l = s.goodStop l := by
  simp only [State.goodStop, State.chanFor, (h _).1, (h _).2.1, (h _).2.2]

theorem CutWritten.until {l : Lane} {s t u : State} (h : CutWritten l s t) (hl : u.log = t.log) (hk : u.link = t.link) :
    CutWritten l s u := by
  unfold CutWritten at h ⊢
  rw [hl, hk]
  exact h

/-! ### A passage and what follows from it -/

/-- In `t` a passage of lane `l` in `s` has been taken: written and counted, and then either the green it ends has ended or
the lane stands; the readings are taken. -/
structure PassageTaken (l : Lane) (s t : State) : Prop where
  counters : t.log.lanes = (passageCounted l s).log.lanes
  others : ∀ m, m ≠ l → t.lane m = s.lane m
  stands : ¬(passageCounted l s).greenOver l →
    t.lane l = (passageCounted l s).lane l ∧ t.lamps = s.lamps ∧ t.log = (passageCounted l s).log ∧
      t.link = (passageCounted l s).link ∧ ReadingsTaken s.handoffs s t
  ends : (passageCounted l s).greenOver l →
    LaneBecomes l (((passageCounted l s).lane l).toAmber s.now) .amber s t ∧ CutWritten l (passageCounted l s) t ∧
      ReadingsTaken (s.handoffs ++ ((passageCounted l s).lane l).releaseEnds l) s t

/-- What a cut record says is the same after the clearing of a GOOD channel. -/
theorem cutRecord_modChan {c : Chan} {s : State} (hg : (s.chan c).health = .good) (l : Lane) :
    (passageCounted l (s.modChan c Channel.cleared)).cutRecord l = (passageCounted l s).cutRecord l := by
  have hx := passageCounted_only l s
  have hy := passageCounted_only l (s.modChan c Channel.cleared)
  have hs : (passageCounted l (s.modChan c Channel.cleared)).goodStop l = (passageCounted l s).goodStop l := by
    refine goodStop_congr (fun d => ?_) l
    rw [hx.chan, hy.chan, chan_modChan]
    split
    · next hd => simp [Channel.cleared, hd, hg]
    · simp
  have ht : (passageCounted l (s.modChan c Channel.cleared)).siteTime = (passageCounted l s).siteTime :=
    ((hy.same .env).2.2.1).trans (hx.same .env).2.2.1.symm
  have hp : (passageCounted l (s.modChan c Channel.cleared)).plans = (passageCounted l s).plans :=
    Eq.trans (b := s.plans) (hy.same .plans) (Eq.symm (hx.same .plans))
  simp only [State.cutRecord, hs, ht, hp, (passageCounted_modChan l c Channel.cleared s).1]

/-- A clearing of a lane's GOOD STOP channel is a passage of the lane (R22). -/
theorem takeClearing_passageTaken {c : Chan} {l : Lane} {s : State} (hr : (s.chan c).role = .stop)
    (hg : (s.chan c).health = .good) (hl : (s.chan c).lane = some l) (hm : s.mode l ≠ .unused) :
    PassageTaken l s (takeClearing c s) := by
  have hx := passageCounted_only l s
  have hy := passageCounted_only l (s.modChan c Channel.cleared)
  obtain ⟨el, eg, ek⟩ := passageCounted_modChan l c Channel.cleared s
  have ec := cutRecord_modChan hg l
  have lanesOf : ∀ m, m ≠ l → (passageCounted l (s.modChan c Channel.cleared)).lane m = s.lane m := fun m h => by
    rw [lane_passageCounted, if_neg h]; rfl
  have hv := (modChan_only s c Channel.cleared).mono (cs := [.chans, .lanes, .records, .counts, .notices, .stream])
  rw [takeClearing_passage hr hg hl, passage_eq (s := s.modChan c Channel.cleared) hm]
  generalize passageCounted l (s.modChan c Channel.cleared) = y at *
  have hsy : Only [.chans, .lanes, .records, .counts, .notices, .stream] s y := hv.step hy
  have same : y.greenOver l ↔ (passageCounted l s).greenOver l :=
    greenOver_congr el ((hsy.same .env).2.1.trans (hx.same .env).2.1.symm)
      (Eq.trans (b := s.desc) (hsy.same .desc) (Eq.symm (hx.same .desc)))
      (Eq.trans (b := s.site) (hsy.same .site) (Eq.symm (hx.same .site)))
  have hrf := refresh_only (tryEndGreen l y)
  refine ⟨?_, fun m h => ?_, fun h => ?_, fun h => ?_⟩
  · rw [hrf.log, tryEndGreen_logLanes, eg]
  · rw [lane_of_lanes (hrf.same .lanes)]
    unfold tryEndGreen
    split
    · rw [lane_greenToAmber, if_neg h, lanesOf m h]
    · exact lanesOf m h
  · rw [tryEndGreen_stands fun k => h (same.1 k)] at hrf ⊢
    refine ⟨(lane_of_lanes (hrf.same .lanes) l).trans el, ?_, ?_, ?_, ?_⟩
    · exact Eq.trans (b := y.lamps) (hrf.same .lamps) (hsy.same .lamps)
    · rw [hrf.log, eg]
    · rw [hrf.link, ek]
    · have k := refresh_takes hsy
      rwa [show y.handoffs = s.handoffs from hsy.same .handoffs] at k
  · rw [tryEndGreen_ends (same.2 h)] at hrf ⊢
    refine ⟨?_, ?_, ?_⟩
    · have k := (greenToAmber_becomes y l).since lanesOf (hsy.same .lamps)
      rw [el, (hsy.same .env).2.1] at k
      exact k.andKeep (hrf.same .lanes) (hrf.same .lamps)
    · have hc : (y.lane l).cut = ((passageCounted l s).lane l).cut := by rw [el]
      exact ((greenToAmber_cutWritten l y).congr ec.symm hc.symm eg.symm ek.symm).until hrf.log hrf.link
    · have k := refresh_takes
        ((hsy.mono (cs := [.chans, .lanes, .lamps, .records, .counts, .notices, .stream, .handoffs])).step
          (greenToAmber_only l y))
      rwa [greenToAmber_handoffs, el, show y.handoffs = s.handoffs from hsy.same .handoffs] at k

/-! ### The kind of a passage (R70) -/

/-- The kind of R70, in the order of its table. -/
theorem passageKind_table {s : State} {l : Lane} (hm : s.mode l ≠ .unused) :
    s.passageKind l = (if s.mode l = .counted then .unmetered
      else
        match (s.lane l).state with
        | .off => .unmetered
        | .warning => .unmetered
        | .opened => .unmetered
        | .green => .released
        | .amber => if (s.lane l).grant = none then .unmetered else .late
        | .red =>
          if s.par .redGrace < s.now - (s.lane l).entryAt then .violation
          else if (s.lane l).grant = none then .unmetered else .late) := by
  have hq : s.sequenced l = decide (s.mode l ≠ .counted) := by
    unfold State.sequenced
    cases h : s.mode l <;> simp_all [LaneMode.sequenced]
  have hg : s.inGrace l = decide (¬s.par .redGrace < s.now - (s.lane l).entryAt) := by
    simp [State.inGrace, State.sinceEntry]
  unfold State.passageKind
  rw [hq, hg]
  by_cases hc : s.mode l = .counted
  · simp [hc]
  · cases (s.lane l).state <;> cases (s.lane l).grant <;> simp [hc]
    all_goals split <;> simp_all

theorem ofGrant_iff (k : RecKind) : k.ofGrant = (k == .released || k == .late) := by cases k <;> rfl

theorem passageCounted_lane (l : Lane) (s : State) :
    (passageCounted l s).lane l = (s.lane l).passed (s.passageKind l).ofGrant := by
  rw [lane_passageCounted, if_pos rfl]

/-- When a passage finds its green over: in GREEN from min_green, with an end condition (R56, R57). -/
theorem passage_greenOver_iff {s : State} {l : Lane} {t1 d z : Nat} (ho : (s.lane l).onsetAt = some t1)
    (hd : (s.lane l).greenFor = some d) (hz : (s.lane l).size = some z) :
    (passageCounted l s).greenOver l ↔ (s.lane l).state = .green ∧ t1 + s.par .minGreen ≤ s.now ∧
      (z ≤ ((s.lane l).passed (s.passageKind l).ofGrant).passages ∨ t1 + d ≤ s.now ∨ (s.lane l).cut = true ∨
        (s.site.state = .metering ∧ govIs (s.lane l).gov .close = true)) := by
  have k := passageCounted_only l s
  have hl := passageCounted_lane l s
  have hn : (passageCounted l s).now = s.now := (k.same .env).2.1
  have hs : (passageCounted l s).site = s.site := k.same .site
  have hp : (passageCounted l s).par .minGreen = s.par .minGreen := by
    simp only [State.par, show (passageCounted l s).desc = s.desc from k.same .desc]
  have hr : ((passageCounted l s).lane l).onsetAt = some t1 ∧ ((passageCounted l s).lane l).greenFor = some d ∧
      ((passageCounted l s).lane l).size = some z := by
    rw [hl]
    exact ⟨ho, hd, hz⟩
  unfold State.greenOver
  rw [greenFor_iff hr.1, greenEnds_iff hr.1 hr.2.1 hr.2.2, hl, hn, hs, hp]
  rfl

/-! ### The statement -/

/-- Settles O33: a clearing writes its record; one that is a passage is written and counted, and ends the green or not. -/
theorem clearingsAreTakenAndPassagesRecorded : Obligations.ClearingsAreTakenAndPassagesRecorded := by
  refine ⟨fun s c t0 hr ho hp ht => ?_, fun s c t0 l k counts hr ho hp ht hrole hgood hlane hmode hk hcounts => ?_⟩
  · refine ⟨_, exec_clearing hr ho hp ht, ?_, fun d hd => ?_, fun h => ?_⟩
    · rw [takeClearing_chan, if_pos rfl]
      rfl
    · rw [takeClearing_chan, if_neg hd]
    · have q := takeClearing_takes h
      exact ⟨q.only, q.notices, q.taken⟩
  · have q := takeClearing_passageTaken hrole hgood hlane hmode
    have hkind : k = s.passageKind l := hk.trans (passageKind_table hmode).symm
    rw [← ofGrant_iff] at hcounts
    subst hkind hcounts
    have hlaneOf := passageCounted_lane l s
    have hlog : (takeClearing c s).log.lanes.get l = (s.log.lanes.get l).passed (s.passageKind l) := by
      rw [q.counters, (log_passageCounted l s).1]
      exact Quad.get_set_same _ _ _
    have record : ((takeClearing c s).lane l).noShows = 0 ∧
        ((takeClearing c s).lane l).passages = ((s.lane l).passed (s.passageKind l).ofGrant).passages := by
      by_cases h : (passageCounted l s).greenOver l
      · rw [(q.ends h).1.1, hlaneOf]
        exact ⟨rfl, rfl⟩
      · rw [(q.stands h).1, hlaneOf]
        exact ⟨rfl, rfl⟩
    refine ⟨_, exec_clearing hr ho hp ht, takeClearing_only c s, ?_, by rw [hlog]; rfl, by rw [hlog]; rfl, record.1,
      record.2, q.others⟩
    intro n r hn hq
    obtain rfl : r = (s.lane l).passed (s.passageKind l).ofGrant := by rw [hq, hn]; rfl
    refine ⟨?_, fun hs => ?_, fun t1 d z hs h1 hd hz => ⟨fun hmin hend => ?_, fun hnot => ?_⟩⟩
    · intro rec w x hrec hw hx
      obtain rfl : x = passageCounted l s := by rw [passageCounted_eq, hx, hw, hrec]; rfl
      refine ⟨fun hroom => ?_, ?_⟩
      · rw [hw, (writeRec_room hroom).1]
      · by_cases h : (passageCounted l s).greenOver l
        · obtain ⟨hb, hc, -⟩ := q.ends h
          have hg := h.1
          rw [hlaneOf] at hg
          exact .inr ⟨hg, by rw [hb.1]; rfl, hc⟩
        · obtain ⟨ha, -, hc, hd, -⟩ := q.stands h
          exact .inl ⟨by rw [ha, hlaneOf]; rfl, hc, hd⟩
    · have h : ¬(passageCounted l s).greenOver l := fun h => hs (by have hg := h.1; rwa [hlaneOf] at hg)
      obtain ⟨ha, hb, -, -, he⟩ := q.stands h
      exact ⟨ha.trans hlaneOf, hb, he⟩
    · have h := (passage_greenOver_iff h1 hd hz).2 ⟨hs, hmin, by rwa [hn] at hend⟩
      obtain ⟨hb, -, he⟩ := q.ends h
      rw [hlaneOf] at hb he
      refine ⟨hb, fun g hg => ?_⟩
      rwa [show ((s.lane l).passed (s.passageKind l).ofGrant).releaseEnds l = [.releaseEnd l g] by
        simp [LaneRec.releaseEnds, LaneRec.passed, hg]] at he
    · have h : ¬(passageCounted l s).greenOver l := by
        rw [passage_greenOver_iff h1 hd hz]
        rintro ⟨-, hmin, hend⟩
        rcases hnot with h | ⟨h2, h3, h4, h5⟩
        · omega
        · rw [hn] at h2
          rcases hend with e | e | e | ⟨e1, e2⟩
          · exact absurd e (Nat.not_le.2 h2)
          · omega
          · exact absurd (h4.symm.trans e) (by decide)
          · rcases h5 with h5 | h5
            · exact h5 e1
            · exact absurd (h5.symm.trans e2) (by decide)
      obtain ⟨ha, hb, -, -, he⟩ := q.stands h
      exact ⟨ha.trans hlaneOf, hb, he⟩

end Sys2Proof.Machine
end

section
/-! PROOFS. SET-CHANNEL: its arguments, the limits of R21, and what an accepted configuration makes of the channel (R20 to
R23, R26, R29). -/

namespace Sys2Proof.Machine

set_option Elab.async false

/-! ### The arguments (R20) -/

theorem roleArg_code (r : Role) : roleArg r.code = some r := by cases r <;> rfl

theorem roleArg_high {b : Byte} (h : 7 < b.toNat) : roleArg b = none := by
  unfold roleArg
  split <;> simp_all

theorem onLimitOk_iff (n : Nat) : onLimitOk n = true ↔ n = 0 ∨ (10 ≤ n ∧ n ≤ 65000) := by simp [onLimitOk]

theorem offLimitOk_iff (n : Nat) : offLimitOk n = true ↔ n = 0 ∨ (600 ≤ n ∧ n ≤ 65000) := by simp [offLimitOk]

/-- The roles that need a lane (R19). -/
theorem needsLane_iff (r : Role) : r.needsLane = true ↔ r = .stop ∨ r = .demand ∨ r = .queue ∨ r = .advance := by
  cases r <;> simp [Role.needsLane]

section

variable {role filter onHi onLo offHi offLo : Byte}

theorem chanArgs_range (lane : Lane) (h : 7 < role.toNat ∨ 5 < filter.toNat ∨ (0 < be16 onHi onLo ∧ be16 onHi onLo < 10) ∨
    65000 < be16 onHi onLo ∨ (0 < be16 offHi offLo ∧ be16 offHi offLo < 600) ∨ 65000 < be16 offHi offLo) :
    chanArgs lane [role, filter, onHi, onLo, offHi, offLo] = none := by
  unfold chanArgs
  dsimp only
  rcases h with h | h
  · rw [roleArg_high h]
  · split
    · refine if_neg ?_
      rw [onLimitOk_iff, offLimitOk_iff]
      omega
    · rfl

theorem chanArgs_config (lane : Lane) (r : Role) (hr : role = r.code) (hf : filter.toNat ≤ 5)
    (hon : be16 onHi onLo = 0 ∨ (10 ≤ be16 onHi onLo ∧ be16 onHi onLo ≤ 65000))
    (hoff : be16 offHi offLo = 0 ∨ (600 ≤ be16 offHi offLo ∧ be16 offHi offLo ≤ 65000)) :
    chanArgs lane [role, filter, onHi, onLo, offHi, offLo] = some
      { role := r
        lane := if r = .stop ∨ r = .demand ∨ r = .queue ∨ r = .advance then some lane else none
        filter := filter.toNat, onLimit := be16 onHi onLo, offLimit := be16 offHi offLo } := by
  unfold chanArgs
  dsimp only
  rw [hr, roleArg_code]
  dsimp only
  rw [if_pos ⟨hf, (onLimitOk_iff _).2 hon, (offLimitOk_iff _).2 hoff⟩]
  simp only [needsLane_iff]

end

/-! ### The act -/

theorem openFrame_chansWith (cmd : Cmd) (s : State) (c : Chan) (k : ChanConfig) :
    (openFrame cmd s).chansWith c k = s.chansWith c k := by
  simp [State.chansWith]

theorem actSetChannel_range {args : List Byte} {held : HeldSet} {s : State} (h : s.configurable)
    (ha : chanArgs (held.lane.getD 0) args = none) :
    actSetChannel args held (openFrame .setChannel s) = (.range, openFrame .setChannel s) := by
  unfold actSetChannel
  simp only [inWindow_open h, ha]

theorem actSetChannel_config {args : List Byte} {held : HeldSet} {k : ChanConfig} {s : State} (h : s.configurable)
    (ha : chanArgs (held.lane.getD 0) args = some k) :
    actSetChannel args held (openFrame .setChannel s) =
      if chanSetOk s.desc.priority (s.chansWith (held.chan.getD 0) k) then
        (.done [], configure (held.chan.getD 0) k (openFrame .setChannel s))
      else (.refused .conflict, openFrame .setChannel s) := by
  unfold actSetChannel
  simp only [inWindow_open h, ha, openFrame_desc, openFrame_chansWith]

/-! ### The limits of R21 -/

theorem roleCount_eq (b : Bank Channel) (r : Role) :
    roleCount b r = (allSixteen.filter (fun c => (Bank.at b c).role == r)).length := by
  unfold roleCount
  rw [bankList_eq, List.countP_map, List.countP_eq_length_filter]
  rfl

/-- At most one of the sixteen numbers is chosen, or every two chosen are the same. -/
theorem filter_length_le_one (p : Fin 16 → Bool) :
    (allSixteen.filter p).length ≤ 1 ↔ ∀ c d, p c = true → p d = true → c = d := by
  have hn : (allSixteen.filter p).Nodup := List.Nodup.filter p (by decide)
  rw [← List.toFinset_card_of_nodup hn, Finset.card_le_one]
  simp only [List.mem_toFinset, List.mem_filter, mem_allSixteen, true_and]
  exact ⟨fun h c d hc hd => h c hc d hd, fun h c hc d hd => h c d hc hd⟩

theorem boundCount_le_one (b : Bank Channel) (r : Role) (l : Lane) : boundCount b r l ≤ 1 ↔
    ∀ c d : Chan, (Bank.at b c).role = r → (Bank.at b c).lane = some l → (Bank.at b d).role = r →
      (Bank.at b d).lane = some l → c = d := by
  unfold boundCount
  rw [bankList_eq, List.countP_map, List.countP_eq_length_filter, filter_length_le_one]
  simp only [Function.comp, Bool.and_eq_true, beq_iff_eq]
  exact ⟨fun h c d hr hl hr' hl' => h c d ⟨hr, hl⟩ ⟨hr', hl'⟩, fun h c d ⟨hr, hl⟩ ⟨hr', hl'⟩ => h c d hr hl hr' hl'⟩

/-- Every ADVANCE channel is bound to the priority lane (R21). -/
theorem advanceBound_iff (prio : Option Lane) (b : Bank Channel) :
    (Bank.list b).all (fun c => c.role != .advance || (prio.isSome && c.lane == prio)) = true ↔
      ∀ c : Chan, (Bank.at b c).role = .advance → prio ≠ none ∧ (Bank.at b c).lane = prio := by
  rw [bankList_eq]
  simp [mem_allSixteen, Option.isSome_iff_ne_none, or_iff_not_imp_left]

theorem chanSetOk_iff (prio : Option Lane) (b : Bank Channel) : chanSetOk prio b = true ↔
    ((∀ (l : Lane) (r : Role), r = .stop ∨ r = .demand ∨ r = .queue ∨ r = .advance → ∀ c d : Chan,
        (Bank.at b c).role = r → (Bank.at b c).lane = some l → (Bank.at b d).role = r → (Bank.at b d).lane = some l →
        c = d) ∧
      (∀ c : Chan, (Bank.at b c).role = .advance → prio ≠ none ∧ (Bank.at b c).lane = prio) ∧
      (allSixteen.filter (fun c => (Bank.at b c).role == .merge)).length ≤ 2 ∧
      (allSixteen.filter (fun c => (Bank.at b c).role == .spill)).length ≤ 2 ∧
      (allSixteen.filter (fun c => (Bank.at b c).role == .mainline)).length ≤ 4) := by
  have bound : (allLanes.all (fun l => decide (boundCount b .stop l ≤ 1) && decide (boundCount b .demand l ≤ 1) &&
      decide (boundCount b .queue l ≤ 1) && decide (boundCount b .advance l ≤ 1)) = true) ↔
      ∀ (l : Lane) (r : Role), r = .stop ∨ r = .demand ∨ r = .queue ∨ r = .advance → boundCount b r l ≤ 1 := by
    simp [mem_allLanes, and_assoc]
  unfold chanSetOk
  rw [Bool.and_eq_true, Bool.and_eq_true, Bool.and_eq_true, Bool.and_eq_true, bound, advanceBound_iff]
  simp only [boundCount_le_one, roleCount_eq, decide_eq_true_eq, and_assoc]

/-! ### What the change and the limit make of the record (R22, R23) -/

/-- A channel's record once a pending change that has held its filter time is taken (R22). -/
def Channel.held (now : Nat) (r : Channel) : Channel :=
  if r.changeIn now = some 0 then (if r.occupied then r.cleared else r.actuated) else r

/-- A supervised channel's continuous-occupied time exceeds its stuck-on limit (R23). -/
def Channel.overLimit (r : Channel) : Prop :=
  r.role ≠ .none ∧ r.health = .good ∧ r.onLimit ≠ 0 ∧ r.occupied = true ∧ r.onLimit < r.contOccupied

theorem stuckOnIn_due (s : State) (c : Chan) : s.stuckOnIn c = some 0 ↔ (s.chan c).overLimit := by
  unfold State.stuckOnIn Channel.overLimit Channel.supervised
  dsimp only
  split
  · next h =>
    simp only [Bool.and_eq_true, bne_iff_ne, ne_eq, beq_iff_eq] at h
    obtain ⟨⟨⟨hr, hg⟩, hl⟩, ho⟩ := h
    simp [hr, hg, hl, ho]
    omega
  · next h =>
    simp only [Bool.and_eq_true, bne_iff_ne, ne_eq, beq_iff_eq, not_and] at h
    simp only [reduceCtorEq, false_iff]
    rintro ⟨hr, hg, hl, ho, -⟩
    exact h ⟨⟨hr, hg⟩, hl⟩ ho

theorem takeActuation_chan (c d : Chan) (s : State) :
    (takeActuation c s).chan d = if d = c then (s.chan c).actuated else s.chan d := by
  have k := takeActuation_takes c s
  split
  · next hd => rw [hd, k.self]
  · next hd => exact k.others d hd

theorem takeIfHeld_chan (c d : Chan) (s : State) :
    (takeIfHeld c s).chan d = if d = c then (s.chan c).held s.now else s.chan d := by
  unfold Channel.held
  by_cases h : (s.chan c).changeIn s.now = some 0
  · rw [if_pos h]
    cases ho : (s.chan c).occupied with
    | true => rw [takeIfHeld_clearing ho h, takeClearing_chan, if_pos rfl]
    | false => rw [takeIfHeld_actuation ho h, takeActuation_chan, if_neg Bool.false_ne_true]
  · rw [takeIfHeld_waits h, if_neg h]
    split
    · next hd => rw [hd]
    · rfl

theorem stickIfOver_over {c : Chan} {s : State} (h : (s.chan c).overLimit) :
    stickIfOver c s = becomeStuck c .stuckOn .continuous s := if_pos ((stuckOnIn_due s c).2 h)

theorem stickIfOver_within {c : Chan} {s : State} (h : ¬(s.chan c).overLimit) : stickIfOver c s = s :=
  if_neg (mt (stuckOnIn_due s c).1 h)

theorem actuated_within (r : Channel) : ¬r.actuated.overLimit := fun ⟨_, _, _, _, h⟩ => absurd h (Nat.not_lt_zero _)

theorem cleared_within (r : Channel) : ¬r.cleared.overLimit := fun ⟨_, _, _, h, _⟩ => absurd h (by simp [Channel.cleared])

/-- A record in which a change was just taken exceeds no limit. -/
theorem held_within {now : Nat} {r : Channel} (h : r.changeIn now = some 0) : ¬(r.held now).overLimit := by
  unfold Channel.held
  rw [if_pos h]
  split
  · exact cleared_within r
  · exact actuated_within r

theorem held_waits {now : Nat} {r : Channel} (h : r.changeIn now ≠ some 0) : r.held now = r := if_neg h

@[simp] theorem held_config (now : Nat) (r : Channel) : (r.held now).config = r.config := by
  unfold Channel.held
  split
  · split <;> rfl
  · rfl

/-! ### DETECTOR stays raised, and a change of health raises it (R23, R26) -/

/-- The DETECTOR class is pending. -/
def Link.told (k : Link) : Prop := k.notices &&& Notice.detector.bit ≠ 0

theorem or_told {n b : BitVec 8} (h : n &&& Notice.detector.bit ≠ 0) : (n ||| b) &&& Notice.detector.bit ≠ 0 := by
  rw [BitVec.and_comm, BitVec.and_or_distrib_left, BitVec.and_comm]
  intro e
  exact h (BitVec.or_eq_zero_iff.1 e).1

theorem detector_told (n : BitVec 8) : (n ||| Notice.detector.bit) &&& Notice.detector.bit ≠ 0 := by
  rw [BitVec.or_comm]
  exact or_told (by decide)

/-- A pending DETECTOR stays pending, and a change of the channel's health leaves it pending. -/
structure HealthTold (c : Chan) (s t : State) : Prop where
  stays : s.link.told → t.link.told
  raised : (t.chan c).health ≠ (s.chan c).health → t.link.told

theorem HealthTold.refl (c : Chan) (s : State) : HealthTold c s s := ⟨id, fun h => absurd rfl h⟩

theorem HealthTold.trans {c : Chan} {s t u : State} (h : HealthTold c s t) (k : HealthTold c t u) : HealthTold c s u := by
  refine ⟨k.stays ∘ h.stays, fun hc => ?_⟩
  by_cases ht : (u.chan c).health = (t.chan c).health
  · exact k.stays (h.raised (ht ▸ hc))
  · exact k.raised ht

/-- A channel that changes raises DETECTOR, or keeps its health and the notices. -/
theorem ChannelTakes.told {c : Chan} {r : Channel} {n : BitVec 8} {hs : List Handoff} {s t : State}
    (h : ChannelTakes c r n hs s t)
    (hn : n = s.link.notices ||| Notice.detector.bit ∨ (n = s.link.notices ∧ r.health = (s.chan c).health)) :
    HealthTold c s t := by
  have e := h.notices
  rcases hn with rfl | ⟨rfl, hk⟩
  · have k : t.link.told := by
      unfold Link.told
      rw [e]
      exact detector_told _
    exact ⟨fun _ => k, fun _ => k⟩
  · refine ⟨fun k => ?_, fun k => absurd (h.self ▸ hk) k⟩
    unfold Link.told at k ⊢
    rwa [e]

theorem takeActuation_told (c : Chan) (s : State) : HealthTold c s (takeActuation c s) := by
  refine (takeActuation_takes c s).told ?_
  by_cases h : (s.chan c).health = .stuckOff
  · exact .inl (if_pos h)
  · exact .inr ⟨if_neg h, if_neg h⟩

theorem writeRec_told (r : PassRec) {s : State} (h : s.link.told) : (writeRec r s).link.told := by
  unfold Link.told at h ⊢
  by_cases hr : s.log.records.length < 256
  · rw [(writeRec_room hr).2]
    dsimp only
    split
    · exact or_told h
    · exact h
  · rw [(writeRec_full (by omega)).2]
    dsimp only
    split
    · exact or_told h
    · exact h

theorem passageCounted_told (l : Lane) {s : State} (h : s.link.told) : (passageCounted l s).link.told := by
  rw [(log_passageCounted l s).2]
  exact writeRec_told _ h

/-- A passage, and the end of a green that it brings, raise classes and clear none. -/
theorem PassageTaken.told {l : Lane} {s t : State} (h : PassageTaken l s t) (hs : s.link.told) : t.link.told := by
  have hp := passageCounted_told l hs
  by_cases ho : (passageCounted l s).greenOver l
  · obtain ⟨-, ⟨whole, cut⟩, -⟩ := h.ends ho
    cases hc : ((passageCounted l s).lane l).cut with
    | false => exact (whole hc).2 ▸ hp
    | true => exact (cut hc _ rfl).2 ▸ writeRec_told _ hp
  · obtain ⟨-, -, -, hk, -⟩ := h.stands ho
    exact hk ▸ hp

theorem takeClearing_told (c : Chan) (s : State) : HealthTold c s (takeClearing c s) := by
  by_cases h : (s.chan c).role ≠ .stop ∨ (s.chan c).health ≠ .good ∨ ∀ l, (s.chan c).lane = some l → s.mode l = .unused
  · refine (takeClearing_takes h).told ?_
    by_cases hh : (s.chan c).health = .stuckOn
    · exact .inl (if_pos hh)
    · exact .inr ⟨if_neg hh, if_neg hh⟩
  · push Not at h
    obtain ⟨hr, hg, l, hl, hm⟩ := h
    refine ⟨(takeClearing_passageTaken hr hg hl hm).told, fun k => absurd ?_ k⟩
    rw [takeClearing_chan, if_pos rfl]
    exact if_neg (by simp [hg])

theorem takeIfHeld_told (c : Chan) (s : State) : HealthTold c s (takeIfHeld c s) := by
  unfold takeIfHeld
  split
  · exact takeActuation_told c s
  · split
    · exact takeClearing_told c s
    · exact HealthTold.refl c s

theorem stickIfOver_told (c : Chan) (s : State) : HealthTold c s (stickIfOver c s) := by
  by_cases h : (s.chan c).overLimit
  · rw [stickIfOver_over h]
    exact (becomeStuck_takes c _ _ s).told (.inl rfl)
  · rw [stickIfOver_within h]
    exact HealthTold.refl c s

/-! ### An accepted configuration (R20) -/

theorem configure_same {c : Chan} {k : ChanConfig} {s : State} (h : (s.chan c).config = k) : configure c k s = s :=
  if_pos h

/-- A channel's record changes and nothing else, and every consumer takes the readings. -/
theorem modChan_takes (c : Chan) (f : Channel → Channel) (s : State) :
    ChannelTakes c (f (s.chan c)) s.link.notices s.handoffs s (refresh (s.modChan c f)) :=
  refresh_channelTakes (u := s.modChan c f) (Only.refl _ _)

/-- The new configuration, with the running state kept where role and lane stay, is taken by every consumer. -/
theorem withConfig_takes (c : Chan) (k : ChanConfig) (s : State) :
    ChannelTakes c ((s.chan c).withConfig k) s.link.notices s.handoffs s
      (refresh (s.modChan c (fun x => x.withConfig k))) :=
  modChan_takes c (fun x => x.withConfig k) s

theorem configure_kept_eq {c : Chan} {k : ChanConfig} {s : State} (h : (s.chan c).config ≠ k)
    (hk : (s.chan c).role = k.role ∧ (s.chan c).lane = k.lane) :
    configure c k s = stickIfOver c (takeIfHeld c (refresh (s.modChan c (fun x => x.withConfig k)))) := by
  unfold configure
  rw [if_neg h, if_pos hk]

/-- What a change of role or lane leaves before a pending change is taken. -/
def rebind (c : Chan) (k : ChanConfig) (s : State) : State :=
  refresh (if (s.chan c).health = .good then s.modChan c (Channel.rebound k)
    else raise .detector (s.modChan c (Channel.rebound k)))

theorem rebind_takes (c : Chan) (k : ChanConfig) (s : State) :
    ChannelTakes c ((s.chan c).rebound k)
      (if (s.chan c).health = .good then s.link.notices else s.link.notices ||| Notice.detector.bit) s.handoffs s
      (rebind c k s) := by
  unfold rebind
  by_cases h : (s.chan c).health = .good
  · rw [if_pos h, if_pos h]
    exact modChan_takes c (Channel.rebound k) s
  · rw [if_neg h, if_neg h]
    exact refresh_channelTakes (f := Channel.rebound k) ((raise_only _ _).mono)

theorem rebind_told (c : Chan) (k : ChanConfig) (s : State) : HealthTold c s (rebind c k s) := by
  refine (rebind_takes c k s).told ?_
  by_cases h : (s.chan c).health = .good
  · exact .inr ⟨if_pos h, h.symm⟩
  · exact .inl (if_neg h)

theorem configure_rebound_eq {c : Chan} {k : ChanConfig} {s : State}
    (hk : ¬((s.chan c).role = k.role ∧ (s.chan c).lane = k.lane)) : configure c k s = takeIfHeld c (rebind c k s) := by
  have h : (s.chan c).config ≠ k := fun e => hk (by rw [← e]; exact ⟨rfl, rfl⟩)
  unfold configure
  rw [if_neg h, if_neg hk]
  rfl

theorem configure_told (c : Chan) (k : ChanConfig) (s : State) : HealthTold c s (configure c k s) := by
  by_cases h : (s.chan c).config = k
  · rw [configure_same h]
    exact HealthTold.refl c s
  · by_cases hk : (s.chan c).role = k.role ∧ (s.chan c).lane = k.lane
    · rw [configure_kept_eq h hk]
      have w : HealthTold c s (refresh (s.modChan c (fun x => x.withConfig k))) :=
        (withConfig_takes c k s).told (.inr ⟨rfl, rfl⟩)
      exact (w.trans (takeIfHeld_told c _)).trans (stickIfOver_told c _)
    · rw [configure_rebound_eq hk]
      exact (rebind_told c k s).trans (takeIfHeld_told c _)

/-- Only the channel named is written, and it has the new configuration. -/
theorem configure_chans (c : Chan) (k : ChanConfig) (s : State) :
    ((configure c k s).chan c).config = k ∧ ∀ d, d ≠ c → (configure c k s).chan d = s.chan d := by
  have stuck : ∀ t, ((stickIfOver c t).chan c).config = (t.chan c).config ∧
      ∀ d, d ≠ c → (stickIfOver c t).chan d = t.chan d := fun t => by
    by_cases ho : (t.chan c).overLimit
    · have q := becomeStuck_takes c .stuckOn .continuous t
      rw [stickIfOver_over ho]
      exact ⟨by rw [q.self]; rfl, q.others⟩
    · rw [stickIfOver_within ho]
      exact ⟨rfl, fun _ _ => rfl⟩
  by_cases h : (s.chan c).config = k
  · rw [configure_same h]
    exact ⟨h, fun _ _ => rfl⟩
  · by_cases hk : (s.chan c).role = k.role ∧ (s.chan c).lane = k.lane
    · have q := withConfig_takes c k s
      rw [configure_kept_eq h hk]
      refine ⟨?_, fun d hd => ?_⟩
      · rw [(stuck _).1, takeIfHeld_chan, if_pos rfl, held_config, q.self]
        rfl
      · rw [(stuck _).2 d hd, takeIfHeld_chan, if_neg hd, q.others d hd]
    · have q := rebind_takes c k s
      rw [configure_rebound_eq hk]
      refine ⟨?_, fun d hd => ?_⟩
      · rw [takeIfHeld_chan, if_pos rfl, held_config, q.self]
        rfl
      · rw [takeIfHeld_chan, if_neg hd, q.others d hd]

/-- The record under the new configuration, before a pending change or a limit acts. -/
def Channel.reconfigured (k : ChanConfig) (r : Channel) : Channel :=
  if r.role = k.role ∧ r.lane = k.lane then r.withConfig k else r.rebound k

/-- A pending change that has held the new filter time is taken at the command (R22). -/
theorem configure_held {c : Chan} {k : ChanConfig} {s : State} (h : (s.chan c).config ≠ k)
    (hd : ((s.chan c).reconfigured k).changeIn s.now = some 0) :
    (configure c k s).chan c = ((s.chan c).reconfigured k).held s.now := by
  unfold Channel.reconfigured at hd ⊢
  by_cases hk : (s.chan c).role = k.role ∧ (s.chan c).lane = k.lane
  · rw [if_pos hk] at hd ⊢
    have q := withConfig_takes c k s
    have hn : (refresh (s.modChan c (fun x => x.withConfig k))).now = s.now := (q.only.same .env).2.1
    have ht : (takeIfHeld c (refresh (s.modChan c (fun x => x.withConfig k)))).chan c =
        ((s.chan c).withConfig k).held s.now := by
      rw [takeIfHeld_chan, if_pos rfl, q.self, hn]
    rw [configure_kept_eq h hk, stickIfOver_within (by rw [ht]; exact held_within hd), ht]
  · rw [if_neg hk] at hd ⊢
    have q := rebind_takes c k s
    have hn : (rebind c k s).now = s.now := (q.only.same .env).2.1
    rw [configure_rebound_eq hk, takeIfHeld_chan, if_pos rfl, q.self, hn]

/-- With no change due, a kept channel past its new limit is STUCK-ON at once (R20, R23). -/
theorem configure_over {c : Chan} {k : ChanConfig} {s : State} (h : (s.chan c).config ≠ k)
    (hk : (s.chan c).role = k.role ∧ (s.chan c).lane = k.lane)
    (hw : ((s.chan c).withConfig k).changeIn s.now ≠ some 0) (ho : ((s.chan c).withConfig k).overLimit) :
    (configure c k s).chan c = { (s.chan c).withConfig k with health := .stuckOn, cause := some .continuous } := by
  have q := withConfig_takes c k s
  have hn : (refresh (s.modChan c (fun x => x.withConfig k))).now = s.now := (q.only.same .env).2.1
  rw [configure_kept_eq h hk, takeIfHeld_waits (by rw [q.self, hn]; exact hw), stickIfOver_over (by rw [q.self]; exact ho),
    (becomeStuck_takes c _ _ _).self, q.self]

/-- With no change due and no limit exceeded, the new configuration is all there is, and every consumer takes it. -/
theorem configure_quiet {c : Chan} {k : ChanConfig} {s : State} (h : (s.chan c).config ≠ k)
    (hw : ((s.chan c).reconfigured k).changeIn s.now ≠ some 0)
    (ho : (s.chan c).role = k.role ∧ (s.chan c).lane = k.lane → ¬((s.chan c).withConfig k).overLimit) :
    ChannelTakes c ((s.chan c).reconfigured k)
      (if ((s.chan c).role = k.role ∧ (s.chan c).lane = k.lane) ∨ (s.chan c).health = .good then s.link.notices
        else s.link.notices ||| Notice.detector.bit) s.handoffs s (configure c k s) := by
  unfold Channel.reconfigured at hw ⊢
  by_cases hk : (s.chan c).role = k.role ∧ (s.chan c).lane = k.lane
  · rw [if_pos hk] at hw ⊢
    rw [if_pos (.inl hk)]
    have q := withConfig_takes c k s
    have hn : (refresh (s.modChan c (fun x => x.withConfig k))).now = s.now := (q.only.same .env).2.1
    rw [configure_kept_eq h hk, takeIfHeld_waits (by rw [q.self, hn]; exact hw),
      stickIfOver_within (by rw [q.self]; exact ho hk)]
    exact q
  · rw [if_neg hk] at hw ⊢
    have q := rebind_takes c k s
    have hn : (rebind c k s).now = s.now := (q.only.same .env).2.1
    rw [configure_rebound_eq hk, takeIfHeld_waits (by rw [q.self, hn]; exact hw)]
    simpa only [hk, false_or] using q

@[simp] theorem reconfigured_changeFrom (k : ChanConfig) (r : Channel) : (r.reconfigured k).changeFrom = r.changeFrom := by
  unfold Channel.reconfigured
  split <;> rfl

@[simp] theorem reconfigured_filter (k : ChanConfig) (r : Channel) : (r.reconfigured k).filter = k.filter := by
  unfold Channel.reconfigured
  split <;> rfl

/-- With no change pending, none is due under the new configuration. -/
theorem reconfigured_waits {k : ChanConfig} {r : Channel} (now : Nat) (h : r.changeFrom = none) :
    (r.reconfigured k).changeIn now ≠ some 0 :=
  changeIn_waits (fun t0 e => by rw [reconfigured_changeFrom, h] at e; cases e)

/-- A change of role or lane, with no change of occupancy pending, starts the channel afresh (R20, R26). -/
theorem configure_fresh {c : Chan} {k : ChanConfig} {s : State} (hk : (s.chan c).role ≠ k.role ∨ (s.chan c).lane ≠ k.lane)
    (hp : (s.chan c).changeFrom = none) :
    (configure c k s).chan c = (s.chan c).rebound k ∧ (configure c k s).link.notices =
      if (s.chan c).health = .good then s.link.notices else s.link.notices ||| Notice.detector.bit := by
  have hk : ¬((s.chan c).role = k.role ∧ (s.chan c).lane = k.lane) := by rwa [not_and_or]
  have h : (s.chan c).config ≠ k := fun e => hk (by rw [← e]; exact ⟨rfl, rfl⟩)
  have q := configure_quiet h (reconfigured_waits s.now hp) (fun e => absurd e hk)
  simp only [hk, false_or] at q
  exact ⟨q.self.trans (if_neg hk), q.notices⟩

/-- A kept channel that is free, with no change pending, takes the new filter and limits and nothing else (R20). -/
theorem configure_free {c : Chan} {k : ChanConfig} {s : State} (hk : (s.chan c).role = k.role ∧ (s.chan c).lane = k.lane)
    (hp : (s.chan c).changeFrom = none) (ho : (s.chan c).occupied = false) :
    (configure c k s).chan c = (s.chan c).withConfig k := by
  by_cases h : (s.chan c).config = k
  · rw [configure_same h, ← h]
    rfl
  · have free : ¬((s.chan c).withConfig k).overLimit := fun ⟨_, _, _, e, _⟩ => Bool.false_ne_true (ho.symm.trans e)
    exact (configure_quiet h (reconfigured_waits s.now hp) (fun _ => free)).self.trans (if_pos hk)

/-! ### SET-CHANNEL accepted -/

section

variable {s : State} {c : Chan} {k : ChanConfig}

theorem setChannel_due {t0 : Nat} (h : (s.chan c).config ≠ k)
    (hp : ((s.chan c).reconfigured k).changeFrom = some t0) (ht : t0 + k.filter ≤ s.now) :
    (configure c k (openFrame .setChannel s)).chan c =
      if ((s.chan c).reconfigured k).occupied then ((s.chan c).reconfigured k).cleared
      else ((s.chan c).reconfigured k).actuated := by
  have hd : ((s.chan c).reconfigured k).changeIn s.now = some 0 :=
    changeIn_held hp (by rw [reconfigured_filter]; exact ht)
  have e := configure_held (s := openFrame .setChannel s) (by rw [openFrame_chan]; exact h)
    (by rw [openFrame_chan, openFrame_now]; exact hd)
  rw [e, openFrame_chan, openFrame_now]
  exact if_pos hd

theorem setChannel_over (h : (s.chan c).config ≠ k) (hk : (s.chan c).role = k.role ∧ (s.chan c).lane = k.lane)
    (hw : ((s.chan c).withConfig k).changeIn s.now ≠ some 0) (ho : ((s.chan c).withConfig k).overLimit) :
    (configure c k (openFrame .setChannel s)).chan c =
      { (s.chan c).withConfig k with health := .stuckOn, cause := some .continuous } := by
  have e := configure_over (s := openFrame .setChannel s) (c := c) (k := k)
  simp only [openFrame_chan, openFrame_now] at e
  exact e h hk hw ho

theorem setChannel_quiet (h : (s.chan c).config ≠ k) (hw : ((s.chan c).reconfigured k).changeIn s.now ≠ some 0)
    (ho : (s.chan c).role = k.role ∧ (s.chan c).lane = k.lane → ¬((s.chan c).withConfig k).overLimit) :
    (configure c k (openFrame .setChannel s)).chan c = (s.chan c).reconfigured k ∧
      ReadingsTaken s.handoffs s (configure c k (openFrame .setChannel s)) := by
  have q := configure_quiet (s := openFrame .setChannel s) (c := c) (k := k)
    (by rw [openFrame_chan]; exact h) (by rw [openFrame_chan, openFrame_now]; exact hw)
    (by rw [openFrame_chan]; exact ho)
  have hs := q.self
  have ht := q.taken.since (r := s) (by rw [openFrame_det]) (by rw [openFrame_det]; exact ⟨rfl, rfl⟩)
  rw [openFrame_chan] at hs
  rw [openFrame_handoffs] at ht
  exact ⟨hs, ht⟩

/-- What an accepted SET-CHANNEL with a new configuration makes of the channel: a pending change that has held the new
filter time is taken; without one, a new limit already exceeded acts (R20, R22, R23). -/
theorem setChannel_record {kept : Bool} {q : Channel} (h : (s.chan c).config ≠ k)
    (hk : kept = true ↔ (s.chan c).role = k.role ∧ (s.chan c).lane = k.lane) (hq : q = (s.chan c).reconfigured k) :
    (∀ t0, q.changeFrom = some t0 → t0 + k.filter ≤ s.now →
      (q.occupied = false → (configure c k (openFrame .setChannel s)).chan c = q.actuated) ∧
      (q.occupied = true → (configure c k (openFrame .setChannel s)).chan c = q.cleared)) ∧
    ((∀ t0, q.changeFrom = some t0 → s.now < t0 + k.filter) →
      (kept = true → k.role ≠ .none → q.health = .good → k.onLimit ≠ 0 → q.occupied = true → k.onLimit < q.contOccupied →
        (configure c k (openFrame .setChannel s)).chan c = { q with health := .stuckOn, cause := some .continuous }) ∧
      (kept = false ∨ k.role = .none ∨ q.health ≠ .good ∨ k.onLimit = 0 ∨ q.occupied = false ∨
        q.contOccupied ≤ k.onLimit → (configure c k (openFrame .setChannel s)).chan c = q ∧
          ReadingsTaken s.handoffs s (configure c k (openFrame .setChannel s)))) := by
  subst hq
  refine ⟨fun t0 hp ht => ?_, fun hw => ?_⟩
  · have e := setChannel_due h hp ht
    exact ⟨fun ho => by rw [e, ho, if_neg Bool.false_ne_true], fun ho => by rw [e, ho, if_pos rfl]⟩
  · have hw : ((s.chan c).reconfigured k).changeIn s.now ≠ some 0 :=
      changeIn_waits (fun t0 e => by rw [reconfigured_filter]; exact hw t0 e)
    have same : (s.chan c).role = k.role ∧ (s.chan c).lane = k.lane →
        (s.chan c).reconfigured k = (s.chan c).withConfig k := fun e => if_pos e
    refine ⟨fun hkept hr hg hl ho ht => ?_, fun hc => setChannel_quiet h hw (fun hb ⟨hr, hg, hl, ho, ht⟩ => ?_)⟩
    · have hb := hk.1 hkept
      rw [same hb] at hw hg ho ht ⊢
      exact setChannel_over h hb hw ⟨hr, hg, hl, ho, ht⟩
    · rw [same hb] at hc
      rcases hc with hc | hc | hc | hc | hc | hc
      · exact Bool.false_ne_true (hc.symm.trans (hk.2 hb))
      · exact hr hc
      · exact hc hg
      · exact hl hc
      · exact Bool.false_ne_true (hc.symm.trans ho)
      · exact absurd ht (Nat.not_lt.2 hc)

end

/-- The record the statement spells out is the record under the new configuration. -/
theorem reconfigured_eq {kept : Bool} {k : ChanConfig} {r : Channel} (hk : kept = true ↔ r.role = k.role ∧ r.lane = k.lane) :
    (if kept then r.withConfig k else r.rebound k) = r.reconfigured k := by
  unfold Channel.reconfigured
  simp only [hk]

/-- Settles O17: the refusals by their branch; an accepted configuration by the record it leaves. -/
theorem setChannelConfiguresOneChannel : Obligations.SetChannelConfiguresOneChannel := by
  refine ⟨fun s role filter onHi onLo offHi offLo c hp hc => ⟨fun hw => ?_, fun hw h => ?_,
    fun r k hw hr hf hon hoff hk => ?_⟩, chanSetOk_iff⟩
  · exact answers_of_act rfl hp (inWindow_closed hw _ _)
  · exact answers_of_act rfl hp (actSetChannel_range hw (chanArgs_range _ h))
  · have act := actSetChannel_config hw (hk ▸ chanArgs_config _ r hr hf hon hoff)
    rw [← hc] at act
    refine ⟨fun hok => ?_, fun hok hsame => ?_, fun hok => ?_⟩
    · rw [hok, if_neg Bool.false_ne_true] at act
      exact answers_of_act rfl hp act
    · rw [if_pos hok, configure_same (by rw [openFrame_chan]; exact hsame)] at act
      exact answers_of_act rfl hp act
    · rw [if_pos hok] at act
      have hx := hostFrame_passes actSetChannel hp
      rw [act] at hx
      obtain ⟨hconf, hothers⟩ := configure_chans c k (openFrame .setChannel s)
      have fresh := configure_fresh (s := openFrame .setChannel s) (c := c) (k := k)
      have free := configure_free (s := openFrame .setChannel s) (c := c) (k := k)
      have told := (configure_told c k (openFrame .setChannel s)).raised
      simp only [openFrame_chan] at hothers fresh free told
      refine ⟨_, hx, configure_only _ _ _, hconf, hothers, fresh, fun h1 h2 => free ⟨h1, h2⟩, told, fun kept q hne hkept hq => ?_⟩
      exact setChannel_record hne hkept (hq.trans (reconfigured_eq hkept))

end Sys2Proof.Machine
end

section
/-! PROOFS. What each command frame's act can change, said once for each act; and a timed row that keeps a property. -/

namespace Sys2Proof.Machine

set_option Elab.async false

/-- What each of several operations leaves as it is, all of them together leave. -/
theorem forAll_same {α β : Type} {f : α → State → State} {p : State → β} (h : ∀ x t, p (f x t) = p t) (xs : List α)
    (s : State) : p (forAll xs f s) = p s := by
  induction xs generalizing s with
  | nil => rfl
  | cons x xs ih => exact (ih (f x s)).trans (h x s)

/-! ### The acts that only read or change one block -/

/-- Every part but the site state and the arbiter. -/
abbrev asideParts : List Part :=
  [.env, .desc, .chans, .merge, .monitors, .occupancy, .lanes, .lamps, .plans, .entries, .preempt, .map, .selection,
    .records, .counts, .notices, .stream, .link, .handoffs]

/-- An act that changes at most the parts listed, whatever its arguments and the prefixes held. -/
def Act.Only (bs : List Part) (act : Act) : Prop := ∀ args held s, Machine.Only bs s (act args held s).2

theorem reads_only (f : List Byte → HeldSet → State → Answer) : Act.Only [] (fun args held s => (f args held s, s)) :=
  fun _ _ s => Only.refl _ s

theorem inWindow_only {bs : List Part} {s : State} {a : Answer × State} (h : Only bs s a.2) :
    Only bs s (inWindow s a).2 := by
  unfold inWindow
  split
  · exact h
  · exact Only.refl _ s

theorem actTakeNotice_only : Act.Only [.notices, .stream, .link] actTakeNotice := by
  intro args held s
  unfold actTakeNotice
  split
  · exact modLink_only s _
  · exact Only.refl _ s

theorem actSetNoticeMask_only : Act.Only [.notices, .stream, .link] actSetNoticeMask := by
  intro args held s
  unfold actSetNoticeMask
  split
  · exact modLink_only s _
  · exact Only.refl _ s

theorem actSetTime_only : Act.Only [.env] actSetTime := by
  intro args held s
  unfold actSetTime
  split
  · intro b hb
    cases b <;> simp_all [agree]
  · exact Only.refl _ s

theorem takePrefix_only (already : Bool) (f : HeldSet → HeldSet) (s : State) :
    Only [.notices, .stream, .link] s (takePrefix already f s).2 := by
  unfold takePrefix
  cases already
  · exact modLink_only s _
  · exact Only.refl _ s

theorem actPfxLane_only : Act.Only [.notices, .stream, .link] actPfxLane := by
  intro args held s
  unfold actPfxLane
  split
  · split
    · exact takePrefix_only _ _ s
    · exact Only.refl _ s
  · exact Only.refl _ s

theorem actPfxPlan_only : Act.Only [.notices, .stream, .link] actPfxPlan := by
  intro args held s
  unfold actPfxPlan
  split
  · split
    · exact takePrefix_only _ _ s
    · exact Only.refl _ s
  · exact Only.refl _ s

theorem actPfxChannel_only : Act.Only [.notices, .stream, .link] actPfxChannel := by
  intro args held s
  unfold actPfxChannel
  split
  · split
    · exact takePrefix_only _ _ s
    · exact Only.refl _ s
  · exact Only.refl _ s

theorem setMode_only (l : Lane) (m : LaneMode) (s : State) : Only [.desc, .lanes] s (setMode l m s) :=
  Only.ite (fun _ => Only.refl _ s)
    (fun _ => ((modDesc_only s _).mono (cs := [.desc, .lanes])).step (modLane_only _ l _))

theorem actSetLane_only : Act.Only [.desc, .lanes] actSetLane := by
  intro args held s
  refine inWindow_only ?_
  split
  · split
    · split
      · exact Only.refl _ s
      · exact setMode_only _ _ s
    · exact Only.refl _ s
  · exact Only.refl _ s

theorem actSetChannel_only : Act.Only chanParts actSetChannel := by
  intro args held s
  refine inWindow_only ?_
  split
  · split
    · exact configure_only _ _ s
    · exact Only.refl _ s
  · exact Only.refl _ s

theorem actResetChannel_only : Act.Only [.chans, .merge, .monitors, .notices, .handoffs] actResetChannel :=
  fun _ _ s => forceGood_only _ s

theorem actClearAmberFault_only : Act.Only [.lamps] actClearAmberFault := fun _ held s =>
  Only.forAll (f := clearAmber) (fun l t => modLamp_only t l .amber _) (lanesFor held.lane) s

theorem changeSlot_only (i : Slot) (p : Option Plan) (s : State) : Only [.plans] s (changeSlot i p s).2 := by
  unfold changeSlot
  split
  · exact Only.refl _ s
  · split
    · exact Only.refl _ s
    · exact setSlot_only i p s

theorem actWritePlan_only : Act.Only [.plans] actWritePlan := by
  intro args held s
  unfold actWritePlan
  split
  · split
    · exact changeSlot_only _ _ s
    · exact Only.refl _ s
  · exact Only.refl _ s

theorem actReadPlan_only : Act.Only [] actReadPlan := by
  intro args held s
  unfold actReadPlan
  split
  · split <;> exact Only.refl _ s
  · exact Only.refl _ s

theorem actErasePlan_only : Act.Only [.plans] actErasePlan := fun _ _ s => changeSlot_only _ _ s

theorem guardGroup_only (on : Bool) (args : List Byte) (s : State) : Only [.plans] s (guardGroup on args s).2 := by
  unfold guardGroup
  split
  · split
    · exact setGuard_only _ on s
    · exact Only.refl _ s
  · exact Only.refl _ s

theorem actProtectGroup_only : Act.Only [.plans] actProtectGroup := fun args _ => guardGroup_only true args

theorem actUnprotectGroup_only : Act.Only [.plans] actUnprotectGroup := fun args _ => guardGroup_only false args

theorem linkPush_only (e : Entry) (s : State) : Only [.entries, .notices, .handoffs, .lamps] s (linkPush e s).2 := by
  unfold linkPush
  split
  · exact setStack_only _ s
  · split
    · exact setStack_only _ s
    · exact Only.refl _ s

theorem actPushOverride_only : Act.Only [.entries, .notices, .handoffs, .lamps] actPushOverride := by
  intro args held s
  unfold actPushOverride
  split
  · exact Only.refl _ s
  · split
    · exact linkPush_only _ s
    · exact Only.refl _ s

theorem actRemoveOverride_only : Act.Only [.entries, .notices, .handoffs, .lamps] actRemoveOverride := by
  intro args held s
  unfold actRemoveOverride
  split
  · split
    · split
      · exact removeEntry_only _ _ s
      · exact Only.refl _ s
    · exact Only.refl _ s
  · exact Only.refl _ s

theorem onBand_only {bs : List Part} {f : Band → State → Answer × State} (hf : ∀ b t, Only bs t (f b t).2)
    (args : List Byte) (s : State) (hb : [.selection] ⊆ bs := by decide) : Only bs s (onBand f args s).2 := by
  unfold onBand
  split
  · split
    · exact hf _ s
    · exact (setSelection_only _ s).mono hb
  · exact (setSelection_only _ s).mono hb

theorem actMapFrom_only : Act.Only [.selection] actMapFrom := fun args _ s =>
  onBand_only (f := fun b t => (.done [], setSelection (.fromHeld b) t)) (fun _ t => setSelection_only _ t) args s

theorem mapTo_only (b : Band) (s : State) : Only [.selection] s (mapTo b s).2 := by
  unfold mapTo
  split
  · split <;> exact setSelection_only _ s
  all_goals exact setSelection_only _ s

theorem actMapTo_only : Act.Only [.selection] actMapTo := fun args _ s => onBand_only mapTo_only args s

theorem mapSkip_only (b : Band) (s : State) : Only [.selection] s (mapSkip b s).2 := by
  unfold mapSkip
  split
  · split <;> exact setSelection_only _ s
  all_goals exact setSelection_only _ s

theorem actMapSkip_only : Act.Only [.selection] actMapSkip := fun args _ s => onBand_only mapSkip_only args s

theorem actMapAssign_only : Act.Only [.map, .selection] actMapAssign := by
  intro args held s
  unfold actMapAssign
  split
  · split
    · split
      · exact (setSelection_only _ s).mono
      · exact assignMap_only _ s
    · exact (setSelection_only _ s).mono
  · exact (setSelection_only _ s).mono

theorem actStreamLog_only : Act.Only [.notices, .stream, .link] actStreamLog := by
  intro args held s
  unfold actStreamLog
  split
  · split
    · exact Only.refl _ s
    · exact (modLink_only s _).step (pump_only _)
  · exact Only.refl _ s

theorem modLog_only (s : State) (f : PassLog → PassLog) : Only [.records, .counts] s (s.modLog f) := by
  intro b hb; cases b <;> simp_all [agree]

theorem actReadLogState_only : Act.Only [.records, .counts] actReadLogState := fun _ _ s => modLog_only s _

theorem actClearCounts_only : Act.Only [.records, .counts] actClearCounts := by
  intro args held s
  unfold actClearCounts clearCounts
  dsimp only
  split <;> exact modLog_only s _

theorem actReadArbiter_only : Act.Only [.env] actReadArbiter := fun _ _ s =>
  Only.ite (fun _ => by intro b hb; cases b <;> simp_all [agree, useFree]) (fun _ => Only.refl _ s)

/-! ### Rows that keep a property -/

/-- A timed row keeps a property that the passing of time and its event keep; the event is met only where the row has a
moment, which is where `Q` holds. -/
theorem timed_keepsWhere {P Q : State → Prop} {w : Option Nat} {f : State → State} {s t : State} (hs : P s)
    (hq : w.isSome = true → Q s) (hP : ∀ k, P s → P (advance k s)) (hQ : ∀ k, Q s → Q (advance k s))
    (hf : ∀ u, Q u → P u → P (f u)) (h : timed w f s = .next t) : P t := by
  unfold timed at h
  split at h
  · injection h with h
    exact h ▸ hs
  · split at h <;> injection h with h <;> subst h
    · exact hs
    · exact hf s (hq rfl) hs
    · exact hf _ (hQ _ (hq rfl)) (hP _ hs)

end Sys2Proof.Machine
end

section
/-! PROOFS. The arbiter is SHUT outside METERING, and SHUT is empty (R37, R92, R93), over every step: only a settling and a
grant leave SHUT, both in METERING, and every way out of METERING enters SHUT. -/

namespace Sys2Proof.Machine

set_option Elab.async false

/-! ### The relation -/

/-- The arbiter is sound in `t` where it was in `s`. -/
def ArbKept (s t : State) : Prop := s.arbiterSound → t.arbiterSound

theorem ArbKept.refl (s : State) : ArbKept s s := id

theorem ArbKept.trans {s t u : State} (h : ArbKept s t) (k : ArbKept t u) : ArbKept s u := k ∘ h

theorem ArbKept.ite {s t u : State} {p : Prop} [Decidable p] (ht : p → ArbKept s t) (hu : ¬p → ArbKept s u) :
    ArbKept s (if p then t else u) := by
  split
  · exact ht (by assumption)
  · exact hu (by assumption)

theorem ArbKept.forAll {α : Type} {f : α → State → State} (hf : ∀ x t, ArbKept t (f x t)) (xs : List α) (s : State) :
    ArbKept s (forAll xs f s) := by
  induction xs generalizing s with
  | nil => exact ArbKept.refl s
  | cons x xs ih => exact (hf x s).trans (ih (f x s))

/-- The site state stays and the ownership stays, and SHUT means as much as before. -/
theorem arbKept_of_own {s t : State} (hs : t.site.state = s.site.state) (ho : t.arb.own = s.arb.own)
    (hk : s.arb.shutSound → t.arb.shutSound) : ArbKept s t :=
  fun ⟨hout, hshut⟩ => ⟨fun hm => ho.trans (hout (hs ▸ hm)), hk hshut⟩

/-- An operation that touches neither the site controller nor the arbiter. -/
theorem Only.arbKept {bs : List Part} {s t : State} (h : Only bs s t) (hs : Part.site ∉ bs := by decide)
    (ha : Part.arb ∉ bs := by decide) : ArbKept s t := by
  have hsite : t.site = s.site := h _ hs
  have harb : t.arb = s.arb := h _ ha
  exact arbKept_of_own (by rw [hsite]) (by rw [harb]) (fun k => harb ▸ k)

/-- A change of the arbiter that leaves its ownership and what SHUT empties. -/
theorem modArb_arbKept {s : State} {f : Arbiter → Arbiter} (ho : (f s.arb).own = s.arb.own)
    (hk : s.arb.shutSound → (f s.arb).shutSound) : ArbKept s (s.modArb f) := arbKept_of_own rfl ho hk

/-- An empty SHUT is sound in every site state. -/
theorem arbKept_of_shut {s t : State} (ho : t.arb.own = .shut) (hk : t.arb.shutSound) : ArbKept s t :=
  fun _ => ⟨fun _ => ho, hk⟩

/-- Outside SHUT the site is in METERING, so an arbiter that stays outside it in the same site state is sound. -/
theorem arbKept_of_open {s t : State} (hs : t.site.state = s.site.state) (ho : s.arb.own ≠ .shut)
    (ht : t.arb.own ≠ .shut) : ArbKept s t :=
  fun ⟨hout, _⟩ => ⟨fun hm => absurd (hout (hs ▸ hm)) ho, fun e => absurd e ht⟩

/-- In METERING the arbiter may leave SHUT. -/
theorem arbKept_of_metering {s t : State} (hs : t.site.state = .metering) (ho : t.arb.own ≠ .shut) : ArbKept s t :=
  fun _ => ⟨fun hm => absurd hs hm, fun e => absurd e ho⟩

/-- From a site state other than METERING the site may go anywhere: the arbiter is SHUT already. -/
theorem arbKept_of_outside {s t : State} (hs : s.site.state ≠ .metering) (ha : t.arb = s.arb) : ArbKept s t :=
  fun ⟨hout, hshut⟩ => ⟨fun _ => ha ▸ hout hs, ha ▸ hshut⟩

theorem advance_arbKept (k : Nat) (s : State) : ArbKept s (advance k s) := by
  refine arbKept_of_own rfl rfl fun hk ho => ?_
  obtain ⟨h1, h2, h3, h4, h5, h6, h7, h8, h9⟩ := hk ho
  exact ⟨h1, h2, h3, h4, h5, h6, h7, by simp [advance, Arbiter.elapse, h7, h8], h9⟩

theorem powerUp_arbKept (r s : State) : ArbKept r (powerUp s) :=
  arbKept_of_shut rfl fun _ => ⟨rfl, rfl, rfl, rfl, rfl, rfl, rfl, rfl, rfl⟩

/-! ### SHUT (R93) -/

/-- The arbiter as it enters SHUT: what R93 keeps is kept. -/
def Arbiter.emptied (keepOpen : Bool) (a : Arbiter) : Arbiter :=
  { a with
    own := .shut, owner := none, queue := [], prioWaiting := false, holdCause := .none, holdLane := none
    reservation := .none, reserveLeft := 0, armed := none, elapsed := 0, expired := false
    openRelease := if keepOpen then a.openRelease else none }

theorem enterShut_arb (k : Bool) (s : State) : (enterShut k s).arb = s.arb.emptied k := rfl

theorem emptied_shutSound (k : Bool) (a : Arbiter) : (a.emptied k).shutSound :=
  fun _ => ⟨rfl, rfl, rfl, rfl, rfl, rfl, rfl, rfl, rfl⟩

theorem arbKept_of_emptied {k : Bool} {a : Arbiter} {s t : State} (h : t.arb = a.emptied k) : ArbKept s t :=
  arbKept_of_shut (by rw [h]; rfl) (h ▸ emptied_shutSound k a)

/-! ### Settling (R92, R107) -/

theorem settle_open (s : State) : (settle s).arb.own ≠ .shut := by
  rw [(settle_settledFrom s).1]
  split
  · decide
  · split <;> decide

theorem settleIfLoose_arbKept (s : State) : ArbKept s (settleIfLoose s) := by
  have hs : (settle s).site = s.site := (settle_only s).same .site
  have loose : s.arb.own ≠ .shut → ArbKept s (settle s) := fun ho => arbKept_of_open (by rw [hs]) ho (settle_open s)
  unfold settleIfLoose
  cases ho : s.arb.own with
  | free | yielding | held => exact loose (by simp [ho])
  | shut | releasing => exact ArbKept.refl s

theorem rederive_arbKept (s : State) : ArbKept s (rederive s) :=
  ArbKept.ite (fun _ => ArbKept.refl s)
    (fun ho => (arbKept_of_open rfl ho ho : ArbKept s (deriveHold s)).trans (settleIfLoose_arbKept _))

theorem leaveShut_open (s : State) : (leaveShut s).arb.own ≠ .shut := by
  unfold leaveShut
  rw [show (settleRequests _).arb = _ from (settleRequests_only _).same .arb]
  exact settle_open _

theorem leaveShut_arbKept {s : State} (hm : s.site.state = .metering) : ArbKept s (leaveShut s) := by
  have hs : (leaveShut s).site = s.site := (leaveShut_only s).same .site
  exact arbKept_of_metering (by rw [hs, hm]) (leaveShut_open s)

theorem checkInterval_own (s : State) : (checkInterval s).arb.own = s.arb.own := by
  unfold checkInterval
  split <;> rfl

theorem arbiterTakes_arbKept (g : Option Gov) (s : State) : ArbKept s (arbiterTakes g s) := by
  have taken : ArbKept s (s.modArb (fun a => { a with gov := g })) := modArb_arbKept rfl id
  refine ArbKept.ite (fun hm => ArbKept.ite (fun _ => ArbKept.ite (fun _ => taken) (fun _ => ?_))
    (fun _ => ArbKept.ite (fun _ => ?_) (fun ho => ?_))) (fun _ => taken)
  · have ha : (settleReds (enterShut true (s.modArb (fun a => { a with gov := g })))).arb = _ :=
      (settleReds_only _).same .arb
    exact arbKept_of_emptied ha
  · exact taken.trans (leaveShut_arbKept (by simpa [State.metering] using hm))
  · have hi : (checkInterval (s.modArb (fun a => { a with gov := g }))).site = s.site :=
      (checkInterval_only _).same .site
    refine (arbKept_of_open (by rw [hi]) ho ?_).trans (rederive_arbKept _)
    rw [checkInterval_own]
    exact ho

theorem takeArbiterGov_arbKept (s : State) : ArbKept s (takeArbiterGov s) := by
  unfold takeArbiterGov
  split
  · exact (takeOff_only _ s).arbKept.trans (arbiterTakes_arbKept _ _)
  · exact ArbKept.refl s

/-! ### The lanes in RED -/

theorem armStopFlush_state (s : State) : (armStopFlush s).site.state = s.site.state := by
  unfold armStopFlush
  split <;> rfl

theorem settleRed_state (l : Lane) (s : State) : (settleRed l s).site.state = s.site.state := by
  have ho : (redToOpen l s).site = s.site := (redToOpen_only l s).same .site
  have hr : (settleRequest l s).site = s.site := (settleRequest_only l s).same .site
  unfold settleRed
  split
  · rw [armStopFlush_state, ho]
  · rw [hr]

theorem settleReds_state (s : State) : (settleReds s).site.state = s.site.state :=
  forAll_same (p := fun t => t.site.state) settleRed_state allLanes s

theorem settleRed_arbKept (l : Lane) (s : State) : ArbKept s (settleRed l s) := by
  have ha : (settleRed l s).arb = s.arb := (settleRed_only l s).same .arb
  exact arbKept_of_own (settleRed_state l s) (by rw [ha]) (fun k => ha ▸ k)

theorem laneTakes_arbKept (l : Lane) (g : Option Gov) (s : State) : ArbKept s (laneTakes l g s) := by
  have e : ArbKept s (s.modLane l (fun r => { r with gov := g })) := (modLane_only s l _).arbKept
  unfold laneTakes
  refine ArbKept.ite (fun _ => ?_) (fun _ => e)
  split
  · exact e.trans (ArbKept.ite (fun _ => (greenToOpen_only l _).arbKept) (fun _ => (tryEndGreen_only l _).arbKept))
  · exact e.trans (ArbKept.ite (fun _ => (openToAmber_only l _).arbKept) (fun _ => ArbKept.refl _))
  · exact e.trans (settleRed_arbKept l _)
  all_goals exact e

theorem takeLaneGov_arbKept (l : Lane) (s : State) : ArbKept s (takeLaneGov l s) := by
  unfold takeLaneGov
  split
  · exact (takeOff_only _ s).arbKept.trans (laneTakes_arbKept _ _ _)
  · exact ArbKept.refl s

/-! ### The queue, the reservation and the release end (R96 to R98, R106, R110, R111) -/

/-- A place is given outside SHUT alone. -/
theorem takeRequest_arbKept (l : Lane) (s : State) : ArbKept s (takeRequest l s) := by
  refine ArbKept.ite (fun _ => ArbKept.refl s) (fun h => ?_)
  obtain ⟨ho, -⟩ := not_or.1 h
  have he : (enqueue l s).arb.own = s.arb.own := by
    rw [arb_enqueue]
    split <;> rfl
  exact arbKept_of_open rfl ho (he ▸ ho)

/-- What leaves the queue leaves an empty one empty. -/
theorem unqueue_arbKept (l : Lane) (s : State) : ArbKept s (unqueue l s) := by
  refine arbKept_of_own rfl rfl fun hk ho => ?_
  obtain ⟨h1, h2, h3, h4⟩ := hk ho
  exact ⟨h1, by simp [unqueue, h2], by simp [unqueue, h3], h4⟩

theorem takeWithdrawal_arbKept (l : Lane) (s : State) : ArbKept s (takeWithdrawal l s) :=
  ArbKept.ite (fun _ => unqueue_arbKept l s) (fun _ => ArbKept.refl s)

theorem releaseEnded_arbKept (s : State) : ArbKept s (releaseEnded s) := by
  refine ArbKept.ite (fun _ => modArb_arbKept rfl fun hk ho => ?_) (fun ho => ?_)
  · obtain ⟨h1, h2, h3, h4, h5, h6, h7⟩ := hk ho
    exact ⟨h1, h2, h3, h4, h5, by simp [h6], h7⟩
  · refine arbKept_of_open ?_ ho (settle_open _)
    rw [show (settle _).site = _ from (settle_only _).same .site]
    rfl

theorem takeReleaseEnd_arbKept (l : Lane) (s : State) : ArbKept s (takeReleaseEnd l s) := by
  have off : ArbKept s (takeOff (isReleaseEnd l) s) := (takeOff_only _ s).arbKept
  unfold takeReleaseEnd
  split
  · exact ArbKept.ite (fun _ => off.trans (releaseEnded_arbKept _)) (fun _ => off)
  · exact ArbKept.refl s

/-- A reservation is made outside SHUT alone. -/
theorem takeAdvance_arbKept (s : State) : ArbKept s (takeAdvance s) := by
  refine ArbKept.ite (fun hm => ?_) (fun _ => ArbKept.refl s)
  have ho : s.arb.own ≠ .shut := by
    simp only [State.mayReserve, Bool.and_eq_true, bne_iff_ne] at hm
    obtain ⟨⟨⟨-, ho⟩, -⟩, -⟩ := hm
    exact ho
  refine ArbKept.trans ?_ (rederive_arbKept _)
  exact arbKept_of_open rfl ho ho

theorem reservationOver_arbKept (s : State) : ArbKept s (reservationOver s) := by
  have ended : ArbKept s (s.modArb (fun a => { a with reservation := .none, reserveLeft := 0 })) := by
    refine modArb_arbKept rfl fun hk ho => ?_
    obtain ⟨h1, h2, h3, h4, h5, -, h7⟩ := hk ho
    exact ⟨h1, h2, h3, h4, h5, rfl, h7⟩
  exact ((ended.trans (countSlip_only _ _).arbKept).trans (raise_only _ _).arbKept).trans (rederive_arbKept _)

/-! ### The grant (R103, R104) -/

/-- Only in FREE and HELD is there a candidate. -/
theorem open_of_grantee {s : State} {c : Lane × Bool} (h : s.grantee = some c) : s.arb.own ≠ .shut := by
  intro ho
  simp [State.grantee, State.candidate, ho] at h

theorem grantUnder_own (p : Plan) (l : Lane) (s : State) : (grantUnder p l s).arb.own = .releasing := by
  unfold grantUnder
  dsimp only
  rw [show (settleReds _).arb = _ from (settleReds_only _).same .arb,
    show (takeGrant l _ p.size _).arb = _ from (takeGrant_only l _ _ _).same .arb]
  rfl

theorem grantUnder_state (p : Plan) (l : Lane) (s : State) : (grantUnder p l s).site.state = s.site.state := by
  unfold grantUnder
  dsimp only
  rw [settleReds_state, show (takeGrant l _ p.size _).site = _ from (takeGrant_only l _ _ _).same .site]
  rfl

theorem makeGrant_arbKept {c : Lane × Bool} {s : State} (ho : s.arb.own ≠ .shut) : ArbKept s (makeGrant c s) := by
  unfold makeGrant
  split
  · exact ArbKept.refl s
  · next p _ =>
    have hp : Only [.plans, .arb, .lanes] s (promote c.1 (if c.2 then refillCredits s else s)) :=
      (Only.ite (fun _ => (refillCredits_only s).mono) (fun _ => Only.refl _ s)).andThen (promote_only _ _)
    have hs : (promote c.1 (if c.2 then refillCredits s else s)).site = s.site := hp.same .site
    refine arbKept_of_open ?_ ho ?_
    · rw [grantUnder_state, hs]
    · rw [grantUnder_own]
      decide

theorem grantNow_arbKept (s : State) : ArbKept s (grantNow s) := by
  unfold grantNow
  split
  · next c hc => exact makeGrant_arbKept (open_of_grantee hc)
  · exact ArbKept.refl s

/-! ### The site's changes of state (R37 to R50) -/

theorem darken_arb (s : State) : (darken s).arb = s.arb.emptied false := by
  have h1 : (darken s).arb = (enterShut false (allLampsOff (forAll allLanes goOff s))).arb :=
    ((refreshMonitors_only _).mono (cs := [.monitors, .entries, .notices, .handoffs, .lamps])).step (setStack_only _ _)
      |>.same .arb
  have h2 : (forAll allLanes goOff s).arb = s.arb := (Only.forAll goOff_only allLanes s).same .arb
  rw [h1, enterShut_arb, ← h2]
  rfl

theorem enterFailsafe_arb (s : State) : (enterFailsafe s).arb = s.arb.emptied false := by
  have h : (enterFailsafe s).arb = (darken (enterSite .failsafe s)).arb :=
    ((syncSign_only _).mono (cs := [.lamps, .notices])).step (raise_only _ _) |>.same .arb
  rw [h, darken_arb]
  rfl

theorem siteToDark_arb (s : State) : (siteToDark s).arb = s.arb.emptied false := by
  have h : (syncSign (pushIfAsserted (darken (enterSite .dark s)))).arb = (darken (enterSite .dark s)).arb :=
    (pushIfAsserted_only _).step (syncSign_only _) |>.same .arb
  have e : (siteToDark s).arb = (syncSign (pushIfAsserted (darken (enterSite .dark s)))).arb := by
    unfold siteToDark
    dsimp only
    split <;> rfl
  rw [e, h, darken_arb]
  rfl

theorem makeForOpen_arb (l : Lane) (s : State) : (makeForOpen l s).arb = s.arb := by
  unfold makeForOpen
  split
  · exact (greenToOpen_only l s).same .arb
  · exact (settleRed_only l s).same .arb
  all_goals rfl

theorem enterStopping_arb (s : State) : (enterStopping s).arb = s.arb.emptied true := by
  have reds : ∀ t, (forAll allLanes makeForOpen t).arb = t.arb := forAll_same (p := State.arb) makeForOpen_arb allLanes
  have last : ∀ t, (armStopFlush (syncSign t)).arb = t.arb := fun t =>
    ((syncSign_only t).mono (cs := [.lamps, .site])).step (armStopFlush_only _) |>.same .arb
  have leave : (leaveMetering (enterSite .stopping s)).arb = s.arb := (leaveMetering_only _).same .arb
  unfold enterStopping
  rw [last, reds, enterShut_arb, leave]

theorem stopMetering_arbKept (s : State) : ArbKept s (stopMetering s) := by
  unfold stopMetering
  split
  · next h => exact arbKept_of_outside (by simp [h]) ((finishToDark_only s).same .arb)
  · exact arbKept_of_emptied (enterStopping_arb s)
  all_goals exact ArbKept.refl s

/-- A command frame or a close starts metering from DARK alone. -/
theorem dark_of_startCheck {s : State} (h : s.startCheck = .passes) : s.site.state = .dark := by
  by_contra hd
  simp [State.startCheck, hd] at h

theorem enterStarting_arbKept {s : State} (h : s.startCheck = .passes) : ArbKept s (enterStarting s) :=
  arbKept_of_outside (by simp [dark_of_startCheck h]) ((enterStarting_only s).same .arb)

/-- The arbiter leaves SHUT as the site enters METERING; all before it leaves SHUT as it was. -/
theorem enterMetering_arbKept (s : State) : ArbKept s (enterMetering s) := by
  have reds : Only laneParts (enterSite .metering s) (forAll allLanes firstRed (enterSite .metering s)) :=
    Only.forAll firstRed_only allLanes _
  unfold enterMetering
  generalize forAll allLanes firstRed (enterSite .metering s) = v at reds
  have site : ArbKept s (enterSite .metering s) := fun ⟨_, hk⟩ => ⟨fun hm => absurd rfl hm, hk⟩
  have gov : ArbKept v (takeGoverning v) := arbKept_of_own rfl rfl id
  have entered : ArbKept s (refreshMonitors (restartStuckOff (takeGoverning v))) :=
    (((site.trans reds.arbKept).trans gov).trans (restartStuckOff_only _).arbKept).trans (refreshMonitors_only _).arbKept
  have hm : (refreshMonitors (restartStuckOff (takeGoverning v))).site.state = .metering := by
    have h : v.site = (enterSite .metering s).site := reds.same .site
    exact (congrArg SiteCtl.state h : v.site.state = .metering)
  have left : ∀ u : State, u.site.state = .metering → ArbKept u (leaveShutIfOpen u) := fun u hu =>
    ArbKept.ite (fun _ => ArbKept.refl u) (fun _ => leaveShut_arbKept hu)
  exact ((entered.trans (left _ hm)).trans (syncSign_only _).arbKept).trans (raise_only _ _).arbKept

theorem endLampTest_arbKept {s : State} (h : s.site.state = .lamptest) : ArbKept s (endLampTest s) := by
  refine ArbKept.ite (fun _ => ?_) (fun _ => ?_)
  · exact (arbKept_of_outside (by simp [h]) ((enterDark_only s).same .arb)).trans (pushIfAsserted_only _).arbKept
  · exact arbKept_of_emptied (enterFailsafe_arb _)

theorem takeReport_arbKept (s : State) : ArbKept s (takeReport s) := by
  unfold takeReport
  cases s.site.state with
  | dark | starting | metering | stopping => exact arbKept_of_emptied (enterFailsafe_arb s)
  | failsafe => exact (raise_only _ s).arbKept
  | start | lamptest => exact ArbKept.refl s

/-! ### The plans and the close of a period (R35, R122, R148) -/

theorem selectSlot_arbKept (i : Slot) (s : State) : ArbKept s (selectSlot i s) :=
  ArbKept.ite (fun _ => (modPlans_only s _).arbKept)
    (fun _ => (modPlans_only s _).arbKept.trans (modArb_arbKept rfl id))

theorem localPlan_arbKept (i : Slot) (s : State) : ArbKept s (localPlan i s) := by
  have start : ∀ t, ArbKept t (startIfAllowed t) := fun t =>
    ArbKept.ite (fun h => enterStarting_arbKept h) (fun _ => ArbKept.refl t)
  unfold localPlan
  cases s.site.state with
  | dark => exact (selectSlot_arbKept i s).trans (start _)
  | starting | metering | stopping | failsafe => exact selectSlot_arbKept i s
  | start | lamptest => exact ArbKept.refl s

theorem localAct_arbKept (e : Option Slot) (s : State) : ArbKept s (localAct e s) := by
  unfold localAct
  split
  · split
    · exact localPlan_arbKept _ s
    · exact ArbKept.refl s
  · exact stopMetering_arbKept s

theorem selectorClose_arbKept (s : State) : ArbKept s (selectorClose s) := by
  unfold selectorClose
  split
  · exact ArbKept.refl s
  · exact ArbKept.ite (fun _ => (modSel_only s _).arbKept.trans (localAct_arbKept _ _))
      (fun _ => (modSel_only s _).arbKept)

theorem periodCloses_arbKept (s : State) : ArbKept s (periodCloses s) :=
  (closePeriod_only s).arbKept.trans (selectorClose_arbKept _)

theorem reachedAtChange_arbKept (p : Param) (s : State) : ArbKept s (reachedAtChange p s) := by
  unfold reachedAtChange
  split
  · exact ArbKept.ite (fun _ => (setMerge_only _ s).arbKept) (fun _ => ArbKept.refl s)
  · exact ArbKept.ite (fun _ => periodCloses_arbKept s) (fun _ => ArbKept.refl s)
  · exact (Only.forAll straysOfLane_only allLanes s).arbKept
  · exact ArbKept.refl s

/-! ### Command frames -/

/-- What an act must do for its frame to keep the arbiter sound. -/
def Act.KeepsArb (act : Act) : Prop := ∀ args held s, ArbKept s (act args held s).2

/-- An act that touches neither the site controller nor the arbiter. -/
theorem Act.Only.keepsArb {bs : List Part} {act : Act} (h : Act.Only bs act) (hb : bs ⊆ asideParts := by decide) :
    act.KeepsArb := fun args held s => ((h args held s).mono hb).arbKept

theorem takeFrame_arbKept (c : Cmd) {act : Act} (h : act.KeepsArb) (args : List Byte) (s : State) :
    ArbKept s (takeFrame c act args s) := by
  refine ArbKept.ite (fun _ => (discardAll_only s).arbKept) (fun _ => ?_)
  refine ((openFrame_only c s).arbKept.trans ?_).trans (answer_only _ _ _).arbKept
  unfold runFrame
  split
  · exact ArbKept.ite (fun _ => (setSelection_only _ _).arbKept) (fun _ => ArbKept.refl _)
  · exact h _ _ _

theorem inWindow_arbKept {s : State} {a : Answer × State} (h : ArbKept s a.2) : ArbKept s (inWindow s a).2 := by
  unfold inWindow
  split
  · exact h
  · exact ArbKept.refl s

theorem actBegin_keepsArb : Act.KeepsArb actBegin := by
  intro args held s
  have begun : ArbKept s (markBegun s) := (modLink_only s _).arbKept
  refine ArbKept.ite (fun h => begun.trans ?_) (fun _ => begun)
  exact arbKept_of_outside (s := markBegun s) (by simp [markBegun, h]) rfl

theorem actSiteReset_keepsArb : Act.KeepsArb actSiteReset := by
  intro args held s
  unfold actSiteReset
  split
  · exact ArbKept.refl s
  · exact arbKept_of_emptied (siteToDark_arb s)

theorem actSetPriorityLane_keepsArb : Act.KeepsArb actSetPriorityLane := by
  have set : ∀ p s, ArbKept s (setPriority p s) := fun p s =>
    ArbKept.ite (fun _ => ArbKept.refl s) (fun _ => (modDesc_only s _).arbKept.trans (modArb_arbKept rfl id))
  intro args held s
  refine inWindow_arbKept ?_
  split
  · split
    · split
      · exact ArbKept.refl s
      · exact set _ s
    · exact ArbKept.refl s
  · exact ArbKept.refl s

theorem actSetTiming_keepsArb : Act.KeepsArb actSetTiming := by
  have set : ∀ p v s, ArbKept s (setPar p v s) := fun p v s =>
    ArbKept.ite (fun _ => ArbKept.refl s) (fun _ => (modDesc_only s _).arbKept.trans (reachedAtChange_arbKept p _))
  intro args held s
  refine inWindow_arbKept ?_
  split
  · exact set _ _ s
  · exact ArbKept.refl s

theorem actStartMetering_keepsArb : Act.KeepsArb actStartMetering := by
  intro args held s
  unfold actStartMetering
  cases h : s.startCheck with
  | passes => exact enterStarting_arbKept h
  | wrongState | noPlan | noLane => exact ArbKept.refl s

theorem actClearFailsafe_keepsArb : Act.KeepsArb actClearFailsafe := by
  intro args held s
  unfold actClearFailsafe
  split
  · next h => exact arbKept_of_outside (by simp [h.1]) ((clearFailsafe_only s).same .arb)
  · exact ArbKept.refl s

theorem actSelectPlan_keepsArb : Act.KeepsArb actSelectPlan := by
  intro args held s
  unfold actSelectPlan
  split
  · split
    · exact selectSlot_arbKept _ s
    · exact ArbKept.refl s
  · exact (clearStaged_only s).arbKept

/-! ### The rows of the table -/

theorem next_arbKept {s t u : State} (h : ArbKept s u) (e : (Host.Outcome.next u : Out) = .next t) : ArbKept s t := by
  injection e with e
  exact e ▸ h

theorem hostFrame_arbKept {c : Cmd} {act : Act} (ha : act.KeepsArb) {args : List Byte} {s t : State}
    (h : hostFrame c act args s = .next t) : ArbKept s t := by
  unfold hostFrame at h
  split at h
  · exact next_arbKept (ArbKept.refl s) h
  · exact next_arbKept (takeFrame_arbKept c ha args s) h

/-- A timed row keeps the arbiter sound if its event does where the row has a moment, a condition that time keeps. -/
theorem timed_arbKeptWhere {w : Option Nat} {f : State → State} {s t : State} (Q : State → Prop)
    (hq : w.isSome = true → Q s) (hQ : ∀ k, Q s → Q (advance k s)) (hf : ∀ u, Q u → ArbKept u (f u))
    (h : timed w f s = .next t) : ArbKept s t :=
  fun hs => timed_keepsWhere hs hq (fun k => advance_arbKept k s) hQ hf h

theorem timed_arbKept {w : Option Nat} {f : State → State} (hf : ∀ u, ArbKept u (f u)) {s t : State}
    (h : timed w f s = .next t) : ArbKept s t :=
  timed_arbKeptWhere (fun _ => True) (fun _ => trivial) (fun _ _ => trivial) (fun u _ => hf u) h

theorem taken_arbKept {c : Bool} {f : State → State} (hf : ∀ u, ArbKept u (f u)) {s t : State}
    (h : taken c f s = .next t) : ArbKept s t := by
  rw [taken_eq_timed] at h
  exact timed_arbKept hf h

/-- The timer of a site state runs in that state alone. -/
theorem siteTimer_arbKept {st : SiteState} {o : Option Nat} {f : State → State} {s t : State}
    (hf : ∀ u, u.site.state = st → ArbKept u (f u))
    (h : timed (if s.site.state = st then o else none) f s = .next t) : ArbKept s t := by
  refine timed_arbKeptWhere (fun u => u.site.state = st) (fun hw => ?_) (fun _ hs => hs) hf h
  by_contra hs
  simp [hs] at hw

/-- The interval timer runs outside SHUT alone (R99). -/
theorem intervalExpiry_arbKept {s t : State} (h : execIntervalExpiry s = .next t) : ArbKept s t := by
  unfold execIntervalExpiry at h
  refine timed_arbKeptWhere (fun u => u.arb.own ≠ .shut) (fun hw ho => ?_) (fun _ ho => ho)
    (fun u ho => ?_) h
  · simp [State.intervalIn, ho] at hw
  · exact arbKept_of_open rfl ho ho

theorem detectorInput_arbKept {c : Chan} {on : Bool} {s t : State} (h : execDetectorInputChange c on s = .next t) :
    ArbKept s t := by
  unfold execDetectorInputChange at h
  split at h
  · exact next_arbKept (modChan_only s c _).arbKept h
  · exact next_arbKept (inputChange_only c on s).arbKept h

theorem preemptInput_arbKept {on : Bool} {s t : State} (h : execPreemptionInputChange on s = .next t) :
    ArbKept s t := by
  unfold execPreemptionInputChange at h
  split at h
  · exact next_arbKept (modOvr_only s _).arbKept h
  · exact next_arbKept (ArbKept.ite (fun _ => ArbKept.refl s) (fun _ => (modOvr_only s _).arbKept)) h

theorem lampSense_arbKept {l : Lane} {col : Colour} {on : Bool} {s t : State}
    (h : execLampSenseChange l col on s = .next t) : ArbKept s t := by
  unfold execLampSenseChange at h
  split at h
  · exact next_arbKept (ArbKept.refl s) h
  · split at h
    · exact next_arbKept (modLamp_only s l col _).arbKept h
    · exact next_arbKept (senseChange_only l col on s).arbKept h

theorem resetReleased_arbKept {s t : State} (h : execResetInputReleased s = .next t) : ArbKept s t := by
  unfold execResetInputReleased at h
  split at h
  · exact next_arbKept (powerUp_arbKept s _) h
  · exact next_arbKept (ArbKept.refl s) h

theorem takeClaimOf_only (l : Lane) (s : State) :
    Only [.chans, .merge, .monitors, .notices, .handoffs] s (takeClaimOf l s) := by
  unfold takeClaimOf
  split
  · exact ((takeOff_only _ s).mono (cs := [.chans, .merge, .monitors, .notices, .handoffs])).andThen (takeClaim_only _ _ _)
  · exact Only.refl _ s

theorem phaseEnds_only (l : Lane) (col : Colour) (s : State) :
    Only [.lamps, .notices, .handoffs] s (phaseEnds l col s) := by
  refine Only.step (Only.ite (fun _ => (modLamp_only s l col _).mono) (fun _ => ?_)) (modLamp_only _ l col _)
  split
  · exact attemptFailed_only l col s
  · exact proofLost_only l col s
  · exact Only.refl _ s

theorem queueClears_only (l : Lane) (s : State) :
    Only [.monitors, .entries, .notices, .handoffs, .lamps] s (queueClears l s) := by
  have e := (modQueueMon_only l (fun m => { m with state := .watching }) s).mono
    (cs := [.monitors, .entries, .notices, .handoffs, .lamps])
  exact Only.ite (fun _ => e.step (removeEntry_only _ _ _)) (fun _ => e)

theorem spillClears_only (s : State) : Only [.monitors, .entries, .notices, .handoffs, .lamps] s (spillClears s) := by
  have e := (modSpillMon_only (fun m => { m with state := .watching }) s).mono
    (cs := [.monitors, .entries, .notices, .handoffs, .lamps])
  exact Only.ite (fun _ => e.step (removeEntry_only _ _ _)) (fun _ => e)

/-- What a pre-emption event can change. -/
abbrev preemptParts : List Part := [.entries, .preempt, .notices, .handoffs, .lamps]

theorem preemptAsserted_only (s : State) : Only preemptParts s (preemptAsserted s) := by
  have e := (modOvr_only s (fun o => { o with preLevel := true, preFrom := none })).mono (cs := preemptParts)
  exact Only.ite (fun _ => e.step (automaticPush_only _ _)) (fun _ => e)

theorem preemptReleased_only (s : State) : Only preemptParts s (preemptReleased s) := by
  have e := (modOvr_only s (fun o => { o with preLevel := false, preFrom := none })).mono (cs := preemptParts)
  exact Only.ite (fun _ => e.step (removeEntry_only _ _ _)) (fun _ => e)

theorem takeUndefined_only (code : Byte) (s : State) : Only frameParts s (takeUndefined code s) := by
  refine Only.ite (fun _ => (discardAll_only s).mono) (fun _ => ?_)
  have opened := (((goodFrame_only s).mono (cs := frameParts)).step (consumeHeld_only _)).step (discardSelection_only _)
  exact opened.step (reply_only _ _ _ _)

theorem takeBadCheck_only (s : State) : Only frameParts s (takeBadCheck s) := by
  refine Only.ite (fun _ => (discardAll_only s).mono) (fun _ => ?_)
  exact (((endStream_only s).mono (cs := frameParts)).step (discardAll_only _)).step (reply_only _ _ _ _)

theorem tryCloseOpen_only (l : Lane) (s : State) : Only [.lanes, .lamps] s (tryCloseOpen l s) :=
  Only.ite (fun _ => openToAmber_only l s) (fun _ => Only.refl _ s)

theorem takeBusy_only (l : Lane) (s : State) : Only laneParts s (takeBusy l s) :=
  Only.ite (fun _ => ((modLane_only s l _).mono (cs := laneParts)).andThen (tryEndGreen_only l _))
    (fun _ => Only.refl _ s)

/-- Every row keeps the arbiter sound: the frames by their acts, the events by their operations. -/
theorem exec_arbKept (i : Instr) {s t : State} (h : exec i s = .next t) : ArbKept s t := by
  cases i with
  | powerOn => exact next_arbKept (powerUp_arbKept s _) h
  | resetInputAsserted => exact next_arbKept (powerUp_arbKept s _) h
  | resetInputReleased => exact resetReleased_arbKept h
  | beginCmd args => exact hostFrame_arbKept actBegin_keepsArb h
  | takeNotice args => exact hostFrame_arbKept actTakeNotice_only.keepsArb h
  | setNoticeMask args => exact hostFrame_arbKept actSetNoticeMask_only.keepsArb h
  | siteReset args => exact hostFrame_arbKept actSiteReset_keepsArb h
  | setTime args => exact hostFrame_arbKept actSetTime_only.keepsArb h
  | pfxLane args => exact hostFrame_arbKept actPfxLane_only.keepsArb h
  | pfxPlan args => exact hostFrame_arbKept actPfxPlan_only.keepsArb h
  | pfxChannel args => exact hostFrame_arbKept actPfxChannel_only.keepsArb h
  | setLane args => exact hostFrame_arbKept actSetLane_only.keepsArb h
  | setPriorityLane args => exact hostFrame_arbKept actSetPriorityLane_keepsArb h
  | setChannel args => exact hostFrame_arbKept actSetChannel_only.keepsArb h
  | setTiming args => exact hostFrame_arbKept actSetTiming_keepsArb h
  | resetChannel args => exact hostFrame_arbKept actResetChannel_only.keepsArb h
  | startMetering args => exact hostFrame_arbKept actStartMetering_keepsArb h
  | stopMetering args => exact hostFrame_arbKept (act := actStopMetering) (fun _ _ u => stopMetering_arbKept u) h
  | clearFailsafe args => exact hostFrame_arbKept actClearFailsafe_keepsArb h
  | clearAmberFault args => exact hostFrame_arbKept actClearAmberFault_only.keepsArb h
  | writePlan args => exact hostFrame_arbKept actWritePlan_only.keepsArb h
  | readPlan args => exact hostFrame_arbKept actReadPlan_only.keepsArb h
  | erasePlan args => exact hostFrame_arbKept actErasePlan_only.keepsArb h
  | selectPlan args => exact hostFrame_arbKept actSelectPlan_keepsArb h
  | protectGroup args => exact hostFrame_arbKept actProtectGroup_only.keepsArb h
  | unprotectGroup args => exact hostFrame_arbKept actUnprotectGroup_only.keepsArb h
  | pushOverride args => exact hostFrame_arbKept actPushOverride_only.keepsArb h
  | removeOverride args => exact hostFrame_arbKept actRemoveOverride_only.keepsArb h
  | mapFrom args => exact hostFrame_arbKept actMapFrom_only.keepsArb h
  | mapTo args => exact hostFrame_arbKept actMapTo_only.keepsArb h
  | mapSkip args => exact hostFrame_arbKept actMapSkip_only.keepsArb h
  | mapAssign args => exact hostFrame_arbKept actMapAssign_only.keepsArb h
  | streamLog args => exact hostFrame_arbKept actStreamLog_only.keepsArb h
  | readLogState args => exact hostFrame_arbKept actReadLogState_only.keepsArb h
  | clearCounts args => exact hostFrame_arbKept actClearCounts_only.keepsArb h
  | readArbiter args => exact hostFrame_arbKept actReadArbiter_only.keepsArb h
  | getStatus args | readConfig args | readChannel args | readLamps args | readOverrides args | readMap args
  | stopStream args | readCounts args => exact hostFrame_arbKept (reads_only _).keepsArb h
  | undefinedCodeFrame code args => exact taken_arbKept (fun u => (takeUndefined_only code u).arbKept) h
  | badCheckFrame => exact taken_arbKept (fun u => (takeBadCheck_only u).arbKept) h
  | frameGapTimeout => exact timed_arbKept (fun u => (discardAll_only u).arbKept) h
  | lenOutOfRange len =>
    exact taken_arbKept (f := breakOff len) (fun u => (discardAll_only u).arbKept.trans (modLink_only _ _).arbKept) h
  | frameOverrun => exact taken_arbKept (fun u => (discardAll_only u).arbKept) h
  | prefixHoldExpiry => exact timed_arbKept (fun u => (discardHeld_only u).arbKept) h
  | linkLossExpiry =>
    exact timed_arbKept (f := loseLink) (fun u => (modLink_only u _).arbKept.trans (raise_only _ _).arbKept) h
  | recordFrameCompletion => exact taken_arbKept (fun u => (recordSent_only u).arbKept) h
  | detectorInputChange c on => exact detectorInput_arbKept h
  | actuation c => exact timed_arbKept (fun u => (takeActuation_only c u).arbKept) h
  | clearing c => exact timed_arbKept (fun u => (takeClearing_only c u).arbKept) h
  | stuckOnExpiry c | stuckOffExpiry c => exact timed_arbKept (fun u => (becomeStuck_only c _ _ u).arbKept) h
  | noShowClaim l => exact taken_arbKept (fun u => (takeClaimOf_only l u).arbKept) h
  | mergeSettleExpiry => exact timed_arbKept (fun u => (setMerge_only _ u).arbKept) h
  | queueOnReached l =>
    exact timed_arbKept (fun u => (modQueueMon_only l _ u).arbKept.trans (automaticPush_only _ _).arbKept) h
  | queueOffReached l => exact timed_arbKept (fun u => (queueClears_only l u).arbKept) h
  | spillOnReached =>
    exact timed_arbKept (fun u => (modSpillMon_only _ u).arbKept.trans (automaticPush_only _ _).arbKept) h
  | spillOffReached => exact timed_arbKept (fun u => (spillClears_only u).arbKept) h
  | occupancyPeriodClose => exact timed_arbKept periodCloses_arbKept h
  | preemptionInputChange on => exact preemptInput_arbKept h
  | preemptionAssertion => exact timed_arbKept (fun u => (preemptAsserted_only u).arbKept) h
  | preemptionRelease => exact timed_arbKept (fun u => (preemptReleased_only u).arbKept) h
  | overrideLimitExpiry k src =>
    exact timed_arbKept (fun u => (removeEntry_only k src u).arbKept.trans (tellMonitor_only src _).arbKept) h
  | arbiterGoverningChange => exact taken_arbKept takeArbiterGov_arbKept h
  | laneGoverningChange l => exact taken_arbKept (takeLaneGov_arbKept l) h
  | lampTestExpiry => exact siteTimer_arbKept (fun _ hu => endLampTest_arbKept hu) h
  | warningExpiry => exact timed_arbKept enterMetering_arbKept h
  | stopFlushExpiry =>
    exact siteTimer_arbKept (fun u hu => arbKept_of_outside (by simp [hu]) ((finishToDark_only u).same .arb)) h
  | lampFailureReport => exact taken_arbKept (fun u => (takeOff_only _ u).arbKept.trans (takeReport_arbKept _)) h
  | lampSenseChange l col on => exact lampSense_arbKept h
  | provingWindowEnd l col => exact timed_arbKept (fun u => (attemptFailed_only l col u).arbKept) h
  | flashOnPhaseEnd l col => exact timed_arbKept (fun u => (phaseEnds_only l col u).arbKept) h
  | strayMeasureExpiry l col => exact timed_arbKept (fun u => (strayFound_only l col u).arbKept) h
  | lossOfProof l col => exact timed_arbKept (fun u => (proofLost_only l col u).arbKept) h
  | minGreenElapsed l =>
    exact timed_arbKept (fun u => (tryEndGreen_only l u).arbKept.trans (tryCloseOpen_only l _).arbKept) h
  | greenDurationElapsed l => exact timed_arbKept (fun u => (tryEndGreen_only l u).arbKept) h
  | amberTimeElapsed l => exact timed_arbKept (fun u => (goRed_only l u).arbKept) h
  | minRedElapsed l => exact timed_arbKept (fun u => (modLane_only u l _).arbKept.trans (settleRed_arbKept l _)) h
  | redGraceExpiry l => exact timed_arbKept (fun u => (modLane_only u l _).arbKept) h
  | releaseCut l => exact taken_arbKept (fun u => (takeOff_only _ u).arbKept.trans (takeBusy_only l _).arbKept) h
  | releaseEnd l => exact taken_arbKept (takeReleaseEnd_arbKept l) h
  | request l =>
    exact taken_arbKept
      (fun u => ((takeOff_only _ u).arbKept.trans (takeRequest_arbKept l _)).trans (settleRed_arbKept l _)) h
  | withdrawal l =>
    exact taken_arbKept
      (fun u => ((takeOff_only _ u).arbKept.trans (takeWithdrawal_arbKept l _)).trans (settleRed_arbKept l _)) h
  | mergeMonitorChange => exact taken_arbKept (fun u => (takeOff_only _ u).arbKept.trans (settleIfLoose_arbKept _)) h
  | intervalExpiry => exact intervalExpiry_arbKept h
  | grant => exact taken_arbKept grantNow_arbKept h
  | advanceActuation => exact taken_arbKept (fun u => (takeOff_only _ u).arbKept.trans (takeAdvance_arbKept _)) h
  | reservationExpiry => exact timed_arbKept reservationOver_arbKept h
  | replyFrameTransmitted => exact taken_arbKept (fun u => (replySent_only u).arbKept) h

/-! ### The step -/

theorem takeByte_arbKept {s t : State} (h : takeByte s = .next t) : ArbKept s t := by
  have byte : ∀ (rest : List Byte) (r : Receiver), ArbKept s
      (({ breakAtGap s with rxLine := rest }).modLink (fun k => { k with receiver := r, lastByte := s.now })) :=
    fun _ _ => (breakAtGap_only s).arbKept.trans (arbKept_of_own rfl rfl id)
  unfold takeByte at h
  split at h
  · exact next_arbKept (ArbKept.refl s) h
  · dsimp only at h
    split at h
    · exact next_arbKept (byte _ _) h
    · exact (byte _ _).trans (exec_arbKept _ h)
    · exact (byte _ _).trans (exec_arbKept _ h)

theorem runMove_arbKept (m : Move) {s t : State} (h : runMove m s = .next t) : ArbKept s t := by
  cases m with
  | event i => exact exec_arbKept i h
  | byte => exact takeByte_arbKept h
  | tenth => exact next_arbKept (advance_arbKept 1 s) h

theorem idle_arbKept {s t : State} (h : idle s = .next t) : ArbKept s t := by
  have free : ArbKept s { s with freeCount := s.freeCount + 1 } := arbKept_of_own rfl rfl id
  unfold idle at h
  split at h
  · exact next_arbKept (arbKept_of_own rfl rfl id : ArbKept s (idleInReset s)) h
  · split at h
    · exact runMove_arbKept _ h
    · exact free.trans (runMove_arbKept _ h)

theorem step_arbKept {s t : State} (h : step s = .next t) : ArbKept s t := by
  unfold step at h
  split at h
  · next c rest _ =>
    have front : ArbKept s { s with pending := rest } := arbKept_of_own rfl rfl id
    exact front.trans (exec_arbKept c h)
  · exact idle_arbKept h

/-- Settles O59: a step runs a row or lets a tenth pass, and each of those keeps the arbiter sound. -/
theorem everyStepKeepsTheArbiterShutOutsideMetering : Obligations.EveryStepKeepsTheArbiterShutOutsideMetering :=
  fun _ _ hs h => step_arbKept h hs

end Sys2Proof.Machine
end

section
/-! PROOFS. What the site's changes of state are made of, said once: the four lanes in turn, the stack's new content, the
monitors outside METERING, the entries to DARK and FAILSAFE (R41, R48, R50, R65). -/

namespace Sys2Proof.Machine

set_option Elab.async false

/-! ### One operation for each of a list of lanes -/

/-- What a lane shows: its record and its head. -/
def State.shown (s : State) (l : Lane) : LaneRec × Head := (s.lane l, s.head l)

/-- What each of several operations keeps, all of them together keep. -/
theorem forAll_keeps {α : Type} {f : α → State → State} {P : State → Prop} (hf : ∀ x t, P t → P (f x t)) (xs : List α)
    {s : State} (h : P s) : P (forAll xs f s) := by
  induction xs generalizing s with
  | nil => exact h
  | cons x xs ih => exact ih (hf x s h)

/-- Of an operation done with each of several lanes, each lane's view of the state changes by its own turn alone, where
the operation keeps what its effect on a view rests on. -/
theorem forAll_viewWhere {α : Type} {f : Lane → State → State} {view : Lane → State → α} {g : Lane → α → α}
    {P : State → Prop} (hf : ∀ l t, P t → P (f l t)) (own : ∀ l t, P t → view l (f l t) = g l (view l t))
    (others : ∀ l m t, P t → m ≠ l → view m (f l t) = view m t) {ls : List Lane} (hn : ls.Nodup) {s : State} (hs : P s)
    (m : Lane) : view m (forAll ls f s) = if m ∈ ls then g m (view m s) else view m s := by
  induction ls generalizing s with
  | nil => simp [forAll]
  | cons l ls ih =>
    obtain ⟨hl, hls⟩ := List.nodup_cons.1 hn
    refine (ih hls (hf l s hs)).trans ?_
    by_cases hm : m = l
    · subst hm
      simp [hl, own m s hs]
    · simp [hm, others l m s hs hm]

/-- The same, where the effect rests on parts that stay. -/
theorem forAll_view {α : Type} {f : Lane → State → State} {view : Lane → State → α} {g : Lane → α → α} {bs : List Part}
    {s : State} (hf : ∀ l t, Only bs t (f l t)) (own : ∀ l t, Only bs s t → view l (f l t) = g l (view l t))
    (others : ∀ l m t, m ≠ l → view m (f l t) = view m t) {ls : List Lane} (hn : ls.Nodup) (m : Lane) :
    view m (forAll ls f s) = if m ∈ ls then g m (view m s) else view m s :=
  forAll_viewWhere (P := Only bs s) (fun l t h => h.andThen (hf l t)) own (fun l m t _ => others l m t) hn
    (Only.refl bs s) m

/-- The same, for all four lanes. -/
theorem forAllLanes_view {α : Type} {f : Lane → State → State} {view : Lane → State → α} {g : Lane → α → α}
    {bs : List Part} {s : State} (hf : ∀ l t, Only bs t (f l t))
    (own : ∀ l t, Only bs s t → view l (f l t) = g l (view l t))
    (others : ∀ l m t, m ≠ l → view m (f l t) = view m t) (m : Lane) :
    view m (forAll allLanes f s) = g m (view m s) :=
  (forAll_view hf own others (by decide) m).trans (if_pos (mem_allLanes m))

theorem Only.par {bs : List Part} {s t : State} (h : Only bs s t) (p : Param) (hd : Part.desc ∉ bs := by decide) :
    t.par p = s.par p := by
  have e : t.desc = s.desc := h _ hd
  simp only [State.par, e]

theorem Only.now {bs : List Part} {s t : State} (h : Only bs s t) (he : Part.env ∉ bs := by decide) : t.now = s.now :=
  (h _ he).2.1

theorem Only.sequenced {bs : List Part} {s t : State} (h : Only bs s t) (l : Lane)
    (hd : Part.desc ∉ bs := by decide) : t.sequenced l = s.sequenced l := by
  have e : t.desc = s.desc := h _ hd
  simp only [State.sequenced, State.mode, e]

theorem shown_lane {s t : State} {l m : Lane} (h : t.shown l = s.shown m) : t.lane l = s.lane m := congrArg Prod.fst h

theorem shown_head {s t : State} {l m : Lane} (h : t.shown l = s.shown m) : t.head l = s.head m := congrArg Prod.snd h

theorem shown_lane_eq {s : State} {l : Lane} {r : LaneRec} {h : Head} (k : s.shown l = (r, h)) : s.lane l = r :=
  congrArg Prod.fst k

theorem shown_head_eq {s : State} {l : Lane} {r : LaneRec} {h : Head} (k : s.shown l = (r, h)) : s.head l = h :=
  congrArg Prod.snd k

/-- A head commanded to show a lane state, by the clock and the retries of `s`. -/
def State.commands (s : State) (st : LaneState) (h : Head) : Head :=
  h.command s.now (s.par .lampRetries) (aspectOf st)

theorem commands_shows (s : State) (st : LaneState) (h : Head) : (s.commands st h).shows st :=
  Head.command_shows ..

theorem commands_fault (s : State) (st : LaneState) (h : Head) (col : Colour) :
    ((s.commands st h).get col).fault = (h.get col).fault := by
  cases col <;> exact LampRec.command_fault ..

theorem commands_congr {s t : State} (hn : t.now = s.now) (hd : t.desc = s.desc) (st : LaneState) :
    t.commands st = s.commands st := by
  funext h
  simp only [State.commands, State.par, hn, hd]

/-- A lane enters a state, and its record is then changed. -/
theorem shown_enterState (s : State) (l m : Lane) (st : LaneState) (f : LaneRec → LaneRec) :
    ((enterState l st s).modLane l f).shown m =
      if m = l then (f { s.lane l with state := st, entryAt := s.now, minRed := false }, s.commands st (s.head l))
      else s.shown m := by
  unfold State.shown
  rw [lane_modLane, head_modLane, head_enterState, lane_enterState, lane_enterState]
  by_cases hm : m = l <;> simp [hm, State.commands]

theorem shown_offLane (s : State) (l m : Lane) :
    (offLane l s).shown m =
      if m = l then ((s.lane l).toOff s.now, s.commands .off (s.head l)) else s.shown m :=
  shown_enterState s l m .off _

/-! ### Outside METERING the monitors watch (R32, R34) -/

theorem refreshMonitors_reset {s : State} (h : s.site.state ≠ .metering) :
    (∀ l, (refreshMonitors s).det.queue.get l = Monitor.reset) ∧ (refreshMonitors s).det.spill = Monitor.reset := by
  obtain ⟨hq, -, hp⟩ := refreshMonitors_follow s
  exact ⟨fun l => (hq l).2 (.inl h), hp (.inl h)⟩

/-! ### The stack takes a content, said as equations (R130) -/

theorem topOf_nil_iff (es : List Entry) : topOf es = none ↔ es = [] := by
  cases es <;> simp [topOf]

/-- The OVERRIDE bit of a change of the governing entry. -/
def overrideBit (g h : Option Gov) : BitVec 8 := if g = h then 0 else Notice.override.bit

theorem setStack_topGov (es : List Entry) (s : State) : (setStack es s).topGov = topOf es := by
  simp only [State.topGov, setStack_entries, topOf]

theorem setStack_link (es : List Entry) (s : State) :
    (setStack es s).link = { s.link with notices := s.link.notices ||| overrideBit (topOf es) s.topGov } := by
  unfold overrideBit
  by_cases h : topOf es = s.topGov
  · rw [setStack_same h, if_pos h]
    simp
  · rw [setStack_changed h, if_neg h, (syncSign_only _).link]
    rfl

theorem setStack_handoffs (es : List Entry) (s : State) :
    (setStack es s).handoffs = s.handoffs ++ govSignals s (setStack es s) := by
  have ht := setStack_topGov es s
  unfold govSignals
  by_cases h : topOf es = s.topGov
  · rw [ht, if_pos h, setStack_same h]
    simp
  · have e : (setStack es s).handoffs = (handGoverning (topOf es) (raise .override
        (s.modOvr (fun o => { o with entries := es })))).handoffs := by
      rw [setStack_changed h]
      exact (syncSign_only _).same .handoffs
    rw [ht, if_neg h, e, handGoverning_handoffs]
    rfl

theorem setStack_heads (es : List Entry) (s : State) : (setStack es s).lamps.heads = s.lamps.heads := by
  obtain ⟨-, -, hsame, hchanged⟩ := setStack_becomes es s
  by_cases h : (setStack es s).topGov = s.topGov
  · rw [(hsame h).2.2]
  · exact (hchanged h).2.2.1

theorem stackRoom_eq : stackRoom = 4 := rfl

/-- An automatic push leaves what R136 says. -/
theorem automaticPush_entries (e : Entry) (s : State) :
    (automaticPush e s).ovr.entries = afterAutomaticPush e s.ovr.entries := by
  unfold automaticPush afterAutomaticPush
  rw [show (s.ovr.entries.any fun f => f.isId e.kind e.source) = s.stands e.kind e.source from rfl]
  by_cases hs : s.stands e.kind e.source = true
  · rw [if_pos hs, if_pos hs, setStack_entries]
  · rw [if_neg hs, if_neg hs, stackRoom_eq]
    by_cases hl : s.ovr.entries.length < 4
    · rw [if_pos hl, if_pos hl, setStack_entries]
    · rw [if_neg hl, if_neg hl]
      cases s.ovr.entries.getLast? with
      | none => rfl
      | some b =>
        dsimp only
        split
        · exact setStack_entries _ _
        · rfl

/-- An automatic push clears no notice. -/
theorem automaticPush_notices (e : Entry) (s : State) :
    ∃ b, (automaticPush e s).link.notices = s.link.notices ||| b := by
  have set : ∀ es, ∃ b, (setStack es s).link.notices = s.link.notices ||| b := fun es => ⟨_, by rw [setStack_link]⟩
  unfold automaticPush
  split
  · exact set _
  · split
    · exact set _
    · split
      · split
        · exact ⟨_, by rw [setStack_link]; exact BitVec.or_assoc ..⟩
        · exact ⟨_, rfl⟩
      · exact ⟨0, by simp⟩

theorem automaticPush_heads (e : Entry) (s : State) : (automaticPush e s).lamps.heads = s.lamps.heads := by
  unfold automaticPush
  split
  · exact setStack_heads _ s
  · split
    · exact setStack_heads _ s
    · split
      · split
        · exact setStack_heads _ _
        · rfl
      · rfl

/-- On an empty stack an automatic push stands alone. -/
theorem automaticPush_empty {e : Entry} {s : State} (h : s.ovr.entries = []) : automaticPush e s = setStack [e] s := by
  simp [automaticPush, State.stands, h, stackRoom, placeEntry]

theorem pushIfAsserted_released {s : State} (h : s.ovr.preLevel = false) : pushIfAsserted s = s :=
  if_neg (by simp [h])

theorem pushIfAsserted_asserted {s : State} (h : s.ovr.preLevel = true) :
    pushIfAsserted s = automaticPush preemptEntry s := if_pos h

theorem pushIfAsserted_entries (s : State) :
    (pushIfAsserted s).ovr.entries =
      if s.ovr.preLevel then afterAutomaticPush preemptEntry s.ovr.entries else s.ovr.entries := by
  cases h : s.ovr.preLevel with
  | false => rw [pushIfAsserted_released h]; rfl
  | true => rw [pushIfAsserted_asserted h, automaticPush_entries]; rfl

theorem pushIfAsserted_notices (s : State) : ∃ b, (pushIfAsserted s).link.notices = s.link.notices ||| b := by
  cases h : s.ovr.preLevel with
  | false => exact ⟨0, by rw [pushIfAsserted_released h]; simp⟩
  | true => rw [pushIfAsserted_asserted h]; exact automaticPush_notices _ s

theorem pushIfAsserted_heads (s : State) : (pushIfAsserted s).lamps.heads = s.lamps.heads := by
  cases h : s.ovr.preLevel with
  | false => rw [pushIfAsserted_released h]
  | true => rw [pushIfAsserted_asserted h, automaticPush_heads]

/-- On an empty stack a held pre-emption input leaves its entry alone. -/
theorem afterAutomaticPush_empty (e : Entry) : afterAutomaticPush e [] = [e] := by
  simp [afterAutomaticPush, placeEntry]

/-! ### Notices -/

/-- A pending class stays pending when others are raised. -/
theorem pending_or {n c : BitVec 8} (b : BitVec 8) (h : n &&& c ≠ 0) : (n ||| b) &&& c ≠ 0 := by
  rw [BitVec.and_comm, BitVec.and_or_distrib_left, BitVec.and_comm]
  exact fun e => h (BitVec.or_eq_zero_iff.1 e).1

/-- A class just raised is pending. -/
theorem pending_raised (n : BitVec 8) (c : Notice) : (n ||| c.bit) &&& c.bit ≠ 0 := by
  rw [BitVec.or_comm]
  exact pending_or n (by cases c <;> decide)

/-! ### The entry to DARK (R40, R41, R49) -/

theorem syncSign_sign_off {s : State} (hs : s.site.state ≠ .starting) (hm : s.site.state ≠ .metering) :
    (syncSign s).lamps.sign = .off := by
  rw [(syncSign_lamps s).2]
  cases h : s.site.state <;> simp_all [signFor]

theorem enterDark_site (s : State) : (enterDark s).site = SiteCtl.at .dark := by
  unfold enterDark raise
  rw [modLink_site, show (syncSign _).site = _ from (syncSign_only _).same .site]
  rfl

theorem enterDark_link (s : State) :
    (enterDark s).link = { s.link with notices := s.link.notices ||| Notice.site.bit } := by
  unfold enterDark raise
  rw [modLink_link, (syncSign_only _).link]
  rfl

theorem enterDark_sign (s : State) : (enterDark s).lamps.sign = .off :=
  syncSign_sign_off (s := enterSite .dark s) (by simp [enterSite, SiteCtl.at]) (by simp [enterSite, SiteCtl.at])

theorem enterDark_heads (s : State) : (enterDark s).lamps.heads = s.lamps.heads := (syncSign_lamps _).1

/-! ### Going dark (R48, R50, R65) -/

/-- A release end, or any message, of a lane that has gone OFF is taken back (log 10). -/
theorem mem_goOffs {h : Handoff} {ls : List Lane} {s : State} (hh : h ∈ (forAll ls goOff s).handoffs) :
    h ∈ s.handoffs ∧ ∀ l ∈ ls, isFromLane l h = false := by
  induction ls generalizing s with
  | nil => exact ⟨hh, by simp⟩
  | cons l ls ih =>
    obtain ⟨hm, hls⟩ := ih hh
    have hc : h ∈ s.handoffs ∧ isFromLane l h = false := by
      simpa [goOff, cancel, show (offLane l s).handoffs = s.handoffs from (offLane_only l s).same .handoffs] using hm
    exact ⟨hc.1, by simpa using ⟨hc.2, hls⟩⟩

theorem goOffs_shown (s : State) (m : Lane) :
    (forAll allLanes goOff s).shown m = ((s.lane m).toOff s.now, s.commands .off (s.head m)) := by
  refine forAllLanes_view (view := fun l t => State.shown t l) (g := fun _ x => (x.1.toOff s.now, s.commands .off x.2))
    goOff_only (fun l t ht => ?_) (fun l m t hm => ?_) m
  · have e : (goOff l t).shown l = (offLane l t).shown l := rfl
    rw [e, shown_offLane, if_pos rfl, ht.now, commands_congr ht.now (ht.same .desc)]
    rfl
  · have e : (goOff l t).shown m = (offLane l t).shown m := rfl
    rw [e, shown_offLane, if_neg hm]

/-- Going dark: every lane is OFF with its OFF values. -/
theorem darken_lane (s : State) (l : Lane) : (darken s).lane l = (s.lane l).toOff s.now := by
  have h1 : (darken s).lanes = (enterShut false (allLampsOff (forAll allLanes goOff s))).lanes :=
    ((refreshMonitors_only _).mono (cs := [.monitors, .entries, .notices, .handoffs, .lamps])).step (setStack_only _ _)
      |>.same .lanes
  have h2 : (enterShut false (allLampsOff (forAll allLanes goOff s))).lane l =
      { (forAll allLanes goOff s).lane l with inQueue := false } := Quad.get_map _ _ l
  have h3 : (forAll allLanes goOff s).lane l = (s.lane l).toOff s.now := congrArg Prod.fst (goOffs_shown s l)
  rw [lane_of_lanes h1, h2, h3]
  rfl

/-- Going dark: every head is commanded OFF, a second time where its lane went OFF. -/
theorem darken_head (s : State) (l : Lane) : (darken s).head l = s.commands .off (s.commands .off (s.head l)) := by
  have h1 : (darken s).lamps.heads = (allLampsOff (forAll allLanes goOff s)).lamps.heads := setStack_heads [] _
  have hg : Only [.lanes, .lamps, .handoffs] s (forAll allLanes goOff s) := Only.forAll goOff_only allLanes s
  have h2 : (allLampsOff (forAll allLanes goOff s)).head l =
      (forAll allLanes goOff s).commands .off ((forAll allLanes goOff s).head l) := Quad.get_map _ _ l
  have h3 : (forAll allLanes goOff s).head l = s.commands .off (s.head l) := congrArg Prod.snd (goOffs_shown s l)
  rw [commands_congr hg.now (hg.same .desc), h3] at h2
  rw [← h2]
  simp only [State.head, h1]

theorem darken_monitors {s : State} (h : s.site.state ≠ .metering) :
    (∀ l, (darken s).det.queue.get l = Monitor.reset) ∧ (darken s).det.spill = Monitor.reset := by
  have hg : (forAll allLanes goOff s).site = s.site := (Only.forAll goOff_only allLanes s).same .site
  obtain ⟨hq, hp⟩ := (setStack_only [] (refreshMonitors (enterShut false (allLampsOff (forAll allLanes goOff s))))).same
    .monitors
  have k := refreshMonitors_reset (s := enterShut false (allLampsOff (forAll allLanes goOff s)))
    (by rw [show (enterShut false (allLampsOff (forAll allLanes goOff s))).site = _ from hg]; exact h)
  exact ⟨fun l => (congrArg (Quad.get · l) hq).trans (k.1 l), hp.trans k.2⟩

theorem darken_entries (s : State) : (darken s).ovr.entries = [] := setStack_entries _ _

theorem darken_link (s : State) :
    (darken s).link = { s.link with
      notices := s.link.notices ||| (if s.ovr.entries = [] then 0 else Notice.override.bit) } := by
  generalize hu : refreshMonitors (enterShut false (allLampsOff (forAll allLanes goOff s))) = u
  have hg : Only [.lanes, .lamps, .handoffs] s (forAll allLanes goOff s) := Only.forAll goOff_only allLanes s
  have k : Only [.lanes, .lamps, .handoffs, .arb, .monitors] s u := by
    subst hu
    exact (((hg.mono).step (allLampsOff_only _)).step (enterShut_only _ _)).step (refreshMonitors_only _)
  have e : overrideBit (topOf []) u.topGov = if s.ovr.entries = [] then 0 else Notice.override.bit := by
    have ht : (topOf [] = u.topGov) ↔ s.ovr.entries = [] := by
      rw [← topOf_nil_iff, eq_comm]
      simp only [State.topGov, topOf, k.ovr]
      rfl
    simp only [overrideBit, ht]
  have d : darken s = setStack [] u := by
    subst hu
    rfl
  rw [d, setStack_link, e, k.link]

/-- After going dark no release end is on its way (log 10). -/
theorem darken_noReleaseEnd (s : State) (l : Lane) (g : BitVec 16) : Handoff.releaseEnd l g ∉ (darken s).handoffs := by
  intro h
  unfold darken at h
  rw [setStack_handoffs, List.mem_append] at h
  rcases h with h | h
  · obtain ⟨-, hl⟩ := mem_goOffs (ls := allLanes) (s := s) h
    simpa [isFromLane, isReleaseEnd] using hl l (mem_allLanes l)
  · unfold govSignals at h
    split at h <;> simp at h

theorem darken_preLevel (s : State) : (darken s).ovr.preLevel = s.ovr.preLevel := ((darken_only s).same .preempt).2.1

end Sys2Proof.Machine
end

section
/-! PROOFS. START-METERING (R42, R43), the lamp failure report (R86), SITE-RESET (R50), BEGIN and the lamp test (R39, R40),
CLEAR-FAILSAFE and CLEAR-AMBER-FAULT (R49, R88, R89). -/

namespace Sys2Proof.Machine

set_option Elab.async false

/-- A frame that passes the link's checks and is accepted is answered from the state its act leaves. -/
theorem done_of_act {c : Cmd} {act : Act} {args : List Byte} {s t : State} {o : Out} {data : List Byte}
    (ho : o = hostFrame c act args s) (hp : s.passes c args = true)
    (ha : act args s.link.held (openFrame c s) = (.done data, t)) : o = .next (answer c.code (.done data) t) := by
  rw [ho, hostFrame_passes act hp, ha]

@[simp] theorem openFrame_lane (c : Cmd) (s : State) (l : Lane) : (openFrame c s).lane l = s.lane l := by
  simp [State.lane]

@[simp] theorem openFrame_head (c : Cmd) (s : State) (l : Lane) : (openFrame c s).head l = s.head l := by
  simp [State.head]

@[simp] theorem openFrame_sequenced (c : Cmd) (s : State) (l : Lane) : (openFrame c s).sequenced l = s.sequenced l := by
  simp [State.sequenced]

@[simp] theorem openFrame_topGov (c : Cmd) (s : State) : (openFrame c s).topGov = s.topGov := by
  simp [State.topGov]

/-! ### START-METERING (R42, R43, R51, R54) -/

theorem shown_enterState_only (s : State) (l m : Lane) (st : LaneState) :
    (enterState l st s).shown m =
      if m = l then ({ s.lane l with state := st, entryAt := s.now, minRed := false }, s.commands st (s.head l))
      else s.shown m := by
  unfold State.shown
  rw [lane_enterState, head_enterState]
  by_cases hm : m = l <;> simp [hm, State.commands]

/-- What a lane shows after a lane operation that is done with the sequenced lanes alone. -/
theorem warnLanes_shown (s : State) (l : Lane) :
    (forAll allLanes warnLane s).shown l =
      if s.sequenced l then
        ({ s.lane l with state := .warning, entryAt := s.now, minRed := false }, s.commands .warning (s.head l))
      else s.shown l := by
  refine forAllLanes_view (view := fun l t => State.shown t l) (g := fun m x => if s.sequenced m then
      ({ x.1 with state := .warning, entryAt := s.now, minRed := false }, s.commands .warning x.2) else x)
    warnLane_only (fun l t ht => ?_) (fun l m t hm => ?_) l
  · unfold warnLane
    rw [ht.sequenced]
    split
    · rw [shown_enterState_only, if_pos rfl, ht.now, commands_congr ht.now (ht.same .desc)]
      rfl
    · rfl
  · unfold warnLane
    split
    · rw [shown_enterState_only, if_neg hm]
    · rfl

theorem warnLanes_sign (s : State) :
    (forAll allLanes warnLane s).lamps.sign = s.lamps.sign ∧
      (forAll allLanes warnLane s).lamps.signFrom = s.lamps.signFrom :=
  have keep : ∀ l t, (warnLane l t).lamps.sign = t.lamps.sign ∧ (warnLane l t).lamps.signFrom = t.lamps.signFrom := by
    intro l t
    unfold warnLane
    split <;> exact ⟨rfl, rfl⟩
  ⟨forAll_same (p := fun t => t.lamps.sign) (fun l t => (keep l t).1) allLanes s,
    forAll_same (p := fun t => t.lamps.signFrom) (fun l t => (keep l t).2) allLanes s⟩

/-- The sign is commanded now where its command changes. -/
theorem syncSign_signFrom {s : State} (h : s.lamps.sign ≠ signFor s.site.state s.topGov) :
    (syncSign s).lamps.signFrom = s.now := by
  unfold syncSign
  dsimp only
  rw [if_neg h]
  rfl

theorem startCheck_dark {s : State} (h : s.site.state = .dark) (ha : s.plans.active ≠ none) :
    s.startCheck = if allLanes.any s.sequenced = false then .noLane else .passes := by
  unfold State.startCheck
  rw [if_neg (by simp [h]), if_neg ha]

/-- The entry to STARTING, as R43, R51 and R54 say it. -/
theorem enterStarting_enters (s : State) :
    (enterStarting s).site =
      { state := .starting, lampTestAt := none, warningAt := some (s.now + s.par .warnTime), stopFlushAt := none } ∧
    (enterStarting s).lamps.sign = .flash ∧ (s.lamps.sign ≠ .flash → (enterStarting s).lamps.signFrom = s.now) ∧
    ∀ l, (enterStarting s).shown l =
      if s.sequenced l then
        ({ s.lane l with state := .warning, entryAt := s.now, minRed := false }, s.commands .warning (s.head l))
      else s.shown l := by
  unfold enterStarting
  generalize hu : s.modSite (fun _ => { SiteCtl.at .starting with warningAt := some (s.now + s.par .warnTime) }) = u
  have hw : Only [.lanes, .lamps] u (forAll allLanes warnLane u) := Only.forAll warnLane_only allLanes u
  have shown := warnLanes_shown u
  obtain ⟨hsign, -⟩ := warnLanes_sign u
  generalize forAll allLanes warnLane u = v at hw shown hsign
  have hsite : v.site = u.site := hw.same .site
  have hnow : v.now = u.now := hw.now
  have hflash : signFor v.site.state v.topGov = .flash := by
    rw [hsite, ← hu]
    rfl
  have hheads := (syncSign_lamps v).1
  subst hu
  refine ⟨?_, (syncSign_lamps v).2.trans hflash, fun hs => ?_, fun l => ?_⟩
  · rw [show (syncSign v).site = v.site from (syncSign_only v).same .site, hsite]
    rfl
  · exact (syncSign_signFrom (by rw [hflash, hsign]; exact hs)).trans hnow
  · have e : (syncSign v).shown l = v.shown l := by
      have hlanes : (syncSign v).lanes = v.lanes := (syncSign_only v).same .lanes
      simp only [State.shown, State.lane, State.head, hheads, hlanes]
    rw [e, shown l]
    rfl

theorem actStartMetering_refused {s : State} (held : HeldSet) :
    (s.site.state ≠ .dark → actStartMetering [] held s = (.refused .wrongState, s)) ∧
    (s.site.state = .dark → s.plans.active = none → actStartMetering [] held s = (.refused .noPlan, s)) ∧
    (s.site.state = .dark → s.plans.active ≠ none → allLanes.any s.sequenced = false →
      actStartMetering [] held s = (.refused .conflict, s)) := by
  unfold actStartMetering
  refine ⟨fun h => ?_, fun h ha => ?_, fun h ha hl => ?_⟩
  · rw [show s.startCheck = .wrongState from if_pos h]
  · rw [show s.startCheck = .noPlan by simp [State.startCheck, h, ha]]
  · rw [startCheck_dark h ha, if_pos hl]

theorem actStartMetering_starts {s : State} (held : HeldSet) (h : s.site.state = .dark) (ha : s.plans.active ≠ none)
    (hl : allLanes.any s.sequenced ≠ false) : actStartMetering [] held s = (.done [], enterStarting s) := by
  unfold actStartMetering
  rw [startCheck_dark h ha, if_neg hl]

theorem not_sequenced_iff (s : State) (l : Lane) : s.sequenced l = false ↔ s.mode l = .unused ∨ s.mode l = .counted :=
  sequenced_false_iff (s.mode l)

/-- Settles O20: the three refusals by the check that fails, then the entry to STARTING read lane by lane. -/
theorem startMeteringEntersStarting : Obligations.StartMeteringEntersStarting := by
  intro s hp
  obtain ⟨hstate, hplan, hlane⟩ := actStartMetering_refused (s := openFrame .startMetering s) s.link.held
  simp only [openFrame_site, openFrame_plans] at hstate hplan hlane
  refine ⟨fun h => answers_of_act rfl hp (hstate h), fun h ha => answers_of_act rfl hp (hplan h ha), fun h ha hl => ?_,
    fun h ha hl => ?_⟩
  · refine answers_of_act rfl hp (hlane h ha (List.any_eq_false.2 fun l _ => ?_))
    rw [openFrame_sequenced, (not_sequenced_iff s l).2 (hl l)]
    decide
  · have hany : allLanes.any (openFrame .startMetering s).sequenced ≠ false := by
      obtain ⟨l, hl⟩ := hl
      rw [Ne, Bool.not_eq_false, List.any_eq_true]
      exact ⟨l, mem_allLanes l, by rw [openFrame_sequenced]; exact (sequenced_iff s l).2 hl⟩
    have hx := done_of_act rfl hp
      (actStartMetering_starts s.link.held (s := openFrame .startMetering s) (by simpa using h) (by simpa using ha) hany)
    have honly := enterStarting_only (openFrame .startMetering s)
    obtain ⟨hsite, hsign, hfrom, hshown⟩ := enterStarting_enters (openFrame .startMetering s)
    generalize enterStarting (openFrame .startMetering s) = t at hx honly hsite hsign hfrom hshown
    simp only [openFrame_now, openFrame_par, openFrame_lamps, openFrame_lane, openFrame_head,
      openFrame_sequenced] at hsite hfrom hshown
    refine ⟨t, hx, honly, hsite, hsign, hfrom, fun l hm => ?_, fun l hm => ?_⟩
    · have k := hshown l
      rw [if_pos ((sequenced_iff s l).2 hm)] at k
      refine ⟨shown_lane_eq k, ?_⟩
      rw [shown_head_eq k]
      exact commands_shows _ _ _
    · have k := hshown l
      rw [if_neg (by rw [(not_sequenced_iff s l).2 hm]; decide)] at k
      have e : (openFrame .startMetering s).shown l = s.shown l := by simp [State.shown]
      exact ⟨shown_lane (k.trans e), shown_head (k.trans e)⟩

/-! ### FAILSAFE entry and the lamp failure report (R48, R65, R86) -/

theorem darken_site (s : State) : (darken s).site = s.site := by
  have hg : Only [.lanes, .lamps, .handoffs] s (forAll allLanes goOff s) := Only.forAll goOff_only allLanes s
  have k := ((((hg.mono (cs := [.lanes, .lamps, .arb, .monitors, .entries, .notices, .handoffs])).step
    (allLampsOff_only _)).step (enterShut_only false _)).step (refreshMonitors_only _)).step (setStack_only [] _)
  exact k.same .site

/-- What FAILSAFE entry and SITE-RESET make of the lanes, the heads, the arbiter and the monitors (R48, R50, R65). -/
structure Darkened (s t : State) : Prop where
  lane : ∀ l, t.lane l = (s.lane l).toOff s.now
  head : ∀ l, t.head l = s.commands .off (s.commands .off (s.head l))
  arb : t.arb = s.arb.emptied false
  monitors : (∀ l, t.det.queue.get l = Monitor.reset) ∧ t.det.spill = Monitor.reset

theorem Darkened.shows {s t : State} (h : Darkened s t) (l : Lane) : (t.head l).shows .off := by
  rw [h.head]
  exact commands_shows _ _ _

theorem Darkened.fault {s t : State} (h : Darkened s t) (l : Lane) (col : Colour) :
    (t.lamp l col).fault = (s.lamp l col).fault := by
  unfold State.lamp
  rw [h.head, commands_fault, commands_fault]

/-- Darkness stays under what leaves lanes, heads, arbiter and monitors as they are. -/
theorem Darkened.andKeep {s t u : State} (h : Darkened s t) (hl : u.lanes = t.lanes)
    (hp : u.lamps.heads = t.lamps.heads) (ha : u.arb = t.arb) (hd : u.det = t.det) : Darkened s u where
  lane l := (lane_of_lanes hl l).trans (h.lane l)
  head l := (by simp only [State.head, hp] : u.head l = t.head l).trans (h.head l)
  arb := ha.trans h.arb
  monitors := by rw [hd]; exact h.monitors

/-- The site takes a state outside METERING and goes dark. -/
theorem darken_darkened {st : SiteState} (hs : st ≠ .metering) (s : State) : Darkened s (darken (enterSite st s)) where
  lane l := darken_lane _ l
  head l := darken_head _ l
  arb := darken_arb _
  monitors := darken_monitors hs

theorem enterFailsafe_darkened (s : State) : Darkened s (enterFailsafe s) := by
  have k := syncSign_only (darken (enterSite .failsafe s))
  exact (darken_darkened (by decide) s).andKeep (k.same .lanes) (syncSign_lamps _).1 (k.same .arb) k.det

theorem enterFailsafe_site (s : State) : (enterFailsafe s).site = SiteCtl.at .failsafe := by
  have h : (enterFailsafe s).site = (darken (enterSite .failsafe s)).site := (syncSign_only _).same .site
  rw [h, darken_site]
  rfl

theorem enterFailsafe_sign (s : State) : (enterFailsafe s).lamps.sign = .off := by
  have hs : (darken (enterSite .failsafe s)).site.state = .failsafe := congrArg SiteCtl.state (darken_site _)
  exact syncSign_sign_off (s := darken (enterSite .failsafe s)) (by simp [hs]) (by simp [hs])

theorem enterFailsafe_entries (s : State) : (enterFailsafe s).ovr.entries = [] :=
  have h : (enterFailsafe s).ovr.entries = (darken (enterSite .failsafe s)).ovr.entries := (syncSign_only _).same .entries
  h.trans (darken_entries _)

theorem enterFailsafe_notices (s : State) : (enterFailsafe s).link.notices =
    s.link.notices ||| (if s.ovr.entries = [] then 0 else Notice.override.bit) ||| Notice.failsafe.bit := by
  have h : (enterFailsafe s).link.notices = (darken (enterSite .failsafe s)).link.notices ||| Notice.failsafe.bit :=
    congrArg (· ||| Notice.failsafe.bit) ((syncSign_only _).same .notices)
  rw [h, darken_link]
  rfl

theorem isReport_waiting {s : State} (hw : s.waiting isReport = some .report) :
    (takeOff isReport s).handoffs = s.handoffs.erase .report := takeOff_handoffs hw

theorem exec_lampFailureReport {s : State} (hr : s.resetIn = false) (hw : s.waiting isReport = some .report) :
    exec .lampFailureReport s = .next (takeReport (takeOff isReport s)) :=
  taken_now (f := fun t => takeReport (takeOff isReport t)) hr (by simp [hw])

/-- In the states from DARK to STOPPING a report is a FAILSAFE entry. -/
theorem takeReport_enters {s : State} (h : s.site.state = .dark ∨ s.site.state = .starting ∨ s.site.state = .metering ∨
    s.site.state = .stopping) : takeReport s = enterFailsafe s := by
  unfold takeReport
  rcases h with h | h | h | h <;> rw [h]

/-- Settles O41: in FAILSAFE the notice alone, and else the FAILSAFE entry part by part. -/
theorem lampFailureReportsEnterFailsafe : Obligations.LampFailureReportsEnterFailsafe := by
  intro s hr hw
  rw [exec_lampFailureReport hr hw]
  refine ⟨fun h => ?_, fun h => ?_⟩
  · have e : takeReport (takeOff isReport s) = raise .failsafe (takeOff isReport s) := by
      unfold takeReport
      rw [show (takeOff isReport s).site.state = .failsafe from h]
    rw [e, ← isReport_waiting hw]
    rfl
  · rw [takeReport_enters (s := takeOff isReport s) h]
    have k := enterFailsafe_darkened (takeOff isReport s)
    have hn := enterFailsafe_notices (takeOff isReport s)
    refine ⟨_, rfl, ((takeOff_only _ s).mono (cs := darkParts)).andThen (enterFailsafe_only _), enterFailsafe_site _, ?_,
      enterFailsafe_sign _, fun l => ⟨k.lane l, k.shows l⟩, k.fault, ?_, ?_, ?_, ?_, ?_, ?_, enterFailsafe_entries _,
      fun he => ?_, k.monitors⟩
    · rw [hn]
      exact pending_raised _ .failsafe
    · rw [k.arb]; rfl
    · rw [k.arb]; exact emptied_shutSound _ _
    · rw [k.arb]; rfl
    · rw [k.arb]; rfl
    · rw [k.arb]; rfl
    · rw [k.arb]; rfl
    · rw [hn, if_neg (show (takeOff isReport s).ovr.entries ≠ [] from he)]
      exact pending_or _ (pending_raised _ .override)

/-! ### SITE-RESET (R41, R50) -/

/-- What SITE-RESET leaves but for the SITE notice. -/
def resetDark (s : State) : State := syncSign (pushIfAsserted (darken (enterSite .dark s)))

theorem siteToDark_eq (s : State) :
    siteToDark s = if s.site.state = .dark then resetDark s else raise .site (resetDark s) := rfl

theorem resetDark_parts (s : State) :
    Only [.entries, .notices, .handoffs, .lamps] (darken (enterSite .dark s)) (resetDark s) :=
  (pushIfAsserted_only _).step (syncSign_only _)

theorem resetDark_darkened (s : State) : Darkened s (resetDark s) := by
  have k := resetDark_parts s
  have hh : (resetDark s).lamps.heads = (darken (enterSite .dark s)).lamps.heads :=
    (syncSign_lamps _).1.trans (pushIfAsserted_heads _)
  exact (darken_darkened (by decide) s).andKeep (k.same .lanes) hh (k.same .arb) k.det

theorem resetDark_site (s : State) : (resetDark s).site = SiteCtl.at .dark := by
  rw [show (resetDark s).site = (darken (enterSite .dark s)).site from (resetDark_parts s).same .site, darken_site]
  rfl

theorem resetDark_sign (s : State) : (resetDark s).lamps.sign = .off := by
  have hs : (pushIfAsserted (darken (enterSite .dark s))).site.state = .dark := by
    rw [show (pushIfAsserted _).site = _ from (pushIfAsserted_only _).same .site, darken_site]
    rfl
  exact syncSign_sign_off (by simp [hs]) (by simp [hs])

/-- Going dark from DARK empties the stack, and a held pre-emption input then stands alone. -/
theorem resetDark_pushed (s : State) :
    pushIfAsserted (darken (enterSite .dark s)) =
      if s.ovr.preLevel then setStack [preemptEntry] (darken (enterSite .dark s)) else darken (enterSite .dark s) := by
  have hl : (darken (enterSite .dark s)).ovr.preLevel = s.ovr.preLevel := darken_preLevel _
  cases h : s.ovr.preLevel with
  | false => exact pushIfAsserted_released (hl.trans h)
  | true => rw [pushIfAsserted_asserted (hl.trans h), automaticPush_empty (darken_entries _)]; rfl

theorem resetDark_entries (s : State) :
    (resetDark s).ovr.entries = if s.ovr.preLevel then [preemptEntry] else [] := by
  have h : (resetDark s).ovr.entries = (pushIfAsserted (darken (enterSite .dark s))).ovr.entries :=
    (syncSign_only _).same .entries
  rw [h, resetDark_pushed]
  cases s.ovr.preLevel
  · exact darken_entries _
  · exact setStack_entries _ _

theorem resetDark_notices (s : State) : (resetDark s).link.notices =
    s.link.notices ||| (if s.ovr.entries = [] ∧ s.ovr.preLevel = false then 0 else Notice.override.bit) := by
  have h : (resetDark s).link.notices = (pushIfAsserted (darken (enterSite .dark s))).link.notices :=
    (syncSign_only _).same .notices
  have hd : (darken (enterSite .dark s)).link.notices =
      s.link.notices ||| (if s.ovr.entries = [] then 0 else Notice.override.bit) := by
    rw [darken_link]
    rfl
  have ht : (darken (enterSite .dark s)).topGov = none := (topOf_nil_iff _).2 (darken_entries _)
  rw [h, resetDark_pushed]
  cases s.ovr.preLevel with
  | false => simpa using hd
  | true =>
    have e : overrideBit (topOf [preemptEntry]) none = Notice.override.bit := rfl
    rw [if_pos rfl, setStack_link, ht, e]
    dsimp only
    rw [hd, BitVec.or_assoc]
    congr 1
    by_cases he : s.ovr.entries = [] <;> simp [he]

theorem resetDark_noReleaseEnd (s : State) (l : Lane) (g : BitVec 16) :
    Handoff.releaseEnd l g ∉ (resetDark s).handoffs := by
  have h : (resetDark s).handoffs = (pushIfAsserted (darken (enterSite .dark s))).handoffs :=
    (syncSign_only _).same .handoffs
  have hd := darken_noReleaseEnd (enterSite .dark s) l g
  rw [h, resetDark_pushed]
  cases s.ovr.preLevel
  · exact hd
  · rw [if_pos rfl, setStack_handoffs, List.mem_append]
    rintro (hm | hm)
    · exact hd hm
    · unfold govSignals at hm
      split at hm <;> simp at hm

/-- SITE-RESET raises SITE beside what it otherwise leaves, unless the site was DARK. -/
theorem siteToDark_resets (s : State) : Only [.notices] (resetDark s) (siteToDark s) ∧
    (siteToDark s).link.notices =
      (resetDark s).link.notices ||| (if s.site.state = .dark then 0 else Notice.site.bit) := by
  rw [siteToDark_eq]
  split
  · exact ⟨Only.refl _ _, by simp⟩
  · exact ⟨raise_only _ _, rfl⟩

/-- Settles O22: the refusal in FAILSAFE, and the dark state with the stack's and the site's notices. -/
theorem siteResetReturnsToDark : Obligations.SiteResetReturnsToDark := by
  intro s hp
  refine ⟨fun h => ?_, fun h => ?_⟩
  · refine answers_of_act rfl hp (?_ : actSiteReset [] s.link.held (openFrame .siteReset s) = _)
    exact if_pos (by simpa using h)
  · have ha : actSiteReset [] s.link.held (openFrame .siteReset s) = (.done [], siteToDark (openFrame .siteReset s)) :=
      if_neg (by simpa using h)
    have hx := done_of_act rfl hp ha
    obtain ⟨k, hn⟩ := siteToDark_resets (openFrame .siteReset s)
    have hd : Darkened (openFrame .siteReset s) (siteToDark (openFrame .siteReset s)) :=
      (resetDark_darkened _).andKeep (k.same .lanes) (congrArg LampMon.heads (k.same .lamps)) (k.same .arb) k.det
    have harb := hd.arb
    have hlane := hd.lane
    have he : (siteToDark (openFrame .siteReset s)).ovr.entries = (resetDark (openFrame .siteReset s)).ovr.entries :=
      k.same .entries
    rw [resetDark_entries] at he
    have hsign : (siteToDark (openFrame .siteReset s)).lamps.sign = .off :=
      (congrArg LampMon.sign (k.same .lamps)).trans (resetDark_sign _)
    have hsite : (siteToDark (openFrame .siteReset s)).site = (resetDark (openFrame .siteReset s)).site := k.same .site
    rw [resetDark_site] at hsite
    have hh : (siteToDark (openFrame .siteReset s)).handoffs = (resetDark (openFrame .siteReset s)).handoffs :=
      k.same .handoffs
    simp only [openFrame_arb, openFrame_lane, openFrame_now, openFrame_ovr] at harb hlane he
    refine ⟨_, hx, siteToDark_only _, hsite, hsign, fun l => ⟨hlane l, hd.shows l⟩, ?_, ?_, ?_, ?_, ?_, ?_, he,
      hd.monitors.1, hd.monitors.2, ?_, fun l g => ?_⟩
    · rw [harb]; rfl
    · rw [harb]; exact emptied_shutSound _ _
    · rw [harb]; rfl
    · rw [harb]; rfl
    · rw [harb]; rfl
    · rw [harb]; rfl
    · rw [hn, resetDark_notices, openFrame_site, openFrame_ovr, BitVec.or_assoc, BitVec.or_assoc]
      congr 1
      exact BitVec.or_comm _ _
    · rw [hh]
      exact resetDark_noReleaseEnd _ l g

/-! ### Every lamp record changed alike, and what a return to DARK leaves (R40, R49, R89, R135) -/

/-- Every lamp record changed alike. -/
def State.mapLamps (s : State) (f : LampRec → LampRec) : State :=
  s.modLamps (fun m => { m with heads := m.heads.map (Head.map f) })

theorem lamp_mapLamps (s : State) (f : LampRec → LampRec) (l : Lane) (col : Colour) :
    (s.mapLamps f).lamp l col = f (s.lamp l col) := by
  have h : (s.mapLamps f).head l = (s.head l).map f := Quad.get_map _ _ l
  unfold State.lamp
  rw [h, Head.get_map]

theorem lamp_of_heads {s t : State} (h : t.lamps.heads = s.lamps.heads) (l : Lane) (col : Colour) :
    t.lamp l col = s.lamp l col := by
  simp only [State.lamp, State.head, h]

theorem senseOff_iff (h : Head) : h.senseOff = true ↔ ∀ col, (h.get col).sensed = false := by
  simp only [Head.senseOff, Bool.and_eq_true, Bool.not_eq_true']
  exact ⟨fun ⟨⟨hr, ha⟩, hg⟩ col => by cases col <;> assumption, fun k => ⟨⟨k .red, k .amber⟩, k .green⟩⟩

theorem allSensedOff_iff (s : State) : s.allSensedOff = true ↔ ∀ l col, (s.lamp l col).sensed = false := by
  simp only [State.allSensedOff, Quad.toList, List.all_cons, List.all_nil, Bool.and_true, Bool.and_eq_true, senseOff_iff]
  refine ⟨fun ⟨h0, h1, h2, h3⟩ l col => ?_, fun k => ⟨k 0, k 1, k 2, k 3⟩⟩
  match l with
  | 0 => exact h0 col
  | 1 => exact h1 col
  | 2 => exact h2 col
  | 3 => exact h3 col

theorem not_allSensedOff {s : State} (h : ∃ l col, (s.lamp l col).sensed = true) : ¬ s.allSensedOff = true := by
  obtain ⟨l, col, h⟩ := h
  intro k
  rw [(allSensedOff_iff s).1 k l col] at h
  exact Bool.false_ne_true h

/-- What the end of the lamp test and CLEAR-FAILSAFE make of the site, the notices, the lamps and the stack. -/
structure Redarkened (s t : State) : Prop where
  only : Only [.site, .lamps, .entries, .notices, .handoffs] s t
  site : t.site = SiteCtl.at .dark
  notice : t.link.notices &&& Notice.site.bit ≠ 0
  heads : t.lamps.heads = s.lamps.heads
  entries : t.ovr.entries =
    if s.ovr.preLevel then afterAutomaticPush preemptEntry s.ovr.entries else s.ovr.entries

/-- DARK is entered, and a held pre-emption input is pushed. -/
theorem pushedDark_redarkened (s : State) : Redarkened s (pushIfAsserted (enterDark s)) where
  only := (enterDark_only s).mono.step (pushIfAsserted_only _)
  site := by
    have h : (pushIfAsserted (enterDark s)).site = (enterDark s).site := (pushIfAsserted_only _).same .site
    rw [h, enterDark_site]
  notice := by
    obtain ⟨b, hb⟩ := pushIfAsserted_notices (enterDark s)
    rw [hb, enterDark_link]
    exact pending_or b (pending_raised _ .site)
  heads := (pushIfAsserted_heads _).trans (enterDark_heads s)
  entries := by rw [pushIfAsserted_entries, (enterDark_only s).ovr]

/-! ### BEGIN and the lamp test (R39, R40) -/

theorem actBegin_starts (args : List Byte) (held : HeldSet) (u : State) : actBegin args held u = (.done [],
    { u with
      link := { u.link with begun := true, lossFrom := some u.now }
      site := if u.site.state = .start then { u.site with state := .lamptest, lampTestAt := some (u.now + 10) }
        else u.site }) := by
  unfold actBegin
  dsimp only
  split
  · rfl
  · rfl

theorem lampTestIn_due {s : State} {t0 : Nat} (hs : s.site.state = .lamptest) (ht : s.site.lampTestAt = some t0)
    (hd : t0 ≤ s.now) : s.lampTestIn = some 0 := by
  simp [State.lampTestIn, hs, ht, State.until, hd]

theorem endLampTest_dark {s : State} (h : ∀ l col, (s.lamp l col).sensed = false) :
    endLampTest s = pushIfAsserted (enterDark s) := if_pos ((allSensedOff_iff s).2 h)

theorem endLampTest_failsafe {s : State} (h : ∃ l col, (s.lamp l col).sensed = true) :
    endLampTest s = enterFailsafe (s.mapLamps LampRec.testFailed) := if_neg (not_allSensedOff h)

theorem testFailed_fault (r : LampRec) : r.testFailed.fault = if r.sensed then .failedOn else r.fault := by
  unfold LampRec.testFailed
  split <;> rfl

/-- Settles O11: BEGIN by its act; the end of the lamp test by what the lamps sense. -/
theorem beginStartsTheLampTestAndItsEndJudges : Obligations.BeginStartsTheLampTestAndItsEndJudges := by
  refine ⟨fun s hp => ?_, fun s t0 hr hs ht hd => ?_⟩
  · refine answers_of_act (act := actBegin) rfl hp ?_
    rw [actBegin_starts, openFrame_now, openFrame_site]
  · have hx : exec .lampTestExpiry s = .next (endLampTest s) := timed_now hr (lampTestIn_due hs ht hd)
    rw [hx]
    refine ⟨fun h => ?_, fun h => ?_⟩
    · rw [endLampTest_dark h]
      have k := pushedDark_redarkened s
      exact ⟨_, rfl, k.only, k.site, k.notice, k.heads, k.entries⟩
    · rw [endLampTest_failsafe h]
      have k := enterFailsafe_darkened (s.mapLamps LampRec.testFailed)
      refine ⟨_, rfl, enterFailsafe_site _, ?_, by rw [k.arb]; rfl, fun l col => ?_⟩
      · rw [enterFailsafe_notices]
        exact pending_raised _ .failsafe
      · rw [k.fault, lamp_mapLamps, testFailed_fault]

/-! ### CLEAR-FAILSAFE and CLEAR-AMBER-FAULT (R49, R88, R89) -/

theorem actClearFailsafe_refused {s : State} (held : HeldSet)
    (h : s.site.state ≠ .failsafe ∨ ∃ l col, (s.lamp l col).sensed = true) :
    actClearFailsafe [] held s = (.refused .wrongState, s) :=
  if_neg fun ⟨hs, ha⟩ => h.elim (fun k => k hs) (fun k => not_allSensedOff k ha)

theorem actClearFailsafe_clears {s : State} (held : HeldSet) (hs : s.site.state = .failsafe)
    (ha : ∀ l col, (s.lamp l col).sensed = false) : actClearFailsafe [] held s = (.done [],
      pushIfAsserted (enterDark (s.mapLamps (LampRec.clearAll (s.par .lampRetries))))) :=
  if_pos ⟨hs, (allSensedOff_iff s).2 ha⟩

/-- CLEAR-AMBER-FAULT changes the amber lamps of the lanes it covers and no other lamp. -/
theorem clearAmbers_lamp (o : Option Lane) (s : State) (l : Lane) (col : Colour) :
    (forAll (lanesFor o) clearAmber s).lamp l col =
      if l ∈ lanesFor o ∧ col = .amber then (s.lamp l .amber).clearNoticeOnly s.now (s.par .lampRetries)
      else s.lamp l col := by
  have hn : (lanesFor o).Nodup := by cases o <;> simp [lanesFor, allLanes]
  have h := forAll_view (f := clearAmber) (view := fun l t => State.lamp t l col) (s := s)
    (g := fun _ r => if col = .amber then r.clearNoticeOnly s.now (s.par .lampRetries) else r)
    (fun m t => modLamp_only t m .amber _) (fun m t ht => ?_) (fun k m t hm => ?_) hn l
  · refine h.trans ?_
    by_cases hl : l ∈ lanesFor o <;> by_cases hc : col = .amber <;> simp [hl, hc]
  · simp only [clearAmber, lamp_modLamp, true_and, ht.now, ht.par]
    split
    · next hc => rw [hc]
    · rfl
  · simp [clearAmber, lamp_modLamp, hm]

theorem clearAmbers_sign (o : Option Lane) (s : State) : (forAll (lanesFor o) clearAmber s).lamps.sign = s.lamps.sign :=
  forAll_same (f := clearAmber) (p := fun t => t.lamps.sign) (fun _ _ => rfl) _ s

theorem mem_lanesFor (o : Option Lane) (l : Lane) : l ∈ lanesFor o ↔ o = none ∨ o = some l := by
  cases o with
  | none => simp [lanesFor, mem_allLanes]
  | some m => simp [lanesFor, eq_comm]

theorem clearNoticeOnly_kept {now n : Nat} {r : LampRec} (h : r.fault ≠ .failedOff ∨ r.noticeOnly = false) :
    r.clearNoticeOnly now n = r := if_neg fun ⟨hf, hn⟩ => h.elim (fun k => k hf) (fun k => by simp [k] at hn)

theorem clearNoticeOnly_clears {now n : Nat} {r : LampRec} (hf : r.fault = .failedOff) (hn : r.noticeOnly = true) :
    r.clearNoticeOnly now n =
      LampRec.startProving now false { r with fault := .none, noticeOnly := false, retries := n, lostFrom := none } :=
  if_pos ⟨hf, hn⟩

/-- Settles O23: CLEAR-FAILSAFE by its one condition; CLEAR-AMBER-FAULT lamp by lamp, an amber by its command. -/
theorem lampFaultsAreCleared : Obligations.LampFaultsAreCleared := by
  refine ⟨fun s hp => ⟨fun h => ?_, fun hs hoff => ?_⟩, fun s hp => ?_⟩
  · exact answers_of_act (act := actClearFailsafe) rfl hp (actClearFailsafe_refused _ (by simpa using h))
  · have hx := done_of_act rfl hp
      (actClearFailsafe_clears (s := openFrame .clearFailsafe s) s.link.held (by simpa using hs) (by simpa using hoff))
    have k := pushedDark_redarkened
      ((openFrame .clearFailsafe s).mapLamps (LampRec.clearAll ((openFrame .clearFailsafe s).par .lampRetries)))
    have he : ((openFrame .clearFailsafe s).mapLamps
      (LampRec.clearAll ((openFrame .clearFailsafe s).par .lampRetries))).ovr = s.ovr := openFrame_ovr _ s
    have hent := k.entries
    rw [he] at hent
    refine ⟨_, hx, ((modLamps_only _ _).mono).andThen k.only, k.site, k.notice, fun l col => ?_, fun hl => ?_,
      fun hl hn => ?_⟩
    · rw [lamp_of_heads k.heads, lamp_mapLamps, openFrame_lamp, openFrame_par]
      rfl
    · rw [hent, hl]
      rfl
    · rw [hent, hl, hn]
      exact afterAutomaticPush_empty _
  · have hx := done_of_act (act := actClearAmberFault) (c := .clearAmberFault) rfl hp rfl
    refine ⟨_, hx, actClearAmberFault_only [] _ _, (clearAmbers_sign _ _).trans (by simp), fun l => ⟨?_, ?_, fun h => ?_⟩⟩
    · simp [clearAmbers_lamp]
    · intro hl hf hn
      rw [clearAmbers_lamp, if_pos ⟨(mem_lanesFor _ _).2 hl, rfl⟩, openFrame_lamp, openFrame_now, openFrame_par,
        clearNoticeOnly_clears hf hn]
      cases (s.lamp l .amber).commanded <;> simp [LampRec.startProving, LampRec.driveOn]
    · rw [clearAmbers_lamp, openFrame_lamp]
      split
      · next hl =>
        refine clearNoticeOnly_kept ?_
        rcases h with ⟨k, hk, hkl⟩ | h
        · rw [mem_lanesFor, hk] at hl
          exact absurd hl.1 (by simpa using hkl)
        · exact h
      · rfl

end Sys2Proof.Machine
end

section
/-! PROOFS. The warning timer takes the site to METERING (R44): the first reds, the entry that governs is taken by all, the
arbiter leaves SHUT (R94). -/

namespace Sys2Proof.Machine

set_option Elab.async false

/-! ### The first reds (R44, R54) -/

/-- No sequenced lane holds a grant, as in STARTING. -/
def State.NoGrants (s : State) : Prop := ∀ l, s.sequenced l = true → (s.lane l).grant = none

/-- A sequenced lane's first red where no grant is recorded. -/
def redAlone (l : Lane) (s : State) : State :=
  if s.sequenced l then (enterState l .red s).modLane l (fun r => { r with onsetAt := none }) else s

theorem redAlone_only (l : Lane) (s : State) : Only [.lanes, .lamps] s (redAlone l s) :=
  Only.ite (fun _ => (enterState_only l .red s).step (modLane_only _ l _)) (fun _ => Only.refl _ s)

theorem shown_redAlone (s : State) (l m : Lane) : (redAlone l s).shown m =
    if m = l ∧ s.sequenced l = true then ((s.lane l).toRed s.now, s.commands .red (s.head l)) else s.shown m := by
  unfold redAlone
  by_cases hs : s.sequenced l = true
  · rw [if_pos hs, shown_enterState]
    simp only [hs, and_true]
    rfl
  · simp [hs]

/-- A red without a grant decides nothing (R72). -/
theorem firstRed_eq {s : State} (h : s.NoGrants) (l : Lane) : firstRed l s = redAlone l s := by
  unfold firstRed redAlone
  split
  · next hs =>
    have hg : (((enterState l .red s).modLane l (fun r => { r with onsetAt := none })).lane l).grant = none := by
      rw [show State.lane _ l = _ from congrArg Prod.fst (shown_enterState s l l .red _), if_pos rfl]
      exact h l hs
    exact if_neg (by simp [hg])
  · rfl

theorem redAlone_noGrants {s : State} (h : s.NoGrants) (l : Lane) : (redAlone l s).NoGrants := by
  intro m hm
  rw [(redAlone_only l s).sequenced] at hm
  rw [show State.lane _ m = _ from congrArg Prod.fst (shown_redAlone s l m)]
  split
  · next k => exact h l k.2
  · exact h m hm

theorem firstReds_eq {s : State} (h : s.NoGrants) (ls : List Lane) : forAll ls firstRed s = forAll ls redAlone s := by
  induction ls generalizing s with
  | nil => rfl
  | cons l ls ih =>
    show forAll ls firstRed (firstRed l s) = forAll ls redAlone (redAlone l s)
    rw [firstRed_eq h, ih (redAlone_noGrants h l)]

theorem redsAlone_shown (s : State) (l : Lane) : (forAll allLanes redAlone s).shown l =
    if s.sequenced l = true then ((s.lane l).toRed s.now, s.commands .red (s.head l)) else s.shown l := by
  refine forAllLanes_view (view := fun m t => State.shown t m) (g := fun m x =>
    if s.sequenced m = true then (x.1.toRed s.now, s.commands .red x.2) else x) redAlone_only (fun m t ht => ?_)
    (fun m k t hk => ?_) l
  · rw [shown_redAlone, ht.sequenced, ht.now, commands_congr ht.now (ht.same .desc)]
    simp only [true_and]
    rfl
  · rw [shown_redAlone, if_neg (fun h => hk h.1)]

/-! ### What all take at the entry (R24, R32, R34, R66, R94) -/

/-- The state in METERING before the arbiter leaves SHUT. -/
def meteringTaken (s : State) : State :=
  refreshMonitors (restartStuckOff (takeGoverning (forAll allLanes firstRed (enterSite .metering s))))

theorem enterMetering_eq (s : State) : enterMetering s = raise .site (syncSign (leaveShutIfOpen (meteringTaken s))) := rfl

/-- What the entry to METERING leaves before the arbiter leaves SHUT. -/
structure MeteringTaken (s u : State) : Prop where
  only : Only [.site, .lanes, .lamps, .arb, .handoffs, .chans, .monitors] s u
  site : u.site = SiteCtl.at .metering
  reds : ∀ l, s.sequenced l = true →
    u.lane l = { (s.lane l).toRed s.now with gov := s.topGov } ∧ (u.head l).shows .red
  others : ∀ l, s.sequenced l = false → u.lane l = { s.lane l with gov := s.topGov }
  chans : ∀ c, u.chan c = { s.chan c with sinceActuation := 0 }
  follow : MonitorsFollow s u
  arb : u.arb = { s.arb with gov := s.topGov }
  handoffs : u.handoffs = s.handoffs.filter (fun h => !isAnyGov h)

theorem lane_takeGoverning (s : State) (l : Lane) : (takeGoverning s).lane l = { s.lane l with gov := s.topGov } :=
  Quad.get_map _ _ l

theorem topGov_of_only {bs : List Part} {s t : State} (h : Only bs s t) (he : Part.entries ∉ bs := by decide) :
    t.topGov = s.topGov := by
  have e : t.ovr.entries = s.ovr.entries := h _ he
  simp only [State.topGov, e]

theorem meteringTaken_parts {s : State} (h : s.NoGrants) : MeteringTaken s (meteringTaken s) := by
  unfold meteringTaken
  have hn : (enterSite .metering s).NoGrants := h
  rw [firstReds_eq hn]
  have kv : Only [.lanes, .lamps] (enterSite .metering s) (forAll allLanes redAlone (enterSite .metering s)) :=
    Only.forAll redAlone_only allLanes _
  have shown := redsAlone_shown (enterSite .metering s)
  generalize forAll allLanes redAlone (enterSite .metering s) = v at kv shown
  have kg := takeGoverning_only v
  have kr := restartStuckOff_only (takeGoverning v)
  have km := refreshMonitors_only (restartStuckOff (takeGoverning v))
  have all : Only [.site, .lanes, .lamps, .arb, .handoffs, .chans, .monitors] s
      (refreshMonitors (restartStuckOff (takeGoverning v))) :=
    (((((enterSite_only .metering s).mono).step kv).step kg).step kr).step km
  have hgov : v.topGov = s.topGov := topGov_of_only (s := enterSite .metering s) kv
  have hlane : ∀ l, (refreshMonitors (restartStuckOff (takeGoverning v))).lane l = { v.lane l with gov := s.topGov } :=
    fun l => (lane_takeGoverning v l).trans (by rw [hgov])
  have harb : v.arb = s.arb := kv.same .arb
  have hsite : v.site = SiteCtl.at .metering := kv.same .site
  have hhand : v.handoffs = s.handoffs := kv.same .handoffs
  have hmon : v.det.queue = s.det.queue ∧ v.det.spill = s.det.spill := kv.same .monitors
  have hchan : ∀ c, v.chan c = s.chan c := fun c => by simp only [State.chan, kv.det]; rfl
  refine ⟨all, hsite, fun l hl => ?_, fun l hl => ?_, fun c => ?_, ?_, ?_, ?_⟩
  · have k := shown l
    rw [if_pos (show (enterSite .metering s).sequenced l = true from hl)] at k
    refine ⟨(hlane l).trans (by rw [shown_lane_eq k]; rfl), ?_⟩
    show (v.head l).shows .red
    rw [shown_head_eq k]
    exact commands_shows _ _ _
  · have k := shown l
    rw [if_neg (by simp [show (enterSite .metering s).sequenced l = false from hl])] at k
    exact (hlane l).trans (by rw [shown_lane k]; rfl)
  · have e : (refreshMonitors (restartStuckOff (takeGoverning v))).chan c = { v.chan c with sinceActuation := 0 } :=
      Bank.at_mapAll _ _ c
    rw [e, hchan c]
  · exact (refreshMonitors_follow _).from hmon.1 hmon.2
  · show ({ v.arb with gov := v.topGov } : Arbiter) = _
    rw [harb, hgov]
  · show v.handoffs.filter (fun h => !isAnyGov h) = _
    rw [hhand]

/-! ### Leaving SHUT (R94) -/

/-- The arbiter of an open release at its start: credits refilled, nothing counted, nothing armed, the hold derived. -/
def openedArb (s : State) : State :=
  deriveHold ((refillCredits s).modArb (fun a => { a with prioCount := 0, armed := none, elapsed := 0, expired := true }))

theorem leaveShut_eq (s : State) : leaveShut s = settleRequests (settle (openedArb s)) := rfl

theorem openedArb_only (s : State) : Only [.arb] s (openedArb s) :=
  ((refillCredits_only s).step (modArb_only _ _)).step (deriveHold_only _)

theorem settle_arb (s : State) : (settle s).arb =
    { s.arb with own := s.settledOwn, owner := if s.settledOwn = .held then s.arb.holdLane else none } := by
  unfold settle
  dsimp only
  split <;> rfl

theorem settle_laneCounts (s : State) : (settle s).log.lanes = s.log.lanes := by
  unfold settle
  dsimp only
  split <;> rfl

theorem HoldDerived.congr {s t : State} (h : HoldDerived s) (hr : t.arb.reservation = s.arb.reservation)
    (hc : t.arb.holdCause = s.arb.holdCause) (hl : t.arb.holdLane = s.arb.holdLane) (hg : t.arb.gov = s.arb.gov)
    (hd : t.desc = s.desc) (hs : t.site = s.site) : HoldDerived t := by
  unfold HoldDerived at h ⊢
  rw [hr, hc, hl, hg, hd, hs]
  exact h

theorem SettledFrom.from {r s t : State} (h : SettledFrom s t) (ho : s.arb.own = r.arb.own) (hl : s.log = r.log) :
    SettledFrom r t := by
  unfold SettledFrom at h ⊢
  rw [ho, hl] at h
  exact h

theorem SettledFrom.congr {s t u : State} (h : SettledFrom s t) (ha : u.arb = t.arb) (hd : u.det = t.det)
    (hl : u.log = t.log) : SettledFrom s u := by
  unfold SettledFrom at h ⊢
  rw [ha, hd, hl]
  exact h

theorem weight_of_plans {s t : State} (h : t.plans = s.plans) (l : Lane) : t.weight l = s.weight l := by
  have e : t.slot = s.slot := by
    funext i
    simp only [State.slot, h]
  simp only [State.weight, State.activePlan, h, e]

/-- What the arbiter's way out of SHUT leaves (R94). -/
structure LeftShut (s t : State) : Prop where
  gov : t.arb.gov = s.arb.gov
  opened : t.arb.own ≠ .shut
  expired : t.arb.expired = true
  armed : t.arb.armed = none
  elapsed : t.arb.elapsed = 0
  prioCount : t.arb.prioCount = 0
  hold : HoldDerived t
  settled : SettledFrom s t
  laneCounts : t.log.lanes = s.log.lanes
  credits : ∀ l, s.desc.priority ≠ some l → t.arb.credit.get l = s.weight l

theorem leaveShut_left (s : State) : LeftShut s (leaveShut s) := by
  have ko := openedArb_only s
  have hold : HoldDerived (openedArb s) := deriveHold_holdDerived _
  have hcredit : ∀ l, s.desc.priority ≠ some l → (openedArb s).arb.credit.get l = s.weight l := fun l hl =>
    (Quad.get_tab _ l).trans (if_neg hl)
  have kept : (openedArb s).arb.own = s.arb.own ∧ (openedArb s).arb.gov = s.arb.gov ∧
      (openedArb s).arb.expired = true ∧ (openedArb s).arb.armed = none ∧ (openedArb s).arb.elapsed = 0 ∧
      (openedArb s).arb.prioCount = 0 := ⟨rfl, rfl, rfl, rfl, rfl, rfl⟩
  have hopen := leaveShut_open s
  rw [leaveShut_eq] at hopen ⊢
  generalize openedArb s = o at ko hold hcredit kept hopen
  obtain ⟨hown, hgov, hexpired, harmed, helapsed, hcount⟩ := kept
  have kq := settleRequests_only (settle o)
  have ks := settle_only o
  have ha : (settleRequests (settle o)).arb = (settle o).arb := kq.same .arb
  have he := settle_arb o
  have kt : Only [.arb, .counts, .handoffs] o (settleRequests (settle o)) := ks.mono.step kq
  refine ⟨?_, hopen, ?_, ?_, ?_, ?_, ?_, ?_, ?_, fun l hl => ?_⟩
  · rw [ha, he]; exact hgov
  · rw [ha, he]; exact hexpired
  · rw [ha, he]; exact harmed
  · rw [ha, he]; exact helapsed
  · rw [ha, he]; exact hcount
  · exact hold.congr (by rw [ha, he]) (by rw [ha, he]) (by rw [ha, he]) (by rw [ha, he]) (kt.same .desc) (kt.same .site)
  · exact ((settle_settledFrom o).congr ha kq.det kq.log).from hown ko.log
  · rw [kq.log, settle_laneCounts, ko.log]
  · rw [ha, he]; exact hcredit l hl

theorem leaveShut_asked (s : State) : Asked s.handoffs (leaveShut s) := by
  have h : (settle (openedArb s)).handoffs = s.handoffs :=
    ((openedArb_only s).mono (cs := [.arb, .counts])).step (settle_only _) |>.same .handoffs
  rw [leaveShut_eq, ← h]
  exact settleRequests_asked _

/-! ### The sign and the SITE notice -/

/-- The sign and the notices are no part of what the arbiter and the lanes rest on. -/
theorem LeftShut.announced {s t : State} (h : LeftShut s t) : LeftShut s (raise .site (syncSign t)) := by
  have k : Only [.lamps, .notices] t (raise .site (syncSign t)) := (syncSign_only t).mono.step (raise_only _ _)
  generalize raise .site (syncSign t) = u at k
  have ha : u.arb = t.arb := k.same .arb
  exact ⟨ha ▸ h.gov, ha ▸ h.opened, ha ▸ h.expired, ha ▸ h.armed, ha ▸ h.elapsed, ha ▸ h.prioCount,
    h.hold.congr (by rw [ha]) (by rw [ha]) (by rw [ha]) (by rw [ha]) (k.same .desc) (k.same .site),
    h.settled.congr ha k.det k.log, k.log ▸ h.laneCounts, ha ▸ h.credits⟩

theorem asked_announced {hs : List Handoff} {t : State} (h : Asked hs t) : Asked hs (raise .site (syncSign t)) := by
  unfold syncSign
  dsimp only
  split <;> exact h

/-! ### The warning expiry -/

theorem warningIn_due {s : State} {t0 : Nat} (hs : s.site.state = .starting) (ht : s.site.warningAt = some t0)
    (hd : t0 ≤ s.now) : s.warningIn = some 0 := by
  simp [State.warningIn, hs, ht, State.until, hd]

/-- Settles O40: what all take, then the arbiter by the entry that governs, then the sign and the notice. -/
theorem theWarningEndsInMetering : Obligations.TheWarningEndsInMetering := by
  intro s t0 hr hs ht hd hn
  have hx : exec .warningExpiry s = .next (enterMetering s) := timed_now hr (warningIn_due hs ht hd)
  rw [hx, enterMetering_eq]
  have k := meteringTaken_parts hn
  generalize meteringTaken s = u at k
  have kl := leaveShutIfOpen_only u
  have hgov : u.arb.gov = s.topGov := by rw [k.arb]
  have shut : govShuts s.topGov = true → leaveShutIfOpen u = u := fun h => if_pos (by rw [hgov]; exact h)
  have opened : govShuts s.topGov = false → leaveShutIfOpen u = leaveShut u := fun h => if_neg (by rw [hgov, h]; decide)
  generalize leaveShutIfOpen u = v at kl shut opened
  have ka : Only [.lamps, .notices] v (raise .site (syncSign v)) := (syncSign_only v).mono.step (raise_only _ _)
  have kt : Only [.arb, .counts, .handoffs, .lamps, .notices] u (raise .site (syncSign v)) := kl.mono.step ka
  have hall : Only [.site, .chans, .monitors, .lanes, .lamps, .arb, .counts, .notices, .handoffs] s
      (raise .site (syncSign v)) := k.only.mono.step kt
  obtain ⟨hheads, hsign⟩ := syncSign_lamps v
  have hlane : ∀ l, (raise .site (syncSign v)).lane l = u.lane l := lane_of_lanes (kt.same .lanes)
  have hhead : ∀ l, (raise .site (syncSign v)).head l = u.head l := fun l => by
    have e : (raise .site (syncSign v)).lamps.heads = u.lamps.heads :=
      hheads.trans (congrArg LampMon.heads (kl.same .lamps))
    simp only [State.head, e]
  have hsite : v.site = SiteCtl.at .metering := Eq.trans (kl.same .site) k.site
  have htop : v.topGov = s.topGov := Eq.trans (topGov_of_only kl) (topGov_of_only k.only)
  have hnot : (raise .site (syncSign v)).link.notices = s.link.notices ||| Notice.site.bit := by
    have e : v.link.notices = s.link.notices := Eq.trans (kl.same .notices) (k.only.same .notices)
    rw [← e]
    exact congrArg (· ||| Notice.site.bit) ((syncSign_only v).same .notices)
  have hvgov : v.arb.gov = s.topGov := by
    cases h : govShuts s.topGov with
    | true => rw [shut h, hgov]
    | false => rw [opened h, (leaveShut_left u).gov, hgov]
  have hs' : (raise .site (syncSign v)).site = u.site := kt.same .site
  refine ⟨_, rfl, hall, Eq.trans hs' k.site, hnot, fun l hl => ?_, fun l hl => ?_, ?_, fun c => ?_,
    k.follow.congr kt.det hs' (kt.same .desc) kt.now, ?_, fun h => ?_, fun h => ?_⟩
  · rw [hlane, hhead]
    exact k.reds l hl
  · rw [hlane]
    exact k.others l hl
  · refine Eq.trans hsign ?_
    rw [hsite, htop]
    rfl
  · rw [← k.chans c]
    simp only [State.chan, kt.det]
  · have harb : (raise .site (syncSign v)).arb = v.arb := ka.same .arb
    rw [harb, hvgov]
  · have e := shut h
    subst e
    have harb : (raise .site (syncSign v)).arb = v.arb := ka.same .arb
    have hhand : (raise .site (syncSign v)).handoffs = v.handoffs := ka.same .handoffs
    exact ⟨harb.trans k.arb, ka.log.trans k.only.log, hhand.trans k.handoffs⟩
  · have e := opened h
    subst e
    have a := (leaveShut_left u).announced
    have hown : u.arb.own = s.arb.own := by rw [k.arb]
    have hdesc : u.desc = s.desc := k.only.same .desc
    refine ⟨a.opened, a.expired, a.armed, a.hold, a.settled.from hown k.only.log, a.laneCounts.trans (by rw [k.only.log]),
      k.handoffs ▸ asked_announced (leaveShut_asked u), a.elapsed, a.prioCount, fun l hl => ?_⟩
    rw [a.credits l (by rw [hdesc]; exact hl), weight_of_plans (k.only.same .plans)]

end Sys2Proof.Machine
end

section
/-! PROOFS. STOP-METERING, the entry to STOPPING lane by lane, and the stop flush (R45, R46, R47). -/

namespace Sys2Proof.Machine

set_option Elab.async false

/-! ### The return to DARK from STARTING and STOPPING (R45, R47, R64) -/

theorem shownOffs_shown (s : State) (l : Lane) : (forAll allLanes shownOff s).shown l =
    if (s.lane l).state = .off then s.shown l else ((s.lane l).toOff s.now, s.commands .off (s.head l)) := by
  refine (forAllLanes_view (view := fun m t => State.shown t m) (g := fun _ x =>
    if x.1.state = .off then x else (x.1.toOff s.now, s.commands .off x.2)) shownOff_only (fun m t ht => ?_)
    (fun m k t hk => ?_) l)
  · have h := shown_offLane t m m
    rw [if_pos rfl, ht.now, commands_congr ht.now (ht.same .desc)] at h
    unfold shownOff
    by_cases ho : (t.lane m).state = .off
    · simp [State.shown, ho]
    · rw [if_neg ho, h]
      exact (if_neg ho).symm
  · unfold shownOff
    split
    · rfl
    · rw [shown_offLane, if_neg hk]

/-- What the return to DARK leaves of the site, the notices, the sign and the lanes. -/
structure Finished (s t : State) : Prop where
  site : t.site = SiteCtl.at .dark
  notices : t.link.notices = s.link.notices ||| Notice.site.bit
  sign : t.lamps.sign = .off
  shown : ∀ l, (s.lane l).state ≠ .off → t.lane l = (s.lane l).toOff s.now ∧ (t.head l).shows .off
  off : ∀ l, (s.lane l).state = .off → t.lane l = s.lane l

theorem finishToDark_finished (s : State) : Finished s (finishToDark s) := by
  have shown := shownOffs_shown s
  have ko : Only [.lanes, .lamps] s (forAll allLanes shownOff s) := Only.forAll shownOff_only allLanes s
  unfold finishToDark
  generalize forAll allLanes shownOff s = u at shown ko
  have hlane : ∀ l, (enterDark u).lane l = u.lane l := lane_of_lanes ((enterDark_only u).same .lanes)
  have hhead : ∀ l, (enterDark u).head l = u.head l := fun l => by simp only [State.head, enterDark_heads]
  refine ⟨enterDark_site u, ?_, enterDark_sign u, fun l hl => ?_, fun l hl => ?_⟩
  · rw [enterDark_link, ko.link]
  · have k := shown l
    rw [if_neg hl] at k
    rw [hlane, hhead, shown_lane_eq k, shown_head_eq k]
    exact ⟨rfl, commands_shows _ _ _⟩
  · have k := shown l
    rw [if_pos hl] at k
    rw [hlane, shown_lane k]

/-! ### One lane as the site enters STOPPING (R46, R60, R63) -/

/-- A red whose min_red has elapsed opens. -/
def LaneRec.redReady (r : LaneRec) : Bool := r.state == .red && r.minRed

/-- The record of a lane as the site enters STOPPING: a green and a ready red are OPEN. -/
def LaneRec.stopped (now : Nat) (r : LaneRec) : LaneRec :=
  if r.state = .green then { r with state := .opened, entryAt := now, grant := none, size := none, greenFor := none }
  else if r.redReady then r.toOpen now
  else r

/-- What a lane in STOPPING hands on as its green ends. -/
def LaneRec.stopEnds (l : Lane) (r : LaneRec) : List Handoff := if r.state = .green then r.releaseEnds l else []

/-- What a lane shows as the site enters STOPPING: only a ready red commands its head. -/
def State.stops (s : State) (x : LaneRec × Head) : LaneRec × Head :=
  (x.1.stopped s.now, if x.1.redReady then s.commands .opened x.2 else x.2)

/-- In STOPPING and out of the queue: what a lane's way to OPEN rests on. -/
structure InStopping (s : State) : Prop where
  state : s.site.state = .stopping
  unqueued : ∀ l, (s.lane l).inQueue = false

theorem redReady_iff (r : LaneRec) : r.redReady = true ↔ r.state = .red ∧ r.minRed = true := by
  simp [LaneRec.redReady]

/-- In STOPPING a lane out of the queue asks nothing. -/
theorem settleRequest_stopping {s : State} (h : InStopping s) (l : Lane) : settleRequest l s = s := by
  have hr : s.wantsRequest l = false := by simp [State.wantsRequest, State.metering, h.state]
  have hw : s.wantsWithdrawal l = false := by simp [State.wantsWithdrawal, h.unqueued]
  simp [settleRequest, hr, hw]

theorem settleRed_stopping {s : State} (h : InStopping s) {l : Lane} (hr : (s.lane l).state = .red) :
    settleRed l s = if (s.lane l).redReady then armStopFlush (redToOpen l s) else s := by
  have e : s.redOpens l = (s.lane l).redReady := by
    simp [State.redOpens, LaneRec.redReady, h.state, h.unqueued, hr]
  unfold settleRed
  rw [e, settleRequest_stopping h]

/-- A lane as the site enters STOPPING: a green opens, a ready red opens, and any other lane stands. -/
inductive Stops (l : Lane) (s : State) : State → Prop
  | green : (s.lane l).state = .green → Stops l s (greenToOpen l s)
  | red : (s.lane l).state ≠ .green → (s.lane l).redReady = true → Stops l s (armStopFlush (redToOpen l s))
  | stands : (s.lane l).state ≠ .green → (s.lane l).redReady = false → Stops l s s

theorem makeForOpen_stops {s : State} (h : InStopping s) (l : Lane) : Stops l s (makeForOpen l s) := by
  unfold makeForOpen
  split
  · next hg => exact .green hg
  · next hr =>
    rw [settleRed_stopping h hr]
    split
    · next hm => exact .red (by simp [hr]) hm
    · next hm => exact .stands (by simp [hr]) (by simpa using hm)
  all_goals next hs => exact .stands (by simp [hs]) (by simp [LaneRec.redReady, hs])

theorem greenToOpen_lamps (l : Lane) (s : State) : (greenToOpen l s).lamps = s.lamps :=
  (((modLane_only s l _).mono (cs := .lanes :: endParts)).step (endRelease_only l _)).step (modLane_only _ l _)
    |>.same .lamps

theorem armStopFlush_shown (s : State) (l : Lane) : (armStopFlush s).shown l = s.shown l := by
  unfold armStopFlush
  split <;> rfl

/-- A lane's turn changes what it shows and what no other lane shows. -/
theorem Stops.shown {l : Lane} {s t : State} (h : Stops l s t) (m : Lane) :
    t.shown m = if m = l then s.stops (s.shown l) else s.shown m := by
  cases h with
  | green hg =>
    have hn : (s.lane l).redReady = false := by simp [LaneRec.redReady, hg]
    simp only [State.shown, State.head, greenToOpen_lamps, greenToOpen_lane, State.stops, LaneRec.stopped, if_pos hg, hn]
    by_cases hm : m = l <;> simp [hm]
  | red hg hr =>
    have k : (redToOpen l s).shown m =
        if m = l then ((s.lane l).toOpen s.now, s.commands .opened (s.head l)) else s.shown m :=
      shown_enterState s l m .opened _
    rw [armStopFlush_shown, k]
    simp only [State.stops, State.shown, LaneRec.stopped, if_neg hg, hr, if_true]
  | stands hg hr =>
    have e : s.stops (s.shown l) = s.shown l := by
      simp [State.stops, State.shown, LaneRec.stopped, hg, hr]
    rw [e]
    split
    · next hm => rw [hm]
    · rfl

/-- What the lanes' ways to OPEN can change. -/
abbrev openParts : List Part := [.site, .lanes, .lamps, .records, .counts, .notices, .stream, .handoffs]

theorem Stops.only {l : Lane} {s t : State} (h : Stops l s t) : Only openParts s t := by
  cases h with
  | green => exact (greenToOpen_only l s).mono
  | red => exact ((redToOpen_only l s).mono (cs := openParts)).step (armStopFlush_only _)
  | stands => exact Only.refl _ s

theorem Stops.state {l : Lane} {s t : State} (h : Stops l s t) : t.site.state = s.site.state := by
  cases h with
  | green => exact congrArg SiteCtl.state ((greenToOpen_only l s).same .site)
  | red =>
    rw [armStopFlush_state]
    exact congrArg SiteCtl.state ((redToOpen_only l s).same .site)
  | stands => rfl

theorem stopped_inQueue (now : Nat) (r : LaneRec) : (r.stopped now).inQueue = r.inQueue := by
  unfold LaneRec.stopped LaneRec.toOpen
  split
  · rfl
  · split <;> rfl

theorem Stops.lane {l : Lane} {s t : State} (h : Stops l s t) (m : Lane) :
    t.lane m = if m = l then (s.lane l).stopped s.now else s.lane m := by
  have k := congrArg Prod.fst (h.shown m)
  by_cases hm : m = l
  · rw [if_pos hm] at k ⊢
    exact k
  · rw [if_neg hm] at k ⊢
    exact k

theorem Stops.inStopping {l : Lane} {s t : State} (h : Stops l s t) (k : InStopping s) : InStopping t where
  state := h.state.trans k.state
  unqueued m := by
    rw [h.lane]
    split
    · rw [stopped_inQueue, k.unqueued]
    · exact k.unqueued m

theorem isAsking_releaseEnds {h : Handoff} {l : Lane} {r : LaneRec} (m : Lane) (hh : h ∈ r.releaseEnds l) :
    isAsking m h = false := by
  unfold LaneRec.releaseEnds at hh
  split at hh
  · rw [List.mem_singleton.1 hh]
    rfl
  · simp at hh

/-- A lane's turn takes back the request of a red that opens and hands on the release end of a green. -/
theorem Stops.handoffs {l : Lane} {s t : State} (h : Stops l s t) : t.handoffs =
    s.handoffs.filter (fun x => !((s.lane l).redReady && isAsking l x)) ++ (s.lane l).stopEnds l := by
  cases h with
  | green hg =>
    have hn : (s.lane l).redReady = false := by simp [LaneRec.redReady, hg]
    simp [greenToOpen_handoffs, LaneRec.stopEnds, hg, hn]
  | red hg hr =>
    have k : (armStopFlush (redToOpen l s)).handoffs = (redToOpen l s).handoffs := (armStopFlush_only _).same .handoffs
    rw [k]
    simp only [LaneRec.stopEnds, if_neg hg, hr, Bool.true_and, List.append_nil]
    rfl
  | stands hg hr => simp [LaneRec.stopEnds, hg, hr]

/-- A lane that ends no cut release leaves the log and the link. -/
theorem Stops.uncut {l : Lane} {s t : State} (h : Stops l s t) (hc : (s.lane l).state = .green → (s.lane l).cut = false) :
    t.log = s.log ∧ t.link = s.link := by
  cases h with
  | green hg => exact (greenToOpen_cutWritten l s).1 (hc hg)
  | red =>
    have k := ((redToOpen_only l s).mono (cs := [.lanes, .lamps, .handoffs, .site])).step (armStopFlush_only _)
    exact ⟨k.log, k.link⟩
  | stands => exact ⟨rfl, rfl⟩

theorem Stops.cutWritten {l : Lane} {s t : State} (h : Stops l s t) (hg : (s.lane l).state = .green) :
    CutWritten l s t := by
  cases h with
  | green => exact greenToOpen_cutWritten l s
  | red hn => exact absurd hg hn
  | stands hn => exact absurd hg hn

/-! ### The stop-flush timer (R47) -/

/-- The stop-flush timer runs where every sequenced lane is OPEN, if it runs. -/
def FlushSound (s : State) : Prop :=
  ∃ o, s.site = { SiteCtl.at .stopping with stopFlushAt := o } ∧
    (o = none ∨ (s.allOpen = true ∧ o = some (s.now + s.par .stopFlush)))

theorem allOpen_iff (s : State) : s.allOpen = true ↔ ∀ l, s.sequenced l = true → (s.lane l).state = .opened := by
  simp only [State.allOpen, List.all_eq_true, mem_allLanes, true_implies, Bool.or_eq_true, Bool.not_eq_true', beq_iff_eq]
  exact forall_congr' fun l => by cases s.sequenced l <;> simp

/-- Arming the timer arms it where every sequenced lane is OPEN. -/
theorem armStopFlush_armed {s : State} (h : FlushSound s) : (armStopFlush s).site =
    { SiteCtl.at .stopping with stopFlushAt := if s.allOpen then some (s.now + s.par .stopFlush) else none } := by
  obtain ⟨o, hs, ho⟩ := h
  unfold armStopFlush
  rcases ho with rfl | ⟨ha, rfl⟩
  · cases ha : s.allOpen <;> simp [hs, SiteCtl.at]
  · simp [hs, ha]

theorem armStopFlush_sound {s : State} (h : FlushSound s) : FlushSound (armStopFlush s) := by
  have k := armStopFlush_only s
  have ha : (armStopFlush s).allOpen = s.allOpen := by
    unfold armStopFlush
    split <;> rfl
  refine ⟨_, armStopFlush_armed h, ?_⟩
  rw [ha, k.now, k.par]
  cases s.allOpen <;> simp

/-- The timer is sound under what leaves the site, the clock and the parameters and shuts no OPEN lane. -/
theorem FlushSound.congr {bs : List Part} {s t : State} (h : FlushSound s) (k : Only bs s t)
    (hl : ∀ l, (s.lane l).state = .opened → (t.lane l).state = .opened) (hs : Part.site ∉ bs := by decide)
    (hd : Part.desc ∉ bs := by decide) (he : Part.env ∉ bs := by decide) : FlushSound t := by
  obtain ⟨o, ho, hor⟩ := h
  have e : t.site = s.site := k _ hs
  refine ⟨o, e.trans ho, hor.imp id fun ⟨ha, hn⟩ => ⟨?_, by rw [k.now he, k.par _ hd, hn]⟩⟩
  rw [allOpen_iff] at ha ⊢
  exact fun l hq => hl l (ha l (by rw [← k.sequenced l hd]; exact hq))

theorem stopped_opened {now : Nat} {r : LaneRec} (h : r.state = .opened) : (r.stopped now).state = .opened := by
  simp [LaneRec.stopped, LaneRec.redReady, h]

theorem Stops.flushSound {l : Lane} {s t : State} (h : Stops l s t) (k : FlushSound s) : FlushSound t := by
  have hl : ∀ m, (s.lane m).state = .opened → (t.lane m).state = .opened := fun m hm => by
    rw [h.lane]
    split
    · next e => exact stopped_opened (e ▸ hm)
    · exact hm
  cases h with
  | green => exact k.congr (greenToOpen_only l s) hl
  | red =>
    refine armStopFlush_sound (k.congr (redToOpen_only l s) fun m hm => ?_)
    have e : (armStopFlush (redToOpen l s)).lanes = (redToOpen l s).lanes := (armStopFlush_only _).same .lanes
    rw [← lane_of_lanes e]
    exact hl m hm
  | stands => exact k

/-! ### The four lanes in turn -/

theorem makeForOpens_inStopping (ls : List Lane) {s : State} (h : InStopping s) : InStopping (forAll ls makeForOpen s) :=
  forAll_keeps (P := InStopping) (fun l _ k => (makeForOpen_stops k l).inStopping k) ls h

theorem makeForOpens_only (ls : List Lane) {s : State} (h : InStopping s) :
    Only openParts s (forAll ls makeForOpen s) := by
  suffices k : InStopping (forAll ls makeForOpen s) ∧ Only openParts s (forAll ls makeForOpen s) from k.2
  exact forAll_keeps (P := fun t => InStopping t ∧ Only openParts s t)
    (fun l _ ⟨k, ho⟩ => ⟨(makeForOpen_stops k l).inStopping k, ho.andThen (makeForOpen_stops k l).only⟩) ls
    ⟨h, Only.refl _ s⟩

theorem makeForOpens_flushSound (ls : List Lane) {s : State} (h : InStopping s) (hf : FlushSound s) :
    FlushSound (forAll ls makeForOpen s) := by
  suffices k : InStopping (forAll ls makeForOpen s) ∧ FlushSound (forAll ls makeForOpen s) from k.2
  exact forAll_keeps (P := fun t => InStopping t ∧ FlushSound t)
    (fun l _ ⟨k, ho⟩ => ⟨(makeForOpen_stops k l).inStopping k, (makeForOpen_stops k l).flushSound ho⟩) ls ⟨h, hf⟩

theorem stops_congr {s t : State} (hn : t.now = s.now) (hd : t.desc = s.desc) : t.stops = s.stops := by
  funext x
  simp only [State.stops, hn, commands_congr hn hd]

theorem makeForOpens_shown {s : State} (h : InStopping s) (l : Lane) :
    (forAll allLanes makeForOpen s).shown l = s.stops (s.shown l) := by
  have k := forAll_viewWhere (f := makeForOpen) (view := fun m t => State.shown t m) (g := fun _ => s.stops)
    (P := fun t => InStopping t ∧ Only openParts s t) (ls := allLanes)
    (fun l _ ⟨k, ho⟩ => ⟨(makeForOpen_stops k l).inStopping k, ho.andThen (makeForOpen_stops k l).only⟩)
    (fun m t ⟨k, ho⟩ => ?_) (fun m n t ⟨k, _⟩ hn => ?_) (by decide) ⟨h, Only.refl _ s⟩ l
  · exact k.trans (if_pos (mem_allLanes l))
  · rw [(makeForOpen_stops k m).shown, if_pos rfl, stops_congr ho.now (ho.same .desc)]
  · rw [(makeForOpen_stops k m).shown, if_neg hn]

/-- A request of a red that opens is taken back, whoever's turn it is; the greens' release ends follow in lane order. -/
theorem makeForOpens_handoffs {ls : List Lane} (hn : ls.Nodup) {s : State} (h : InStopping s) :
    (forAll ls makeForOpen s).handoffs =
      s.handoffs.filter (fun x => ls.all (fun l => !((s.lane l).redReady && isAsking l x))) ++
        ls.flatMap (fun l => (s.lane l).stopEnds l) := by
  induction ls generalizing s with
  | nil => simp [forAll]
  | cons l ls ih =>
    obtain ⟨hl, hls⟩ := List.nodup_cons.1 hn
    have k := makeForOpen_stops h l
    have other : ∀ m ∈ ls, (makeForOpen l s).lane m = s.lane m := fun m hm => by
      rw [k.lane, if_neg (ne_of_mem_of_not_mem hm hl)]
    have hfilter : ∀ x, ls.all (fun m => !(((makeForOpen l s).lane m).redReady && isAsking m x)) =
        ls.all (fun m => !((s.lane m).redReady && isAsking m x)) := fun x => by
      rw [Bool.eq_iff_iff, List.all_eq_true, List.all_eq_true]
      exact forall₂_congr fun m hm => by rw [other m hm]
    have hends : ls.flatMap (fun m => ((makeForOpen l s).lane m).stopEnds m) =
        ls.flatMap (fun m => (s.lane m).stopEnds m) :=
      List.flatMap_congr fun m hm => by rw [other m hm]
    have hown : ((s.lane l).stopEnds l).filter (fun x => ls.all (fun m => !((s.lane m).redReady && isAsking m x))) =
        (s.lane l).stopEnds l := by
      refine List.filter_eq_self.2 fun x hx => List.all_eq_true.2 fun m _ => ?_
      have ha : isAsking m x = false := by
        unfold LaneRec.stopEnds at hx
        split at hx
        · exact isAsking_releaseEnds m hx
        · simp at hx
      simp [ha]
    show (forAll ls makeForOpen (makeForOpen l s)).handoffs = _
    rw [ih hls (k.inStopping h), hends, k.handoffs]
    simp only [hfilter]
    rw [List.filter_append, hown, List.filter_filter]
    simp [Bool.and_comm]

/-- Greens that are not cut leave the log and the link. -/
theorem makeForOpens_uncut {ls : List Lane} (hn : ls.Nodup) {s : State} (h : InStopping s)
    (hc : ∀ l ∈ ls, (s.lane l).state = .green → (s.lane l).cut = false) :
    (forAll ls makeForOpen s).log = s.log ∧ (forAll ls makeForOpen s).link = s.link := by
  induction ls generalizing s with
  | nil => exact ⟨rfl, rfl⟩
  | cons l ls ih =>
    obtain ⟨hl, hls⟩ := List.nodup_cons.1 hn
    have k := makeForOpen_stops h l
    obtain ⟨hlog, hlink⟩ := k.uncut (hc l List.mem_cons_self)
    obtain ⟨h1, h2⟩ := ih hls (k.inStopping h) fun m hm => by
      rw [k.lane, if_neg (ne_of_mem_of_not_mem hm hl)]
      exact hc m (List.mem_cons_of_mem _ hm)
    exact ⟨h1.trans hlog, h2.trans hlink⟩

/-- The record of a cut rests on the lane's release, the channels, the active slot and site time. -/
theorem cutRecord_congr {bs : List Part} {s t : State} (k : Only bs s t) {l : Lane}
    (hg : (t.lane l).grant = (s.lane l).grant) (hz : (t.lane l).size = (s.lane l).size)
    (hp : (t.lane l).passages = (s.lane l).passages) (he : Part.env ∉ bs := by decide) (hc : Part.chans ∉ bs := by decide)
    (hl : Part.plans ∉ bs := by decide) : t.cutRecord l = s.cutRecord l := by
  have e1 : t.siteTime = s.siteTime := (k _ he).2.2.1
  have e2 : t.det.chans = s.det.chans := k _ hc
  have e3 : t.plans = s.plans := k _ hl
  have e4 : t.goodStop l = s.goodStop l := goodStop_congr (fun d => by simp [State.chan, e2]) l
  simp only [State.cutRecord, e1, e3, e4, hg, hz, hp]

/-- The one cut green writes its record. -/
theorem makeForOpens_cutWritten {ls : List Lane} (hn : ls.Nodup) {s : State} (h : InStopping s) {l : Lane} (hm : l ∈ ls)
    (hg : (s.lane l).state = .green)
    (hc : ∀ m ∈ ls, m ≠ l → (s.lane m).state = .green → (s.lane m).cut = false) :
    CutWritten l s (forAll ls makeForOpen s) := by
  induction ls generalizing s with
  | nil => simp at hm
  | cons x ls ih =>
    obtain ⟨hx, hls⟩ := List.nodup_cons.1 hn
    have k := makeForOpen_stops h x
    have other : ∀ m, m ≠ x → (makeForOpen x s).lane m = s.lane m := fun m hm => by rw [k.lane, if_neg hm]
    show CutWritten l s (forAll ls makeForOpen (makeForOpen x s))
    by_cases e : l = x
    · subst e
      obtain ⟨hlog, hlink⟩ := makeForOpens_uncut hls (k.inStopping h) fun m hm => by
        have hml : m ≠ l := ne_of_mem_of_not_mem hm hx
        rw [other m hml]
        exact hc m (List.mem_cons_of_mem _ hm) hml
      exact (k.cutWritten hg).until hlog hlink
    · have hl : (makeForOpen x s).lane l = s.lane l := other l e
      have hin : l ∈ ls := (List.mem_cons.1 hm).resolve_left e
      have hrest := ih hls (k.inStopping h) hin (by rw [hl]; exact hg) fun m hm hml => by
        rw [other m (ne_of_mem_of_not_mem hm hx)]
        exact hc m (List.mem_cons_of_mem _ hm) hml
      obtain ⟨hlog, hlink⟩ := k.uncut (hc x List.mem_cons_self (Ne.symm e))
      exact hrest.congr (cutRecord_congr k.only (by rw [hl]) (by rw [hl]) (by rw [hl])).symm (by rw [hl]) hlog.symm
        hlink.symm

/-! ### What the site's way out of METERING leaves before the lanes' turns (R32, R93, R143) -/

/-- The site in STOPPING, the monitors reset, the stack without its QUEUE and SPILL entries, the arbiter SHUT. -/
def stopEntry (s : State) : State := enterShut true (leaveMetering (enterSite .stopping s))

theorem enterStopping_eq (s : State) :
    enterStopping s = armStopFlush (syncSign (forAll allLanes makeForOpen (stopEntry s))) := rfl

/-- The entries that stay: the host's and the pre-emption's. -/
def keptEntries (es : List Entry) : List Entry := es.filter (fun e => e.source == .link || e.source == .preempt)

theorem not_automaticFlush (e : Entry) : (!e.automaticFlush) = (e.source == .link || e.source == .preempt) := by
  unfold Entry.automaticFlush
  cases e.source <;> rfl

theorem leaveMetering_eq (s : State) : leaveMetering s = setStack (keptEntries s.ovr.entries) (refreshMonitors s) := by
  unfold leaveMetering dropAutomaticFlushes keptEntries
  simp only [not_automaticFlush]
  rfl

structure StopEntered (s u : State) : Prop where
  only : Only [.site, .monitors, .entries, .notices, .handoffs, .lamps, .arb, .lanes] s u
  site : u.site = SiteCtl.at .stopping
  lane : ∀ l, u.lane l = { s.lane l with inQueue := false }
  head : ∀ l, u.head l = s.head l
  entries : u.ovr.entries = keptEntries s.ovr.entries
  monitors : (∀ l, u.det.queue.get l = Monitor.reset) ∧ u.det.spill = Monitor.reset
  link : u.link = { s.link with notices := s.link.notices ||| overrideBit u.topGov s.topGov }
  handoffs : u.handoffs = s.handoffs ++ govSignals s u

theorem stopEntry_entered (s : State) : StopEntered s (stopEntry s) := by
  have kr : Only [.site, .monitors] s (refreshMonitors (enterSite .stopping s)) :=
    (enterSite_only .stopping s).mono.step (refreshMonitors_only _)
  have reset := refreshMonitors_reset (s := enterSite .stopping s) (by simp [enterSite, SiteCtl.at])
  have rsite : (refreshMonitors (enterSite .stopping s)).site = SiteCtl.at .stopping := rfl
  unfold stopEntry
  rw [leaveMetering_eq, show (enterSite .stopping s).ovr = s.ovr from rfl]
  generalize refreshMonitors (enterSite .stopping s) = r at kr reset rsite
  have rgov : r.topGov = s.topGov := topGov_of_only kr
  have rhead : ∀ l, r.head l = s.head l := fun l => by
    simp only [State.head, show r.lamps = s.lamps from kr.same .lamps]
  have kt := setStack_only (keptEntries s.ovr.entries) r
  have tgov := setStack_topGov (keptEntries s.ovr.entries) r
  have tlink := setStack_link (keptEntries s.ovr.entries) r
  have thand := setStack_handoffs (keptEntries s.ovr.entries) r
  have tlane : ∀ l, (setStack (keptEntries s.ovr.entries) r).lane l = s.lane l :=
    lane_of_lanes ((kr.mono.step kt : Only [.site, .monitors, .entries, .notices, .handoffs, .lamps] s _).same .lanes)
  have thead : ∀ l, (setStack (keptEntries s.ovr.entries) r).head l = s.head l := fun l => by
    rw [← rhead]
    simp only [State.head, setStack_heads]
  have tent := setStack_entries (keptEntries s.ovr.entries) r
  generalize setStack (keptEntries s.ovr.entries) r = t at kt tgov tlink thand tlane thead tent
  have kq : Only [.arb, .lanes] t (enterShut true t) := enterShut_only true t
  refine ⟨(kr.mono.step kt).step kq, ?_, fun l => ?_, thead, tent, ?_, ?_, ?_⟩
  · exact Eq.trans (kt.same .site) rsite
  · rw [← tlane l]
    exact Quad.get_map _ _ l
  · rw [kq.det]
    obtain ⟨hq, hp⟩ := kt.same .monitors
    exact ⟨fun l => by rw [hq]; exact reset.1 l, hp.trans reset.2⟩
  · rw [kq.link, tlink, topGov_of_only kq, tgov, rgov, kr.link]
  · have h : (enterShut true t).handoffs = t.handoffs := kq.same .handoffs
    have hr : r.handoffs = s.handoffs := kr.same .handoffs
    rw [h, thand, hr]
    simp only [govSignals, topGov_of_only kq, rgov]

/-! ### The entry to STOPPING (R46, R47) -/

/-- The entry to STOPPING: `u` is the state before the lanes' turns. -/
structure Stopped (s u t : State) : Prop where
  entered : StopEntered s u
  site : t.site = { SiteCtl.at .stopping with stopFlushAt := if t.allOpen then some (s.now + s.par .stopFlush) else none }
  only : Only (.lamps :: openParts) u t
  sign : t.lamps.sign = .off
  shown : ∀ l, t.shown l = s.stops (u.shown l)
  handoffs : t.handoffs =
    u.handoffs.filter (fun x => allLanes.all (fun l => !((u.lane l).redReady && isAsking l x))) ++
      allLanes.flatMap (fun l => (u.lane l).stopEnds l)
  uncut : (∀ l, (u.lane l).state = .green → (u.lane l).cut = false) → t.log = u.log ∧ t.link = u.link
  cut : ∀ l, (u.lane l).state = .green → (∀ m, m ≠ l → (u.lane m).state = .green → (u.lane m).cut = false) →
    CutWritten l u t

theorem enterStopping_stopped (s : State) : Stopped s (stopEntry s) (enterStopping s) := by
  rw [enterStopping_eq]
  have ku := stopEntry_entered s
  generalize stopEntry s = u at ku
  have hin : InStopping u := ⟨congrArg SiteCtl.state ku.site, fun l => by rw [ku.lane]⟩
  have ko := makeForOpens_only allLanes hin
  have kin := makeForOpens_inStopping allLanes hin
  have kf := makeForOpens_flushSound allLanes hin ⟨none, ku.site, .inl rfl⟩
  have shown := makeForOpens_shown hin
  have hand := makeForOpens_handoffs (ls := allLanes) (by decide) hin
  have uncut := makeForOpens_uncut (ls := allLanes) (by decide) hin
  have cut := fun l => makeForOpens_cutWritten (ls := allLanes) (by decide) hin (mem_allLanes l)
  generalize forAll allLanes makeForOpen u = o at ko kin kf shown hand uncut cut
  have ks := syncSign_only o
  have kfs : FlushSound (syncSign o) := kf.congr ks fun l h => by rw [lane_of_lanes (ks.same .lanes)]; exact h
  have ka := armStopFlush_only (syncSign o)
  have kt : Only [.lamps, .site] o (armStopFlush (syncSign o)) := ks.mono.step ka
  have hsite := armStopFlush_armed kfs
  have hopen : (armStopFlush (syncSign o)).allOpen = (syncSign o).allOpen := by
    unfold armStopFlush
    split <;> rfl
  have hheads : (armStopFlush (syncSign o)).lamps.heads = o.lamps.heads :=
    Eq.trans (congrArg LampMon.heads (ka.same .lamps)) (syncSign_lamps o).1
  have hshown : ∀ l, (armStopFlush (syncSign o)).shown l = o.shown l := fun l => by
    simp only [State.shown, State.lane, State.head, hheads, show (armStopFlush (syncSign o)).lanes = o.lanes from
      kt.same .lanes]
  have hsign : (armStopFlush (syncSign o)).lamps.sign = .off :=
    Eq.trans (congrArg LampMon.sign (ka.same .lamps)) (syncSign_sign_off (by simp [kin.state]) (by simp [kin.state]))
  have hnow : o.now = s.now := Eq.trans ko.now ku.only.now
  have hpar : ∀ p, o.par p = s.par p := fun p => Eq.trans (ko.par p) (ku.only.par p)
  generalize armStopFlush (syncSign o) = t at ka kt hsite hopen hheads hshown hsign
  refine ⟨ku, ?_, (ko.mono (cs := .lamps :: openParts)).step kt, hsign, fun l => ?_, ?_, fun h => ?_, fun l hg hc => ?_⟩
  · rw [hopen, hsite, ks.now, ks.par, hnow, hpar]
  · rw [hshown, shown, stops_congr ku.only.now (ku.only.same .desc)]
  · exact Eq.trans (kt.same .handoffs) hand
  · obtain ⟨h1, h2⟩ := uncut fun l _ => h l
    exact ⟨kt.log.trans h1, kt.link.trans h2⟩
  · exact (cut l hg fun m _ => hc m).until kt.log kt.link

/-! ### The entry to STOPPING, said of the state before it -/

section
variable {s u t : State} (h : Stopped s u t)
include h

theorem Stopped.lane (l : Lane) : t.lane l = ({ s.lane l with inQueue := false } : LaneRec).stopped s.now := by
  have k : t.lane l = (u.lane l).stopped s.now := congrArg Prod.fst (h.shown l)
  rw [k, h.entered.lane]

theorem Stopped.head (l : Lane) :
    t.head l = if (s.lane l).redReady then s.commands .opened (s.head l) else s.head l := by
  have k : t.head l = if (u.lane l).redReady then s.commands .opened (u.head l) else u.head l :=
    congrArg Prod.snd (h.shown l)
  rw [k, h.entered.lane, h.entered.head]
  rfl

theorem Stopped.onlyFrom : Only [.site, .monitors, .lanes, .lamps, .arb, .entries, .records, .counts, .notices, .stream,
    .handoffs] s t := h.entered.only.mono.step h.only

theorem Stopped.topGov : t.topGov = u.topGov := topGov_of_only h.only

theorem Stopped.entries : t.ovr.entries = keptEntries s.ovr.entries := Eq.trans (h.only.same .entries) h.entered.entries

theorem Stopped.monitors : (∀ l, t.det.queue.get l = Monitor.reset) ∧ t.det.spill = Monitor.reset := by
  rw [h.only.det]
  exact h.entered.monitors

theorem Stopped.green {l : Lane} (hg : (s.lane l).state = .green) : t.head l = s.head l ∧ t.lane l = { s.lane l with
    state := .opened, entryAt := s.now, grant := none, size := none, greenFor := none, inQueue := false } := by
  rw [h.head, h.lane]
  simp [LaneRec.stopped, LaneRec.redReady, hg]

theorem Stopped.red {l : Lane} (hr : (s.lane l).state = .red) (hm : (s.lane l).minRed = true) :
    t.lane l = { (s.lane l).toOpen s.now with inQueue := false } ∧ (t.head l).shows .opened := by
  have k : (s.lane l).redReady = true := (redReady_iff _).2 ⟨hr, hm⟩
  rw [h.head, h.lane, if_pos k]
  exact ⟨by simp [LaneRec.stopped, LaneRec.redReady, LaneRec.toOpen, hr, hm], commands_shows _ _ _⟩

theorem Stopped.stands {l : Lane} (hg : (s.lane l).state ≠ .green)
    (hr : (s.lane l).state ≠ .red ∨ (s.lane l).minRed = false) :
    t.lane l = { s.lane l with inQueue := false } ∧ t.head l = s.head l := by
  have k : (s.lane l).redReady = false := by
    rcases hr with hr | hr <;> simp [LaneRec.redReady, hr]
  have k' : ({ s.lane l with inQueue := false } : LaneRec).redReady = false := k
  rw [h.head, h.lane, k]
  simp [LaneRec.stopped, k', hg]

theorem Stopped.handedOn : t.handoffs =
    (s.handoffs ++ govSignals s t).filter (fun x => [0, 1, 2, 3].all (fun l =>
      !((s.lane l).state == .red && (s.lane l).minRed && isAsking l x))) ++
      [0, 1, 2, 3].flatMap (fun l => if (s.lane l).state = .green then (s.lane l).releaseEnds l else []) := by
  have k : govSignals s t = govSignals s u := by simp only [govSignals, h.topGov]
  rw [h.handoffs, h.entered.handoffs, k]
  simp only [h.entered.lane]
  rfl

/-- A cut green writes its record in the state that the host's frame left, its OVERRIDE notice raised. -/
theorem Stopped.cutEnds {v : State} (hv : v = { s with link := { s.link with
      notices := s.link.notices ||| (if t.topGov = s.topGov then 0 else Notice.override.bit) } }) :
    ((∀ l, (s.lane l).state = .green → (s.lane l).cut = false) → t.log = s.log ∧ t.link = v.link) ∧
    (∀ l, (s.lane l).state = .green → (∀ m, m ≠ l → (s.lane m).state = .green → (s.lane m).cut = false) →
      CutWritten l v t) := by
  have hlink : u.link = v.link := by
    rw [h.entered.link, hv, h.topGov]
    rfl
  have hlog : u.log = s.log := h.entered.only.log
  have hstate : ∀ l, (u.lane l).state = (s.lane l).state := fun l => by rw [h.entered.lane]
  have hcut : ∀ l, (u.lane l).cut = (s.lane l).cut := fun l => by rw [h.entered.lane]
  have hv' : Only [.notices, .stream, .link] s v := by
    subst hv
    exact modLink_only s (fun _ => { s.link with
      notices := s.link.notices ||| (if t.topGov = s.topGov then 0 else Notice.override.bit) })
  refine ⟨fun hc => ?_, fun l hg hc => ?_⟩
  · obtain ⟨h1, h2⟩ := h.uncut fun l hg => by
      rw [hcut]
      exact hc l (by rw [← hstate]; exact hg)
    exact ⟨h1.trans hlog, h2.trans hlink⟩
  · have k := h.cut l (by rw [hstate]; exact hg) fun m hm hg => by
      rw [hcut]
      exact hc m hm (by rw [← hstate]; exact hg)
    have hlane : v.lane l = s.lane l := lane_of_lanes (hv'.same .lanes) l
    have hrec : v.cutRecord l = u.cutRecord l :=
      (cutRecord_congr hv' (by rw [hlane]) (by rw [hlane]) (by rw [hlane])).trans
        (cutRecord_congr h.entered.only (by rw [h.entered.lane]) (by rw [h.entered.lane]) (by rw [h.entered.lane])).symm
    exact k.congr hrec (by rw [hlane, hcut]) (hv'.log.trans hlog.symm) hlink.symm

theorem Stopped.flush : ((∀ l, s.sequenced l = true → (t.lane l).state = .opened) →
      t.site.stopFlushAt = some (s.now + s.par .stopFlush)) ∧
    ((∃ l, s.sequenced l = true ∧ (t.lane l).state ≠ .opened) → t.site.stopFlushAt = none) := by
  have hq : ∀ l, t.sequenced l = s.sequenced l := fun l => h.onlyFrom.sequenced l
  have ha := allOpen_iff t
  simp only [hq] at ha
  rw [h.site]
  refine ⟨fun k => if_pos (ha.2 k), fun ⟨l, hs, hl⟩ => if_neg fun k => hl (ha.1 k l hs)⟩

end

/-! ### STOP-METERING and the stop flush -/

theorem stopFlushIn_due {s : State} {t0 : Nat} (hs : s.site.state = .stopping) (ht : s.site.stopFlushAt = some t0)
    (hd : t0 ≤ s.now) : s.stopFlushIn = some 0 := by
  simp [State.stopFlushIn, hs, ht, State.until, hd]

theorem stopMetering_otherwise {s : State} (hs : s.site.state ≠ .starting) (hm : s.site.state ≠ .metering) :
    stopMetering s = s := by
  unfold stopMetering
  split
  · next h => exact absurd h hs
  · next h => exact absurd h hm
  all_goals rfl

theorem stopMetering_starting {s : State} (hs : s.site.state = .starting) : stopMetering s = finishToDark s := by
  simp [stopMetering, hs]

theorem stopMetering_metering {s : State} (hs : s.site.state = .metering) : stopMetering s = enterStopping s := by
  simp [stopMetering, hs]

theorem actStopMetering_done (s : State) (held : HeldSet) : actStopMetering [] held s = (.done [], stopMetering s) := rfl

/-- Settles O21: STOP-METERING by the site state; the entry to STOPPING lane by lane; the stop flush. -/
theorem stopMeteringAndTheStopFlushEndMetering : Obligations.StopMeteringAndTheStopFlushEndMetering := by
  refine ⟨fun s hp => ⟨fun hs hm => ?_, fun hs => ?_, fun hm => ?_⟩, fun s t0 hr hs ht hd => ?_⟩
  · refine answers_of_act (act := actStopMetering) rfl hp ?_
    rw [actStopMetering_done, stopMetering_otherwise (by simpa using hs) (by simpa using hm)]
    rfl
  · have hx := done_of_act (c := .stopMetering) rfl hp (actStopMetering_done _ _)
    rw [stopMetering_starting (by simpa using hs)] at hx
    have k := finishToDark_finished (openFrame .stopMetering s)
    refine ⟨_, hx, finishToDark_only _, k.site, k.sign, k.notices, fun l hl => ?_, fun l hl => ?_⟩
    · simpa using k.shown l (by simpa using hl)
    · simpa using k.off l (by simpa using hl)
  · have hx := done_of_act (c := .stopMetering) rfl hp (actStopMetering_done _ _)
    rw [stopMetering_metering (by simpa using hm)] at hx
    have k := enterStopping_stopped (openFrame .stopMetering s)
    have harb := enterStopping_arb (openFrame .stopMetering s)
    generalize enterStopping (openFrame .stopMetering s) = t at hx k harb
    rw [openFrame_arb] at harb
    refine ⟨t, hx, k.onlyFrom, congrArg SiteCtl.state k.site, ?_, ?_, ?_, ?_, ?_, k.sign, ?_, k.monitors.1, k.monitors.2,
      fun l => ?_, fun l hg => ?_, fun l hr hm => ?_, fun l hg hr => ?_, ?_, fun v hv => ?_, ?_, ?_⟩
    · rw [harb]; exact emptied_shutSound _ _
    · rw [harb]; rfl
    · rw [harb]; rfl
    · rw [harb]; rfl
    · rw [harb]; rfl
    · rw [k.entries, openFrame_ovr]
      rfl
    · rw [k.lane, openFrame_lane]
      refine ⟨stopped_inQueue _ _, ?_⟩
      cases hs : (s.lane l).state with
      | red => cases hm : (s.lane l).minRed <;> simp [LaneRec.stopped, LaneRec.redReady, LaneRec.toOpen, hs, hm]
      | green | off | warning | amber | opened => simp [LaneRec.stopped, LaneRec.redReady, hs]
    · simpa only [openFrame_lane, openFrame_head, openFrame_now] using k.green (l := l) (by simpa using hg)
    · simpa only [openFrame_lane, openFrame_head, openFrame_now] using
        k.red (l := l) (by simpa using hr) (by simpa using hm)
    · simpa only [openFrame_lane, openFrame_head, openFrame_now] using
        k.stands (l := l) (by simpa using hg) (by simpa using hr)
    · simpa only [openFrame_lane, openFrame_handoffs, govSignals, openFrame_topGov] using k.handedOn
    · have c := k.cutEnds (v := v) (by rw [hv, openFrame_topGov])
      simpa only [openFrame_lane, openFrame_log] using c
    · simpa only [openFrame_sequenced, openFrame_now, openFrame_par] using k.flush.1
    · simpa only [openFrame_sequenced] using k.flush.2
  · have hx : exec .stopFlushExpiry s = .next (finishToDark s) := timed_now hr (stopFlushIn_due hs ht hd)
    have k := finishToDark_finished s
    exact ⟨_, hx, finishToDark_only s, k.site, k.notices, k.sign, k.shown, k.off⟩

end Sys2Proof.Machine
end

section
/-! PROOFS. What a step keeps, from what every row keeps, said once for any relation of two states. -/

namespace Sys2Proof.Machine

set_option Elab.async false

/-! ### From the rows to the step -/

/-- A relation of a state to a later one that chains and holds over the passing of time and over what the link and the
queue keep for themselves. -/
structure StepRel (R : State → State → Prop) : Prop where
  trans : ∀ {s t u}, R s t → R t u → R s u
  tenths : ∀ k s, R s (advance k s)
  onLine : ∀ {s t}, Only (.env :: frameParts) s t → R s t

/-- What an act must do for its frame to satisfy a relation. -/
def Act.Follows (R : State → State → Prop) (act : Act) : Prop := ∀ args held s, R s (act args held s).2

/-- The queue, the host's line and the count of free values belong to no block. -/
theorem env_only (p : List Instr) (x : List Byte) (n : Nat) (s : State) :
    Only [.env] s { s with pending := p, rxLine := x, freeCount := n } := by
  intro b hb; cases b <;> simp_all [agree]

namespace StepRel

variable {R : State → State → Prop} (hR : StepRel R)
include hR

theorem refl (s : State) : R s s := hR.onLine (Only.refl _ s)

theorem forAll {α : Type} {f : α → State → State} (hf : ∀ x t, R t (f x t)) (xs : List α) (s : State) :
    R s (forAll xs f s) := by
  induction xs generalizing s with
  | nil => exact hR.refl s
  | cons x xs ih => exact hR.trans (hf x s) (ih (f x s))

theorem timed {w : Option Nat} {f : State → State} (hf : ∀ u, R u (f u)) {s t : State}
    (h : timed w f s = .next t) : R s t := by
  obtain rfl | rfl | ⟨k, rfl⟩ := timed_cases h
  · exact hR.refl _
  · exact hf _
  · exact hR.trans (hR.tenths _ _) (hf _)

theorem taken {c : Bool} {f : State → State} (hf : ∀ u, R u (f u)) {s t : State} (h : taken c f s = .next t) : R s t :=
  hR.timed hf (taken_eq_timed c f s ▸ h)

theorem hostFrame {c : Cmd} {act : Act} (ha : act.Follows R) {args : List Byte} {s t : State}
    (h : hostFrame c act args s = .next t) : R s t := by
  have opened : R s (openFrame c s) := hR.onLine (openFrame_only c s).mono
  have ran : R (openFrame c s) (runFrame c act args s.link.held (openFrame c s)).2 := by
    unfold runFrame
    split
    · unfold endIfMap
      split
      · exact hR.onLine (setSelection_only _ _).mono
      · exact hR.refl _
    · exact ha _ _ _
  unfold Machine.hostFrame takeFrame at h
  split at h
  · injection h with h
    exact h ▸ hR.refl s
  · split at h <;> injection h with h <;> subst h
    · exact hR.onLine (discardAll_only s).mono
    · exact hR.trans (hR.trans opened ran) (hR.onLine (answer_only _ _ _).mono)

theorem takeByte (hx : ∀ i {s t}, exec i s = .next t → R s t) {s t : State} (h : takeByte s = .next t) : R s t := by
  have byte : ∀ (rest : List Byte) (r : Receiver), R s
      (({ breakAtGap s with rxLine := rest }).modLink (fun k => { k with receiver := r, lastByte := s.now })) := by
    refine fun rest r => hR.trans (hR.onLine (breakAtGap_only s).mono) (hR.onLine fun b hb => ?_)
    cases b <;> simp_all [agree]
  unfold Machine.takeByte at h
  split at h
  · injection h with h
    exact h ▸ hR.refl s
  · dsimp only at h
    split at h
    · injection h with h
      exact h ▸ byte _ _
    · exact hR.trans (byte _ _) (hx _ h)
    · exact hR.trans (byte _ _) (hx _ h)

theorem runMove (hx : ∀ i {s t}, exec i s = .next t → R s t) (m : Move) {s t : State} (h : runMove m s = .next t) :
    R s t := by
  cases m with
  | event i => exact hx i h
  | byte => exact hR.takeByte hx h
  | tenth =>
    injection h with h
    exact h ▸ hR.tenths 1 s

/-- What every row satisfies, a step satisfies. -/
theorem step (hx : ∀ i {s t}, exec i s = .next t → R s t) {s t : State} (h : step s = .next t) : R s t := by
  have env : ∀ p x n, R s { s with pending := p, rxLine := x, freeCount := n } :=
    fun p x n => hR.onLine (env_only p x n s).mono
  unfold Machine.step idle at h
  split at h
  · exact hR.trans (env _ s.rxLine s.freeCount) (hx _ h)
  · split at h
    · injection h with h
      exact h ▸ env s.pending _ s.freeCount
    · split at h
      · exact hR.runMove hx _ h
      · exact hR.trans (env s.pending s.rxLine _) (hR.runMove hx _ h)

end StepRel

end Sys2Proof.Machine
end

section
/-! PROOFS. The heads (R53, R75) over every step: a head's commands change to the aspect of a lane state, or a lamp's
command goes to OFF, and either leaves a sound head sound. -/

namespace Sys2Proof.Machine

set_option Elab.async false

/-! ### One head -/

/-- The aspect of a lane state never joins red and green, and flashes the amber alone (R53). -/
theorem Head.shows.commandSound {h : Head} {st : LaneState} (hs : h.shows st) : h.commandSound := by
  obtain ⟨hr, -, hg⟩ := hs
  unfold Head.commandSound
  rw [hr, hg]
  cases st <;> simp [aspectOf]

/-- A lamp whose command stays or goes to OFF leaves a sound head sound. -/
theorem Head.commandSound.lampsOff {h k : Head} (hs : h.commandSound)
    (hk : ∀ col, (k.get col).commanded = (h.get col).commanded ∨ (k.get col).commanded = .off) : k.commandSound := by
  obtain ⟨hj, hr, hg⟩ := hs
  have red : k.red.commanded = h.red.commanded ∨ k.red.commanded = .off := hk .red
  have green : k.green.commanded = h.green.commanded ∨ k.green.commanded = .off := hk .green
  unfold Head.commandSound
  rcases red with red | red <;> rcases green with green | green <;> simp_all

/-! ### The relation -/

/-- Each head is sound in `t` where it was in `s`. -/
def HeadsKept (s t : State) : Prop := ∀ l, (s.head l).commandSound → (t.head l).commandSound

theorem HeadsKept.refl (s : State) : HeadsKept s s := fun _ => id

theorem HeadsKept.trans {s t u : State} (h : HeadsKept s t) (k : HeadsKept t u) : HeadsKept s u := fun l => k l ∘ h l

theorem HeadsKept.ite {s t u : State} {p : Prop} [Decidable p] (ht : p → HeadsKept s t) (hu : ¬p → HeadsKept s u) :
    HeadsKept s (if p then t else u) := by
  split
  · exact ht (by assumption)
  · exact hu (by assumption)

theorem headsKept_of_heads {s t : State} (h : t.lamps.heads = s.lamps.heads) : HeadsKept s t := fun l => by
  unfold State.head
  rw [h]
  exact id

/-- An operation that leaves the lamps alone. -/
theorem Only.headsKept {bs : List Part} {s t : State} (h : Only bs s t) (hb : Part.lamps ∉ bs := by decide) :
    HeadsKept s t := headsKept_of_heads (congrArg LampMon.heads (h _ hb))

/-- What becomes of a lane keeps the heads: its own shows the lane's state. -/
theorem LaneBecomes.headsKept {l : Lane} {r : LaneRec} {st : LaneState} {s t : State} (h : LaneBecomes l r st s t) :
    HeadsKept s t := by
  obtain ⟨-, own, others⟩ := h
  intro m hm
  by_cases e : m = l
  · exact e ▸ own.commandSound
  · rw [(others m e).2]
    exact hm

/-- An operation on one lamp that leaves its command or commands it OFF. -/
theorem modLamp_headsKept (s : State) (l : Lane) (col : Colour) {f : LampRec → LampRec}
    (hf : ∀ r, (f r).commanded = r.commanded ∨ (f r).commanded = .off := by exact fun _ => .inl rfl) :
    HeadsKept s (s.modLamp l col f) := by
  refine fun m hm => hm.lampsOff fun c => ?_
  change ((s.modLamp l col f).lamp m c).commanded = (s.lamp m c).commanded ∨
    ((s.modLamp l col f).lamp m c).commanded = .off
  rw [lamp_modLamp]
  split
  · next e =>
    obtain ⟨rfl, rfl⟩ := e
    exact hf _
  · exact .inl rfl

/-- An operation on every lamp that leaves its command or commands it OFF. -/
theorem mapLamps_headsKept {s t : State} {f : LampRec → LampRec}
    (hf : ∀ r, (f r).commanded = r.commanded ∨ (f r).commanded = .off)
    (ht : t.lamps.heads = s.lamps.heads.map (Head.map f)) : HeadsKept s t := by
  refine fun m hm => hm.lampsOff fun c => ?_
  have e : t.head m = (s.head m).map f := by
    unfold State.head
    rw [ht, Quad.get_map]
  rw [e, Head.get_map]
  exact hf _

theorem LampRec.elapse_commanded (now : Nat) (r : LampRec) : (r.elapse now).commanded = r.commanded := by
  unfold LampRec.elapse
  split
  · split <;> rfl
  · rfl

theorem headsKept_stepRel : StepRel HeadsKept where
  trans := HeadsKept.trans
  tenths k s := mapLamps_headsKept (f := LampRec.elapse (s.now + k)) (fun r => .inl (r.elapse_commanded _)) rfl
  onLine h := h.headsKept

theorem powerUp_headsKept (on : Bool) (s : State) : HeadsKept s (powerUp { s with resetIn := on }) :=
  mapLamps_headsKept (f := LampRec.atReset) (fun _ => .inr rfl) rfl

/-! ### The lamp monitor's own operations -/

theorem LampRec.startProving_commanded (now : Nat) (hold : Bool) (r : LampRec) :
    (r.startProving now hold).commanded = r.commanded := by
  unfold LampRec.startProving
  split
  · rfl
  · split <;> rfl
  · rfl

theorem LampRec.sense_commanded (now : Nat) (on : Bool) (r : LampRec) : (r.sense now on).commanded = r.commanded := by
  unfold LampRec.sense
  cases r.commanded with
  | off => dsimp only; split <;> (try split) <;> rfl
  | on => dsimp only; split <;> split <;> rfl
  | flash => dsimp only; split <;> rfl

theorem LampRec.release_commanded (now : Nat) (r : LampRec) : (r.release now).commanded = r.commanded := by
  unfold LampRec.release
  split <;> rfl

theorem LampRec.conflict_commanded (r : LampRec) : r.conflict.commanded = r.commanded := by
  unfold LampRec.conflict
  split <;> rfl

theorem LampRec.clearNoticeOnly_commanded (now n : Nat) (r : LampRec) :
    (r.clearNoticeOnly now n).commanded = r.commanded := by
  unfold LampRec.clearNoticeOnly
  split
  · exact startProving_commanded ..
  · rfl

theorem LampRec.testFailed_commanded (r : LampRec) : r.testFailed.commanded = r.commanded := by
  unfold LampRec.testFailed
  split <;> rfl

theorem syncSign_headsKept (s : State) : HeadsKept s (syncSign s) := headsKept_of_heads (syncSign_lamps s).1

theorem setStack_headsKept (es : List Entry) (s : State) : HeadsKept s (setStack es s) :=
  headsKept_of_heads (setStack_heads es s)

theorem removeEntry_headsKept (k : OvKind) (src : OvSource) (s : State) : HeadsKept s (removeEntry k src s) :=
  setStack_headsKept _ s

theorem automaticPush_headsKept (e : Entry) (s : State) : HeadsKept s (automaticPush e s) :=
  headsKept_of_heads (automaticPush_heads e s)

theorem pushIfAsserted_headsKept (s : State) : HeadsKept s (pushIfAsserted s) :=
  headsKept_of_heads (pushIfAsserted_heads s)

theorem lastAttemptFailed_headsKept (l : Lane) (col : Colour) (s : State) :
    HeadsKept s (lastAttemptFailed l col s) := by
  have ended : HeadsKept s (s.modLamp l col LampRec.endProving) := modLamp_headsKept s l col
  have failed : ∀ b m, HeadsKept s ((s.modLamp l col LampRec.endProving).modLamp l m (LampRec.failOff b)) :=
    fun _ m => ended.trans (modLamp_headsKept _ l m)
  have reported : ∀ m, HeadsKept s
      (reportFailure ((s.modLamp l col LampRec.endProving).modLamp l m (LampRec.failOff false))) :=
    fun m => (failed false m).trans (send_only _ _).headsKept
  unfold lastAttemptFailed
  refine HeadsKept.ite (fun _ => ?_) (fun _ => ended)
  cases col with
  | red => exact reported .red
  | green => exact reported .green
  | amber =>
    exact HeadsKept.ite (fun _ => (failed true .amber).trans (raise_only _ _).headsKept) (fun _ => reported .amber)

theorem attemptFailed_headsKept (l : Lane) (col : Colour) (s : State) : HeadsKept s (attemptFailed l col s) :=
  HeadsKept.ite (fun _ => modLamp_headsKept s l col) (fun _ => lastAttemptFailed_headsKept l col s)

theorem proofLost_headsKept (l : Lane) (col : Colour) (s : State) : HeadsKept s (proofLost l col s) :=
  HeadsKept.trans (modLamp_headsKept s l col) (attemptFailed_headsKept l col _)

theorem strayFound_headsKept (l : Lane) (col : Colour) (s : State) : HeadsKept s (strayFound l col s) :=
  HeadsKept.ite (fun _ => modLamp_headsKept s l col)
    (fun _ => HeadsKept.trans (modLamp_headsKept s l col) (send_only _ _).headsKept)

theorem straysOfLane_headsKept (l : Lane) (s : State) : HeadsKept s (straysOfLane l s) := by
  have one : ∀ col t, HeadsKept t (strayIfOver l col t) := fun col t => by
    unfold strayIfOver
    split
    · exact HeadsKept.ite (fun _ => strayFound_headsKept l col t) (fun _ => HeadsKept.refl t)
    · exact HeadsKept.refl t
  exact ((one .red s).trans (one .amber _)).trans (one .green _)

theorem phaseEnds_headsKept (l : Lane) (col : Colour) (s : State) : HeadsKept s (phaseEnds l col s) := by
  refine HeadsKept.trans ?_ (modLamp_headsKept _ l col)
  refine HeadsKept.ite (fun _ => modLamp_headsKept s l col) (fun _ => ?_)
  cases (s.lamp l col).proving with
  | proving => exact attemptFailed_headsKept l col s
  | proven => exact proofLost_headsKept l col s
  | unproven => exact HeadsKept.refl s

theorem senseChange_headsKept (l : Lane) (col : Colour) (on : Bool) (s : State) :
    HeadsKept s (senseChange l col on s) := by
  have sensed : HeadsKept s (s.modLamp l col (LampRec.sense s.now on)) :=
    modLamp_headsKept s l col fun r => .inl (r.sense_commanded _ _)
  have conflict : ∀ t, HeadsKept t (conflictFound l t) := fun t =>
    ((modLamp_headsKept t l .red fun r => .inl r.conflict_commanded).trans
      (modLamp_headsKept _ l .green fun r => .inl r.conflict_commanded)).trans (send_only _ _).headsKept
  unfold senseChange
  cases oppositeOf col with
  | none => exact sensed
  | some o =>
    refine HeadsKept.ite (fun _ => HeadsKept.ite (fun _ => sensed.trans (conflict _)) (fun _ => sensed)) (fun _ => ?_)
    exact sensed.trans (modLamp_headsKept _ l o fun r => .inl (r.release_commanded _))

/-! ### The lanes -/

theorem enterState_headsKept (l : Lane) (st : LaneState) (s : State) : HeadsKept s (enterState l st s) := by
  refine fun m hm => ?_
  rw [head_enterState]
  split
  · exact (Head.command_shows ..).commandSound
  · exact hm

theorem greenToAmber_headsKept (l : Lane) (s : State) : HeadsKept s (greenToAmber l s) :=
  (greenToAmber_becomes s l).headsKept

theorem greenToOpen_headsKept (l : Lane) (s : State) : HeadsKept s (greenToOpen l s) :=
  headsKept_of_heads (congrArg LampMon.heads (greenToOpen_lamps l s))

theorem tryEndGreen_headsKept (l : Lane) (s : State) : HeadsKept s (tryEndGreen l s) :=
  HeadsKept.ite (fun _ => greenToAmber_headsKept l s) (fun _ => HeadsKept.refl s)

theorem tryCloseOpen_headsKept (l : Lane) (s : State) : HeadsKept s (tryCloseOpen l s) :=
  HeadsKept.ite (fun _ => (openToAmber_becomes s l).headsKept) (fun _ => HeadsKept.refl s)

theorem settleRed_headsKept (l : Lane) (s : State) : HeadsKept s (settleRed l s) :=
  HeadsKept.ite (fun _ => (redToOpen_becomes s l).headsKept.trans (armStopFlush_only _).headsKept)
    (fun _ => (settleRequest_only l s).headsKept)

theorem settleReds_headsKept (s : State) : HeadsKept s (settleReds s) :=
  headsKept_stepRel.forAll settleRed_headsKept allLanes s

theorem takeGrant_headsKept (l : Lane) (g : BitVec 16) (n : Nat) (s : State) : HeadsKept s (takeGrant l g n s) := by
  have granted := (enterState_headsKept l .green s).trans (modLane_only _ l (fun r =>
    { r with
      onsetAt := some s.now
      grant := some g
      size := some n
      greenFor := some (s.greenTime n)
      passages := 0
      cut := false
      inQueue := false })).headsKept
  exact HeadsKept.ite (fun _ => granted.trans (greenToOpen_headsKept l _)) (fun _ => granted)

theorem goRed_headsKept (l : Lane) (s : State) : HeadsKept s (goRed l s) := by
  have decided : ∀ t, HeadsKept t (noShowDecision l t) := fun t =>
    HeadsKept.ite (fun _ => ((writeRec_only _ t).headsKept.trans (countLane_only l _ _).headsKept).trans
      (chainNoShow_only l _).headsKept) (fun _ => HeadsKept.refl t)
  exact (enterState_becomes s l .red _).headsKept.trans (decided _)

theorem passage_headsKept (l : Lane) (s : State) : HeadsKept s (passage l s) := by
  by_cases h : s.mode l = .unused
  · rw [show passage l s = s from if_pos h]
    exact HeadsKept.refl s
  · rw [passage_eq h]
    exact (passageCounted_only l s).headsKept.trans (tryEndGreen_headsKept l _)

theorem takeBusy_headsKept (l : Lane) (s : State) : HeadsKept s (takeBusy l s) :=
  HeadsKept.ite (fun _ => (modLane_only s l _).headsKept.trans (tryEndGreen_headsKept l _)) (fun _ => HeadsKept.refl s)

theorem takeLaneGov_headsKept (l : Lane) (s : State) : HeadsKept s (takeLaneGov l s) := by
  have takes : ∀ m g t, HeadsKept t (laneTakes m g t) := fun m g t => by
    have read : HeadsKept t (t.modLane m (fun r => { r with gov := g })) := (modLane_only t m _).headsKept
    unfold laneTakes
    refine HeadsKept.ite (fun _ => ?_) (fun _ => read)
    cases (t.lane m).state with
    | green =>
      exact read.trans (HeadsKept.ite (fun _ => greenToOpen_headsKept m _) (fun _ => tryEndGreen_headsKept m _))
    | opened => exact read.trans (tryCloseOpen_headsKept m _)
    | red => exact read.trans (settleRed_headsKept m _)
    | off | warning | amber => exact read
  unfold takeLaneGov
  split
  · exact (takeOff_only _ s).headsKept.trans (takes _ _ _)
  · exact HeadsKept.refl s

/-! ### The arbiter -/

theorem takeArbiterGov_headsKept (s : State) : HeadsKept s (takeArbiterGov s) := by
  have takes : ∀ g t, HeadsKept t (arbiterTakes g t) := fun g t => by
    have read : HeadsKept t (t.modArb (fun a => { a with gov := g })) := (modArb_only t _).headsKept
    refine HeadsKept.ite (fun _ => HeadsKept.ite (fun _ => HeadsKept.ite (fun _ => read) (fun _ => ?_))
      (fun _ => HeadsKept.ite (fun _ => ?_) (fun _ => ?_))) (fun _ => read)
    · exact (read.trans (enterShut_only true _).headsKept).trans (settleReds_headsKept _)
    · exact read.trans (leaveShut_only _).headsKept
    · exact (read.trans (checkInterval_only _).headsKept).trans (rederive_only _).headsKept
  unfold takeArbiterGov
  split
  · exact (takeOff_only _ s).headsKept.trans (takes _ _)
  · exact HeadsKept.refl s

theorem takeRequest_headsKept (l : Lane) (s : State) : HeadsKept s (takeRequest l s) :=
  HeadsKept.ite (fun _ => HeadsKept.refl s) (fun _ => (enqueue_only l s).headsKept)

theorem takeWithdrawal_headsKept (l : Lane) (s : State) : HeadsKept s (takeWithdrawal l s) :=
  HeadsKept.ite (fun _ => (unqueue_only l s).headsKept) (fun _ => HeadsKept.refl s)

theorem takeReleaseEnd_headsKept (l : Lane) (s : State) : HeadsKept s (takeReleaseEnd l s) := by
  have ended : ∀ t, HeadsKept t (releaseEnded t) := fun t =>
    HeadsKept.ite (fun _ => (modArb_only t _).headsKept)
      (fun _ => ((modArb_only t _).headsKept.trans (deriveHold_only _).headsKept).trans (settle_only _).headsKept)
  have off : HeadsKept s (takeOff (isReleaseEnd l) s) := (takeOff_only _ s).headsKept
  unfold takeReleaseEnd
  split
  · exact HeadsKept.ite (fun _ => off.trans (ended _)) (fun _ => off)
  · exact HeadsKept.refl s

theorem takeAdvance_headsKept (s : State) : HeadsKept s (takeAdvance s) :=
  HeadsKept.ite (fun _ => (modArb_only s _).headsKept.trans (rederive_only _).headsKept) (fun _ => HeadsKept.refl s)

theorem reservationOver_headsKept (s : State) : HeadsKept s (reservationOver s) :=
  (((modArb_only s _).headsKept.trans (countSlip_only _ _).headsKept).trans (raise_only _ _).headsKept).trans
    (rederive_only _).headsKept

theorem grantNow_headsKept (s : State) : HeadsKept s (grantNow s) := by
  have under : ∀ p l t, HeadsKept t (grantUnder p l t) := fun p l t =>
    (((modArb_only t _).headsKept.trans (unqueue_only l _).headsKept).trans (countGrant_only l _).headsKept).trans
      ((takeGrant_headsKept l _ _ _).trans (settleReds_headsKept _))
  unfold grantNow
  split
  · next c _ =>
    unfold makeGrant
    split
    · exact HeadsKept.refl s
    · refine HeadsKept.trans (HeadsKept.trans ?_ (promote_only _ _).headsKept) (under _ _ _)
      exact HeadsKept.ite (fun _ => (refillCredits_only s).headsKept) (fun _ => HeadsKept.refl s)
  · exact HeadsKept.refl s

/-! ### The site -/

theorem enterDark_headsKept (s : State) : HeadsKept s (enterDark s) := headsKept_of_heads (enterDark_heads s)

/-- Going dark commands every head OFF. -/
theorem darken_headsKept (s : State) : HeadsKept s (darken s) := fun l _ => by
  rw [darken_head]
  exact (commands_shows s .off _).commandSound

theorem enterFailsafe_headsKept (s : State) : HeadsKept s (enterFailsafe s) :=
  (((enterSite_only _ s).headsKept.trans (darken_headsKept _)).trans (syncSign_headsKept _)).trans
    (raise_only _ _).headsKept

theorem siteToDark_headsKept (s : State) : HeadsKept s (siteToDark s) := by
  have dark := (((enterSite_only .dark s).headsKept.trans (darken_headsKept _)).trans
    (pushIfAsserted_headsKept _)).trans (syncSign_headsKept _)
  exact HeadsKept.ite (fun _ => dark) (fun _ => dark.trans (raise_only _ _).headsKept)

theorem enterStarting_headsKept (s : State) : HeadsKept s (enterStarting s) := by
  have warn : ∀ l t, HeadsKept t (warnLane l t) := fun l t =>
    HeadsKept.ite (fun _ => enterState_headsKept l .warning t) (fun _ => HeadsKept.refl t)
  exact ((modSite_only s _).headsKept.trans (headsKept_stepRel.forAll warn allLanes _)).trans (syncSign_headsKept _)

theorem enterMetering_headsKept (s : State) : HeadsKept s (enterMetering s) := by
  have reds : ∀ t, HeadsKept t (forAll allLanes firstRed t) := headsKept_stepRel.forAll (fun l t =>
    HeadsKept.ite (fun _ => goRed_headsKept l t) (fun _ => HeadsKept.refl t)) allLanes
  have taken : ∀ t, HeadsKept t (refreshMonitors (restartStuckOff (takeGoverning t))) := fun t =>
    ((takeGoverning_only t).headsKept.trans (restartStuckOff_only _).headsKept).trans (refreshMonitors_only _).headsKept
  unfold enterMetering
  exact (((((enterSite_only _ s).headsKept.trans (reds _)).trans (taken _)).trans
    (leaveShutIfOpen_only _).headsKept).trans (syncSign_headsKept _)).trans (raise_only _ _).headsKept

theorem enterStopping_headsKept (s : State) : HeadsKept s (enterStopping s) := by
  have turn : ∀ l t, HeadsKept t (makeForOpen l t) := fun l t => by
    unfold makeForOpen
    cases (t.lane l).state with
    | green => exact greenToOpen_headsKept l t
    | red => exact settleRed_headsKept l t
    | off | warning | amber | opened => exact HeadsKept.refl t
  have left : HeadsKept s (leaveMetering (enterSite .stopping s)) :=
    ((enterSite_only _ s).headsKept.trans (refreshMonitors_only _).headsKept).trans (setStack_headsKept _ _)
  unfold enterStopping
  exact (((left.trans (enterShut_only _ _).headsKept).trans (headsKept_stepRel.forAll turn allLanes _)).trans
    (syncSign_headsKept _)).trans (armStopFlush_only _).headsKept

theorem finishToDark_headsKept (s : State) : HeadsKept s (finishToDark s) := by
  have shown : ∀ l t, HeadsKept t (shownOff l t) := fun l t =>
    HeadsKept.ite (fun _ => HeadsKept.refl t) (fun _ => (offLane_becomes t l).headsKept)
  exact (headsKept_stepRel.forAll shown allLanes s).trans (enterDark_headsKept _)

theorem stopMetering_headsKept (s : State) : HeadsKept s (stopMetering s) := by
  unfold stopMetering
  cases s.site.state with
  | starting => exact finishToDark_headsKept s
  | metering => exact enterStopping_headsKept s
  | start | lamptest | dark | stopping | failsafe => exact HeadsKept.refl s

theorem endLampTest_headsKept (s : State) : HeadsKept s (endLampTest s) :=
  HeadsKept.ite (fun _ => (enterDark_headsKept s).trans (pushIfAsserted_headsKept _))
    (fun _ => HeadsKept.trans (mapLamps_headsKept (fun r => .inl r.testFailed_commanded) rfl)
      (enterFailsafe_headsKept _))

theorem clearFailsafe_headsKept (s : State) : HeadsKept s (clearFailsafe s) := by
  refine HeadsKept.trans (HeadsKept.trans ?_ (enterDark_headsKept _)) (pushIfAsserted_headsKept _)
  exact mapLamps_headsKept (f := LampRec.clearAll (s.par .lampRetries)) (fun _ => .inl rfl) rfl

theorem takeReport_headsKept (s : State) : HeadsKept s (takeReport s) := by
  unfold takeReport
  cases s.site.state with
  | dark | starting | metering | stopping => exact enterFailsafe_headsKept s
  | failsafe => exact (raise_only _ s).headsKept
  | start | lamptest => exact HeadsKept.refl s

/-! ### The plans and the close of a period -/

theorem localPlan_headsKept (i : Slot) (s : State) : HeadsKept s (localPlan i s) := by
  have start : ∀ t, HeadsKept t (startIfAllowed t) := fun t =>
    HeadsKept.ite (fun _ => enterStarting_headsKept t) (fun _ => HeadsKept.refl t)
  unfold localPlan
  cases s.site.state with
  | dark => exact (selectSlot_only i s).headsKept.trans (start _)
  | starting | metering | stopping | failsafe => exact (selectSlot_only i s).headsKept
  | start | lamptest => exact HeadsKept.refl s

theorem localAct_headsKept (e : Option Slot) (s : State) : HeadsKept s (localAct e s) := by
  unfold localAct
  split
  · split
    · exact localPlan_headsKept _ s
    · exact HeadsKept.refl s
  · exact stopMetering_headsKept s

theorem periodCloses_headsKept (s : State) : HeadsKept s (periodCloses s) := by
  refine (closePeriod_only s).headsKept.trans ?_
  show HeadsKept _ (selectorClose (closePeriod s))
  unfold selectorClose
  split
  · exact HeadsKept.refl _
  · exact HeadsKept.ite (fun _ => (modSel_only _ _).headsKept.trans (localAct_headsKept _ _))
      (fun _ => (modSel_only _ _).headsKept)

/-! ### The detector channels -/

theorem takeClearing_headsKept (c : Chan) (s : State) : HeadsKept s (takeClearing c s) := by
  have cleared := (modChan_only s c Channel.cleared).headsKept
  have noticed : HeadsKept s (if (s.chan c).health = .stuckOn then raise .detector (s.modChan c Channel.cleared)
      else s.modChan c Channel.cleared) :=
    HeadsKept.ite (fun _ => cleared.trans (raise_only _ _).headsKept) (fun _ => cleared)
  unfold takeClearing
  dsimp only
  split
  · exact (noticed.trans (passage_headsKept _ _)).trans (refresh_only _).headsKept
  · exact noticed.trans (refresh_only _).headsKept

theorem takeIfHeld_headsKept (c : Chan) (s : State) : HeadsKept s (takeIfHeld c s) :=
  HeadsKept.ite (fun _ => (takeActuation_only c s).headsKept)
    (fun _ => HeadsKept.ite (fun _ => takeClearing_headsKept c s) (fun _ => HeadsKept.refl s))

theorem inputChange_headsKept (c : Chan) (on : Bool) (s : State) : HeadsKept s (inputChange c on s) :=
  HeadsKept.ite (fun _ => HeadsKept.refl s) (fun _ => (modChan_only s c _).headsKept.trans (takeIfHeld_headsKept c _))

theorem configure_headsKept (c : Chan) (k : ChanConfig) (s : State) : HeadsKept s (configure c k s) := by
  have changed : ∀ f, HeadsKept s (s.modChan c f) := fun f => (modChan_only s c f).headsKept
  have taken : ∀ t, HeadsKept s t → HeadsKept s (takeIfHeld c (refresh t)) :=
    fun t h => (h.trans (refresh_only t).headsKept).trans (takeIfHeld_headsKept c _)
  have stick : ∀ t, HeadsKept t (stickIfOver c t) := fun t =>
    HeadsKept.ite (fun _ => (becomeStuck_only c _ _ t).headsKept) (fun _ => HeadsKept.refl t)
  refine HeadsKept.ite (fun _ => HeadsKept.refl s) (fun _ => HeadsKept.ite (fun _ => ?_) (fun _ => ?_))
  · exact (taken _ (changed _)).trans (stick _)
  · exact taken _ (HeadsKept.ite (fun _ => changed _) (fun _ => (changed _).trans (raise_only _ _).headsKept))

/-! ### The stack's events -/

theorem queueClears_headsKept (l : Lane) (s : State) : HeadsKept s (queueClears l s) := by
  have watching : HeadsKept s (s.modQueueMon l (fun m => { m with state := .watching })) :=
    (modQueueMon_only l _ s).headsKept
  exact HeadsKept.ite (fun _ => watching.trans (removeEntry_headsKept _ _ _)) (fun _ => watching)

theorem spillClears_headsKept (s : State) : HeadsKept s (spillClears s) := by
  have watching : HeadsKept s (s.modSpillMon (fun m => { m with state := .watching })) :=
    (modSpillMon_only _ s).headsKept
  exact HeadsKept.ite (fun _ => watching.trans (removeEntry_headsKept _ _ _)) (fun _ => watching)

theorem preemptAsserted_headsKept (s : State) : HeadsKept s (preemptAsserted s) := by
  have leveled : HeadsKept s (setPreLevel true s) := (modOvr_only s _).headsKept
  exact HeadsKept.ite (fun _ => leveled.trans (automaticPush_headsKept _ _)) (fun _ => leveled)

theorem preemptReleased_headsKept (s : State) : HeadsKept s (preemptReleased s) := by
  have leveled : HeadsKept s (setPreLevel false s) := (modOvr_only s _).headsKept
  exact HeadsKept.ite (fun _ => leveled.trans (removeEntry_headsKept _ _ _)) (fun _ => leveled)

/-! ### The acts of the command frames -/

/-- An act that leaves the lamps alone. -/
theorem Act.Only.followsHeads {bs : List Part} {act : Act} (h : Act.Only bs act) (hb : Part.lamps ∉ bs := by decide) :
    act.Follows HeadsKept := fun args held s => (h args held s).headsKept hb

theorem inWindow_headsKept {s : State} {a : Answer × State} (h : HeadsKept s a.2) : HeadsKept s (inWindow s a).2 := by
  unfold inWindow
  split
  · exact h
  · exact HeadsKept.refl s

theorem actBegin_followsHeads : actBegin.Follows HeadsKept := by
  intro args held s
  have begun : HeadsKept s (markBegun s) := (modLink_only s _).headsKept
  exact HeadsKept.ite (fun _ => begun.trans (modSite_only _ _).headsKept) (fun _ => begun)

theorem actSiteReset_followsHeads : actSiteReset.Follows HeadsKept := by
  intro args held s
  unfold actSiteReset
  split
  · exact HeadsKept.refl s
  · exact siteToDark_headsKept s

theorem actSetPriorityLane_followsHeads : actSetPriorityLane.Follows HeadsKept := by
  have set : ∀ p s, HeadsKept s (setPriority p s) := fun p s =>
    HeadsKept.ite (fun _ => HeadsKept.refl s) (fun _ => (modDesc_only s _).headsKept.trans (modArb_only _ _).headsKept)
  intro args held s
  refine inWindow_headsKept ?_
  split
  · split
    · split
      · exact HeadsKept.refl s
      · exact set _ s
    · exact HeadsKept.refl s
  · exact HeadsKept.refl s

theorem actSetChannel_followsHeads : actSetChannel.Follows HeadsKept := by
  intro args held s
  refine inWindow_headsKept ?_
  split
  · split
    · exact configure_headsKept _ _ s
    · exact HeadsKept.refl s
  · exact HeadsKept.refl s

theorem actSetTiming_followsHeads : actSetTiming.Follows HeadsKept := by
  have reached : ∀ p t, HeadsKept t (reachedAtChange p t) := fun p t => by
    unfold reachedAtChange
    split
    · exact HeadsKept.ite (fun _ => (setMerge_only _ t).headsKept) (fun _ => HeadsKept.refl t)
    · exact HeadsKept.ite (fun _ => periodCloses_headsKept t) (fun _ => HeadsKept.refl t)
    · exact headsKept_stepRel.forAll straysOfLane_headsKept allLanes t
    · exact HeadsKept.refl t
  intro args held s
  refine inWindow_headsKept ?_
  split
  · exact HeadsKept.ite (fun _ => HeadsKept.refl s) (fun _ => (modDesc_only s _).headsKept.trans (reached _ _))
  · exact HeadsKept.refl s

theorem actStartMetering_followsHeads : actStartMetering.Follows HeadsKept := by
  intro args held s
  unfold actStartMetering
  cases s.startCheck with
  | passes => exact enterStarting_headsKept s
  | wrongState | noPlan | noLane => exact HeadsKept.refl s

theorem actClearFailsafe_followsHeads : actClearFailsafe.Follows HeadsKept := by
  intro args held s
  unfold actClearFailsafe
  split
  · exact clearFailsafe_headsKept s
  · exact HeadsKept.refl s

theorem actClearAmberFault_followsHeads : actClearAmberFault.Follows HeadsKept := fun _ held s =>
  headsKept_stepRel.forAll (f := clearAmber)
    (fun l t => modLamp_headsKept t l .amber fun r => .inl (r.clearNoticeOnly_commanded _ _)) (lanesFor held.lane) s

theorem actSelectPlan_followsHeads : actSelectPlan.Follows HeadsKept := by
  intro args held s
  unfold actSelectPlan
  split
  · split
    · exact (selectSlot_only _ s).headsKept
    · exact HeadsKept.refl s
  · exact (clearStaged_only s).headsKept

theorem actPushOverride_followsHeads : actPushOverride.Follows HeadsKept := by
  have push : ∀ e s, HeadsKept s (linkPush e s).2 := fun e s => by
    unfold linkPush
    split
    · exact setStack_headsKept _ s
    · split
      · exact setStack_headsKept _ s
      · exact HeadsKept.refl s
  intro args held s
  unfold actPushOverride
  split
  · exact HeadsKept.refl s
  · split
    · exact push _ s
    · exact HeadsKept.refl s

theorem actRemoveOverride_followsHeads : actRemoveOverride.Follows HeadsKept := by
  intro args held s
  unfold actRemoveOverride
  split
  · split
    · split
      · exact removeEntry_headsKept _ _ s
      · exact HeadsKept.refl s
    · exact HeadsKept.refl s
  · exact HeadsKept.refl s

/-! ### The rows of the table -/

theorem detectorInput_headsKept {c : Chan} {on : Bool} {s t : State} (h : execDetectorInputChange c on s = .next t) :
    HeadsKept s t := by
  unfold execDetectorInputChange at h
  split at h <;> injection h with h <;> subst h
  · exact (modChan_only s c _).headsKept
  · exact inputChange_headsKept c on s

theorem preemptInput_headsKept {on : Bool} {s t : State} (h : execPreemptionInputChange on s = .next t) :
    HeadsKept s t := by
  unfold execPreemptionInputChange at h
  split at h <;> injection h with h <;> subst h
  · exact (modOvr_only s _).headsKept
  · exact HeadsKept.ite (fun _ => HeadsKept.refl s) (fun _ => (modOvr_only s _).headsKept)

/-- During a reset the changed lamp is at its reset value, OFF. -/
theorem lampSense_headsKept {l : Lane} {col : Colour} {on : Bool} {s t : State}
    (h : execLampSenseChange l col on s = .next t) : HeadsKept s t := by
  unfold execLampSenseChange at h
  split at h
  · injection h with h
    exact h ▸ HeadsKept.refl s
  · split at h <;> injection h with h <;> subst h
    · exact modLamp_headsKept s l col fun _ => .inr rfl
    · exact senseChange_headsKept l col on s

theorem resetReleased_headsKept {s t : State} (h : execResetInputReleased s = .next t) : HeadsKept s t := by
  unfold execResetInputReleased at h
  split at h <;> injection h with h <;> subst h
  · exact powerUp_headsKept false s
  · exact HeadsKept.refl s

/-- Every row keeps the heads sound: the frames by their acts, the events by their operations. -/
theorem exec_headsKept (i : Instr) {s t : State} (h : exec i s = .next t) : HeadsKept s t := by
  have rel := headsKept_stepRel
  cases i with
  | powerOn =>
    injection h with h
    exact h ▸ powerUp_headsKept s.resetIn s
  | resetInputAsserted =>
    injection h with h
    exact h ▸ powerUp_headsKept true s
  | resetInputReleased => exact resetReleased_headsKept h
  | beginCmd args => exact rel.hostFrame actBegin_followsHeads h
  | takeNotice args => exact rel.hostFrame actTakeNotice_only.followsHeads h
  | setNoticeMask args => exact rel.hostFrame actSetNoticeMask_only.followsHeads h
  | siteReset args => exact rel.hostFrame actSiteReset_followsHeads h
  | setTime args => exact rel.hostFrame actSetTime_only.followsHeads h
  | pfxLane args => exact rel.hostFrame actPfxLane_only.followsHeads h
  | pfxPlan args => exact rel.hostFrame actPfxPlan_only.followsHeads h
  | pfxChannel args => exact rel.hostFrame actPfxChannel_only.followsHeads h
  | setLane args => exact rel.hostFrame actSetLane_only.followsHeads h
  | setPriorityLane args => exact rel.hostFrame actSetPriorityLane_followsHeads h
  | setChannel args => exact rel.hostFrame actSetChannel_followsHeads h
  | setTiming args => exact rel.hostFrame actSetTiming_followsHeads h
  | resetChannel args => exact rel.hostFrame actResetChannel_only.followsHeads h
  | startMetering args => exact rel.hostFrame actStartMetering_followsHeads h
  | stopMetering args => exact rel.hostFrame (act := actStopMetering) (fun _ _ u => stopMetering_headsKept u) h
  | clearFailsafe args => exact rel.hostFrame actClearFailsafe_followsHeads h
  | clearAmberFault args => exact rel.hostFrame actClearAmberFault_followsHeads h
  | writePlan args => exact rel.hostFrame actWritePlan_only.followsHeads h
  | readPlan args => exact rel.hostFrame actReadPlan_only.followsHeads h
  | erasePlan args => exact rel.hostFrame actErasePlan_only.followsHeads h
  | selectPlan args => exact rel.hostFrame actSelectPlan_followsHeads h
  | protectGroup args => exact rel.hostFrame actProtectGroup_only.followsHeads h
  | unprotectGroup args => exact rel.hostFrame actUnprotectGroup_only.followsHeads h
  | pushOverride args => exact rel.hostFrame actPushOverride_followsHeads h
  | removeOverride args => exact rel.hostFrame actRemoveOverride_followsHeads h
  | mapFrom args => exact rel.hostFrame actMapFrom_only.followsHeads h
  | mapTo args => exact rel.hostFrame actMapTo_only.followsHeads h
  | mapSkip args => exact rel.hostFrame actMapSkip_only.followsHeads h
  | mapAssign args => exact rel.hostFrame actMapAssign_only.followsHeads h
  | streamLog args => exact rel.hostFrame actStreamLog_only.followsHeads h
  | readLogState args => exact rel.hostFrame actReadLogState_only.followsHeads h
  | clearCounts args => exact rel.hostFrame actClearCounts_only.followsHeads h
  | readArbiter args => exact rel.hostFrame actReadArbiter_only.followsHeads h
  | getStatus args | readConfig args | readChannel args | readLamps args | readOverrides args | readMap args
  | stopStream args | readCounts args => exact rel.hostFrame (reads_only _).followsHeads h
  | undefinedCodeFrame code args => exact rel.taken (fun u => (takeUndefined_only code u).headsKept) h
  | badCheckFrame => exact rel.taken (fun u => (takeBadCheck_only u).headsKept) h
  | frameGapTimeout => exact rel.timed (fun u => (discardAll_only u).headsKept) h
  | lenOutOfRange len =>
    exact rel.taken (f := breakOff len) (fun u => (discardAll_only u).headsKept.trans (modLink_only _ _).headsKept) h
  | frameOverrun => exact rel.taken (fun u => (discardAll_only u).headsKept) h
  | prefixHoldExpiry => exact rel.timed (fun u => (discardHeld_only u).headsKept) h
  | linkLossExpiry =>
    exact rel.timed (f := loseLink) (fun u => (modLink_only u _).headsKept.trans (raise_only _ _).headsKept) h
  | recordFrameCompletion => exact rel.taken (fun u => (recordSent_only u).headsKept) h
  | detectorInputChange c on => exact detectorInput_headsKept h
  | actuation c => exact rel.timed (fun u => (takeActuation_only c u).headsKept) h
  | clearing c => exact rel.timed (takeClearing_headsKept c) h
  | stuckOnExpiry c | stuckOffExpiry c => exact rel.timed (fun u => (becomeStuck_only c _ _ u).headsKept) h
  | noShowClaim l => exact rel.taken (fun u => (takeClaimOf_only l u).headsKept) h
  | mergeSettleExpiry => exact rel.timed (fun u => (setMerge_only _ u).headsKept) h
  | queueOnReached l =>
    exact rel.timed (fun u => (modQueueMon_only l _ u).headsKept.trans (automaticPush_headsKept _ _)) h
  | queueOffReached l => exact rel.timed (queueClears_headsKept l) h
  | spillOnReached => exact rel.timed (fun u => (modSpillMon_only _ u).headsKept.trans (automaticPush_headsKept _ _)) h
  | spillOffReached => exact rel.timed spillClears_headsKept h
  | occupancyPeriodClose => exact rel.timed periodCloses_headsKept h
  | preemptionInputChange on => exact preemptInput_headsKept h
  | preemptionAssertion => exact rel.timed preemptAsserted_headsKept h
  | preemptionRelease => exact rel.timed preemptReleased_headsKept h
  | overrideLimitExpiry k src =>
    exact rel.timed (fun u => (removeEntry_headsKept k src u).trans (tellMonitor_only src _).headsKept) h
  | arbiterGoverningChange => exact rel.taken takeArbiterGov_headsKept h
  | laneGoverningChange l => exact rel.taken (takeLaneGov_headsKept l) h
  | lampTestExpiry => exact rel.timed endLampTest_headsKept h
  | warningExpiry => exact rel.timed enterMetering_headsKept h
  | stopFlushExpiry => exact rel.timed finishToDark_headsKept h
  | lampFailureReport => exact rel.taken (fun u => (takeOff_only _ u).headsKept.trans (takeReport_headsKept _)) h
  | lampSenseChange l col on => exact lampSense_headsKept h
  | provingWindowEnd l col => exact rel.timed (attemptFailed_headsKept l col) h
  | flashOnPhaseEnd l col => exact rel.timed (phaseEnds_headsKept l col) h
  | strayMeasureExpiry l col => exact rel.timed (strayFound_headsKept l col) h
  | lossOfProof l col => exact rel.timed (proofLost_headsKept l col) h
  | minGreenElapsed l => exact rel.timed (fun u => (tryEndGreen_headsKept l u).trans (tryCloseOpen_headsKept l _)) h
  | greenDurationElapsed l => exact rel.timed (tryEndGreen_headsKept l) h
  | amberTimeElapsed l => exact rel.timed (goRed_headsKept l) h
  | minRedElapsed l => exact rel.timed (fun u => (modLane_only u l _).headsKept.trans (settleRed_headsKept l _)) h
  | redGraceExpiry l => exact rel.timed (fun u => (modLane_only u l _).headsKept) h
  | releaseCut l => exact rel.taken (fun u => (takeOff_only _ u).headsKept.trans (takeBusy_headsKept l _)) h
  | releaseEnd l => exact rel.taken (takeReleaseEnd_headsKept l) h
  | request l =>
    exact rel.taken (fun u => ((takeOff_only _ u).headsKept.trans (takeRequest_headsKept l _)).trans
      (settleRed_headsKept l _)) h
  | withdrawal l =>
    exact rel.taken (fun u => ((takeOff_only _ u).headsKept.trans (takeWithdrawal_headsKept l _)).trans
      (settleRed_headsKept l _)) h
  | mergeMonitorChange =>
    exact rel.taken (fun u => (takeOff_only _ u).headsKept.trans (settleIfLoose_only _).headsKept) h
  | intervalExpiry => exact rel.timed (fun u => (modArb_only u _).headsKept) h
  | grant => exact rel.taken grantNow_headsKept h
  | advanceActuation => exact rel.taken (fun u => (takeOff_only _ u).headsKept.trans (takeAdvance_headsKept _)) h
  | reservationExpiry => exact rel.timed reservationOver_headsKept h
  | replyFrameTransmitted => exact rel.taken (fun u => (replySent_only u).headsKept) h

/-- Settles O56: every row keeps each head sound, and so does a step. -/
theorem everyStepKeepsTheHeadsSound : Obligations.EveryStepKeepsTheHeadsSound :=
  fun _ _ hs h l => headsKept_stepRel.step exec_headsKept h l (hs l)

end Sys2Proof.Machine
end

section
/-! PROOFS. The lanes' own moves: the moment of each row, then what a RED, an AMBER and an OPEN move on to (R62 to R64,
R68, R71 to R73). -/

namespace Sys2Proof.Machine

set_option Elab.async false

/-! ### Moments (R56, R62, R63, R71) -/

theorem until_reached {s : State} {n : Nat} (h : n ≤ s.now) : s.until n = 0 := Nat.sub_eq_zero_of_le h

theorem greenFor_some_iff (s : State) (l : Lane) (n : Nat) :
    s.greenFor l n = true ↔ ∃ t0, (s.lane l).onsetAt = some t0 ∧ t0 + n ≤ s.now := by
  cases h : (s.lane l).onsetAt with
  | none => simp [State.greenFor, h]
  | some t0 => simp [greenFor_iff h]

theorem openCloses_iff (s : State) (l : Lane) : s.openCloses l = true ↔ (s.lane l).state = .opened ∧
    s.site.state = .metering ∧ govIs (s.lane l).gov .clearout = false ∧
      ∃ t0, (s.lane l).onsetAt = some t0 ∧ t0 + s.par .minGreen ≤ s.now := by
  simp [State.openCloses, State.metering, greenFor_some_iff, and_assoc]

theorem redOpens_iff (s : State) (l : Lane) : s.redOpens l = true ↔ (s.lane l).state = .red ∧ (s.lane l).minRed = true ∧
    (s.lane l).inQueue = false ∧ (s.site.state = .stopping ∨
      (s.site.state = .metering ∧ govIs (s.lane l).gov .clearout = true)) := by
  simp [State.redOpens, laneGovIs_iff, and_assoc]

theorem minGreenIn_green {s : State} {l : Lane} (h : s.greenOver l) : s.minGreenIn l = some 0 := by
  obtain ⟨hg, hm, he⟩ := h
  obtain ⟨t0, ho, ht⟩ := (greenFor_some_iff s l _).1 hm
  simp [State.minGreenIn, ho, hg, he, until_reached ht]

theorem minGreenIn_opened {s : State} {l : Lane} (h : s.openCloses l = true) : s.minGreenIn l = some 0 := by
  obtain ⟨hs, -, -, t0, ho, ht⟩ := (openCloses_iff s l).1 h
  simp [State.minGreenIn, ho, hs, h, until_reached ht]

theorem durationIn_reached {s : State} {l : Lane} {t0 d : Nat} (hg : (s.lane l).state = .green)
    (ho : (s.lane l).onsetAt = some t0) (hd : (s.lane l).greenFor = some d) (hm : t0 + s.par .minGreen ≤ s.now)
    (he : t0 + d ≤ s.now) : s.durationIn l = some 0 := by
  simp [State.durationIn, hg, ho, hd, until_reached (show t0 + max d (s.par .minGreen) ≤ s.now by omega)]

theorem amberIn_reached {s : State} {l : Lane} (ha : (s.lane l).state = .amber)
    (h : (s.lane l).entryAt + s.par .amberTime ≤ s.now) : s.amberIn l = some 0 := by
  simp [State.amberIn, ha, until_reached h]

theorem minRedIn_reached {s : State} {l : Lane} (hr : (s.lane l).state = .red) (hf : (s.lane l).minRed = false)
    (h : (s.lane l).entryAt + s.par .minRed ≤ s.now) : s.minRedIn l = some 0 := by
  simp [State.minRedIn, hr, hf, until_reached h]

theorem graceIn_reached {s : State} {l : Lane} {g : BitVec 16} (hr : (s.lane l).state = .red)
    (hg : (s.lane l).grant = some g) (h : (s.lane l).entryAt + s.par .redGrace < s.now) : s.graceIn l = some 0 := by
  simp [State.graceIn, hr, hg, until_reached h]

/-! ### A red moves on (R62, R63, R68) -/

/-- Outside STOPPING no lane's way to OPEN arms the stop flush. -/
theorem armStopFlush_otherwise {s : State} (h : s.site.state ≠ .stopping) : armStopFlush s = s := if_neg fun k => h k.1

theorem redToOpen_site (l : Lane) (s : State) : (redToOpen l s).site = s.site := (redToOpen_only l s).same .site

theorem settleRed_opens {s : State} {l : Lane} (hs : s.site.state ≠ .stopping) (h : s.redOpens l = true) :
    settleRed l s = redToOpen l s := by
  unfold settleRed
  rw [if_pos h, armStopFlush_otherwise (by rw [redToOpen_site]; exact hs)]

theorem settleRed_stays {s : State} {l : Lane} (h : s.redOpens l = false) :
    settleRed l s = { s with handoffs := s.handoffs ++ s.asks l } := by
  unfold settleRed
  rw [h, ← settleRequest_asks]
  rfl

theorem handoffs_only (hs : List Handoff) (s : State) : Only [.handoffs] s { s with handoffs := hs } := by
  intro b hb; cases b <;> simp_all [agree]

/-- What a lane with every condition of R68 hands on. -/
theorem asks_request {s : State} {l : Lane} (hr : (s.lane l).state = .red) (hf : (s.lane l).minRed = true)
    (hq : (s.lane l).inQueue = false) (hm : s.site.state = .metering) (ho : s.arb.own ≠ .shut)
    (hd : s.hasDemand l = true) (hw : s.desc.priority = some l ∨ 0 < s.weight l) (ha : s.asking l = false) :
    s.asks l = [.request l] := by
  unfold State.asking at ha
  unfold State.asks
  simp [ha, hr, hf, hq, hm, ho, hd, hw]

/-- The state in which min_red has elapsed for a lane: its flag is set. -/
def State.minRedSet (s : State) (l : Lane) : State := s.modLane l (fun r => { r with minRed := true })

theorem exec_minRedElapsed {s : State} {l : Lane} (hr : s.resetIn = false) (hs : (s.lane l).state = .red)
    (hf : (s.lane l).minRed = false) (h : (s.lane l).entryAt + s.par .minRed ≤ s.now) :
    exec (.minRedElapsed l) s = .next (settleRed l (s.minRedSet l)) :=
  timed_now (f := minRedOver l) hr (minRedIn_reached hs hf h)

theorem lane_minRedSet (s : State) (l m : Lane) :
    (s.minRedSet l).lane m = if m = l then { s.lane l with minRed := true } else s.lane m := lane_modLane s l m _

theorem minRedSet_redOpens {s : State} {l : Lane} (hs : (s.lane l).state = .red) :
    (s.minRedSet l).redOpens l = true ↔ (s.lane l).inQueue = false ∧ (s.site.state = .stopping ∨
      (s.site.state = .metering ∧ govIs (s.lane l).gov .clearout = true)) := by
  rw [redOpens_iff, lane_minRedSet, if_pos rfl]
  simp [hs, State.minRedSet]

/-- A red opens at min_red: the flag it had just set goes with RED. -/
theorem minRedSet_opens (s : State) (l : Lane) :
    LaneBecomes l ((s.lane l).toOpen s.now) .opened s (redToOpen l (s.minRedSet l)) := by
  have k := (redToOpen_becomes (s.minRedSet l) l).since (s := s) (fun m hm => by rw [lane_minRedSet, if_neg hm]) rfl
  rw [lane_minRedSet, if_pos rfl] at k
  exact k

theorem minRedSet_hasDemand (s : State) (l : Lane) : (s.minRedSet l).hasDemand l = s.hasDemand l := by
  have own : ((s.minRedSet l).lane l).gov = (s.lane l).gov := by rw [lane_minRedSet, if_pos rfl]
  unfold State.hasDemand State.laneGovIs
  rw [own]
  rfl

theorem minRedSet_only (s : State) (l : Lane) : Only [.lanes] s (s.minRedSet l) := modLane_only s l _

/-- The stop flush is armed by the last lane to open (R47). -/
theorem armStopFlush_site (s : State) : (armStopFlush s).site =
    if s.site.state = .stopping ∧ s.site.stopFlushAt = none ∧ s.allOpen = true then
      { s.site with stopFlushAt := some (s.now + s.par .stopFlush) } else s.site := by
  unfold armStopFlush
  split <;> rfl

/-- With one lane in OPEN, every sequenced lane is OPEN where every other one is. -/
theorem allOpen_of_becomes {s t : State} {l : Lane} {r : LaneRec} {st : LaneState} {bs : List Part}
    (h : LaneBecomes l r st s t) (hr : r.state = .opened) (k : Only bs s t) (hd : Part.desc ∉ bs := by decide) :
    t.allOpen = true ↔ ∀ m, m ≠ l → s.sequenced m = true → (s.lane m).state = .opened := by
  obtain ⟨own, -, others⟩ := h
  rw [allOpen_iff]
  refine ⟨fun a m hm hs => ?_, fun a m hs => ?_⟩
  · rw [← (others m hm).1]
    exact a m (by rw [k.sequenced m hd]; exact hs)
  · by_cases hm : m = l
    · rw [hm, own, hr]
    · rw [(others m hm).1]
      exact a m hm (by rw [← k.sequenced m hd]; exact hs)

/-- Settles O47: at min_red the lane opens or asks; in STOPPING the last lane arms the stop flush; red_grace. -/
theorem redsMoveOn : Obligations.RedsMoveOn := by
  intro s l hr hs
  have hv := minRedSet_only s l
  have opened := minRedSet_opens s l
  have hopens := minRedSet_redOpens hs
  refine ⟨fun hf ht hn => ?_, fun hf ht hn hq => ?_, fun g hg ht => ?_⟩
  · refine ⟨_, exec_minRedElapsed hr hs hf ht, ?_⟩
    by_cases ho : (s.minRedSet l).redOpens l = true
    · obtain ⟨hq, h | ⟨hm, hc⟩⟩ := hopens.1 ho
      · exact absurd h hn
      rw [settleRed_opens (s := s.minRedSet l) hn ho]
      have ⟨_, _, others⟩ := opened
      refine ⟨(hv.mono (cs := [.lanes, .lamps, .handoffs])).step (redToOpen_only l _), others, fun _ _ _ => opened,
        fun h => ?_⟩
      simp [hm, hc, hq] at h
    · rw [settleRed_stays (by simpa using ho)]
      refine ⟨?_, fun m hm => ⟨?_, rfl⟩, fun hm hc hq => absurd (hopens.2 ⟨hq, .inr ⟨hm, hc⟩⟩) ho, fun _ => ?_⟩
      · exact (hv.mono (cs := [.lanes, .lamps, .handoffs])).step (handoffs_only _ _)
      · exact (lane_minRedSet s l m).trans (if_neg hm)
      · have own : (s.minRedSet l).lane l = { s.lane l with minRed := true } :=
          (lane_minRedSet s l l).trans (if_pos rfl)
        refine ⟨own, rfl, fun hm hq ha hd hw hk => ?_, rfl⟩
        show s.handoffs ++ (s.minRedSet l).asks l = _
        rw [asks_request (s := s.minRedSet l) (by rw [own]; exact hs) (by rw [own]) (by rw [own]; exact hq) hm ha
          (by rw [minRedSet_hasDemand]; exact hd) hw hk]
  · have ho := hopens.2 ⟨hq, .inl hn⟩
    have hx : settleRed l (s.minRedSet l) = armStopFlush (redToOpen l (s.minRedSet l)) := if_pos ho
    have ku := (hv.mono (cs := [.lanes, .lamps, .handoffs])).step (redToOpen_only l _)
    have ka := armStopFlush_only (redToOpen l (s.minRedSet l))
    have site := armStopFlush_site (redToOpen l (s.minRedSet l))
    have all := allOpen_of_becomes opened rfl ku
    rw [ku.now, ku.par, show (redToOpen l (s.minRedSet l)).site = s.site from ku.same .site] at site
    refine ⟨_, exec_minRedElapsed hr hs hf ht, ?_⟩
    rw [hx]
    refine ⟨(ku.mono (cs := [.site, .lanes, .lamps, .handoffs])).step ka,
      opened.andKeep (ka.same .lanes) (ka.same .lamps), fun h0 hall => ?_, fun h => ?_⟩
    · rw [site, if_pos ⟨hn, h0, all.2 hall⟩]
    · rw [site, if_neg]
      rintro ⟨-, h0, ha⟩
      obtain h | ⟨m, hm, hq, hne⟩ := h
      · exact h h0
      · exact hne (all.1 ha m hm hq)
  · exact timed_now (f := fun t => t.modLane l LaneRec.closeGrant) hr (graceIn_reached hs hg ht)

/-! ### An AMBER goes to RED (R62, R72, R73) -/

/-- A lane's record after a no-show: at a lane whose chain does not count it the count starts anew, as it does at
no_show_limit; else it grows (R73). -/
def State.chained (s : State) (l : Lane) (r : LaneRec) : LaneRec :=
  { r with
    noShows := if s.chainChannel l = none ∨ s.par .noShowLimit ≤ (s.lane l).noShows + 1 then 0
      else (s.lane l).noShows + 1 }

/-- The claim a no-show brings (R73). -/
def State.claims (s : State) (l : Lane) : List Handoff :=
  match s.chainChannel l with
  | some c => if s.par .noShowLimit ≤ (s.lane l).noShows + 1 then [.claim l c] else []
  | none => []

theorem chain_uncounted {s : State} {l : Lane} (h : s.chainChannel l = none) (r : LaneRec) :
    s.claims l = [] ∧ s.chained l r = { r with noShows := 0 } := by
  simp [State.claims, State.chained, h]

theorem chain_below {s : State} {l : Lane} {c : Chan} (h : s.chainChannel l = some c)
    (hn : (s.lane l).noShows + 1 < s.par .noShowLimit) (r : LaneRec) :
    s.claims l = [] ∧ s.chained l r = { r with noShows := (s.lane l).noShows + 1 } := by
  have k : ¬s.par .noShowLimit ≤ (s.lane l).noShows + 1 := by omega
  simp [State.claims, State.chained, h, k]

theorem chain_reached {s : State} {l : Lane} {c : Chan} (h : s.chainChannel l = some c)
    (hn : s.par .noShowLimit ≤ (s.lane l).noShows + 1) (r : LaneRec) :
    s.claims l = [.claim l c] ∧ s.chained l r = { r with noShows := 0 } := by
  simp [State.claims, State.chained, h, hn]

theorem chainNoShow_eq (l : Lane) (s : State) : chainNoShow l s =
    { s with lanes := s.lanes.set l (s.chained l (s.lane l)), handoffs := s.handoffs ++ s.claims l } := by
  unfold chainNoShow
  cases h : s.chainChannel l with
  | none =>
    obtain ⟨h1, h2⟩ := chain_uncounted h (s.lane l)
    rw [h1, h2, List.append_nil]
    rfl
  | some c =>
    dsimp only
    by_cases hn : s.par .noShowLimit ≤ (s.lane l).noShows + 1
    · obtain ⟨h1, h2⟩ := chain_reached h hn (s.lane l)
      rw [if_pos hn, h1, h2]
      rfl
    · obtain ⟨h1, h2⟩ := chain_below h (by omega) (s.lane l)
      rw [if_neg hn, h1, h2, List.append_nil]
      rfl

/-- The lane in RED, before its no-show decision. -/
def redOnset (l : Lane) (s : State) : State := (enterState l .red s).modLane l (fun r => { r with onsetAt := none })

theorem redOnset_becomes (s : State) (l : Lane) :
    LaneBecomes l ((s.lane l).toRed s.now) .red s (redOnset l s) := enterState_becomes s l .red _

theorem redOnset_only (s : State) (l : Lane) : Only [.lanes, .lamps] s (redOnset l s) :=
  (enterState_only l .red s).step (modLane_only _ l _)

theorem goRed_eq (l : Lane) (s : State) : goRed l s = noShowDecision l (redOnset l s) := rfl

theorem exec_amberTimeElapsed {s : State} {l : Lane} (hr : s.resetIn = false) (ha : (s.lane l).state = .amber)
    (h : (s.lane l).entryAt + s.par .amberTime ≤ s.now) : exec (.amberTimeElapsed l) s = .next (goRed l s) :=
  timed_now (f := goRed l) hr (amberIn_reached ha h)

theorem goRed_noGrant {s : State} {l : Lane}
    (h : (s.lane l).grant = none ∨ s.goodStop l = false ∨ (s.lane l).passages ≠ 0) : goRed l s = redOnset l s := by
  have own := (redOnset_becomes s l).1
  rw [goRed_eq]
  refine if_neg ?_
  rintro ⟨hg, hs, hp⟩
  rw [own] at hg hp
  rcases h with h | h | h
  · rw [show ((s.lane l).toRed s.now).grant = none from h] at hg
    exact absurd hg (by decide)
  · exact absurd (hs.symm.trans h) (by decide)
  · exact h hp

/-- The record of a no-show (R72, R154). -/
def State.noShowRecord (s : State) (l : Lane) : PassRec :=
  { time := s.siteTime, lane := l, kind := .noShow, plan := s.plans.active, grant := (s.lane l).grant
    shortfall := none }

/-- The lane in RED with its no-show written and counted (R72, R155, R160). -/
def noShowCounted (l : Lane) (s : State) : State := countNoShow l (writeRec (s.noShowRecord l) (redOnset l s))

theorem goRed_noShow {s : State} {l : Lane} {g : BitVec 16} (hg : (s.lane l).grant = some g) (hs : s.goodStop l = true)
    (hp : (s.lane l).passages = 0) : goRed l s = chainNoShow l (noShowCounted l s) := by
  have own := (redOnset_becomes s l).1
  have record : (redOnset l s).recordNow l .noShow ((redOnset l s).lane l).grant none = s.noShowRecord l := by
    rw [own]
    rfl
  unfold noShowCounted
  rw [← record, goRed_eq]
  exact if_pos ⟨by rw [own]; exact hg ▸ rfl, hs, by rw [own]; exact hp⟩

theorem noShowCounted_only (l : Lane) (s : State) :
    Only [.lanes, .lamps, .records, .counts, .notices, .stream] s (noShowCounted l s) :=
  ((redOnset_only s l).mono (cs := [.lanes, .lamps, .records, .counts, .notices, .stream])).step (writeRec_only _ _)
    |>.step (countLane_only l _ _)

theorem noShowCounted_becomes (l : Lane) (s : State) :
    LaneBecomes l ((s.lane l).toRed s.now) .red s (noShowCounted l s) := by
  have k := ((writeRec_only (s.noShowRecord l) (redOnset l s)).mono (cs := [.records, .notices, .stream, .counts])).step
    (countLane_only l (fun c => { c with noShows := c.noShows + 1 }) _)
  exact (redOnset_becomes s l).andKeep (k.same .lanes) (k.same .lamps)

/-- What a no-show writes, it writes in the log and the link of `s`; it counts one no-show of its lane. -/
theorem noShowCounted_log (l : Lane) (s : State) :
    (noShowCounted l s).log = { (writeRec (s.noShowRecord l) s).log with
      lanes := s.log.lanes.set l { s.log.lanes.get l with noShows := (s.log.lanes.get l).noShows + 1 } } ∧
    (noShowCounted l s).link = (writeRec (s.noShowRecord l) s).link := by
  have k := writeRec_congr (s.noShowRecord l) (s := s) (t := redOnset l s) rfl rfl
  have hc := ((writeRec_only (s.noShowRecord l) s).same .counts).1
  unfold noShowCounted countNoShow countLane
  rw [modLog_log, modLog_link, k.1, k.2, hc]
  exact ⟨rfl, rfl⟩

theorem chainChannel_iff (s : State) (l : Lane) (c : Chan) : s.chainChannel l = some c ↔
    s.mode l = .metered ∧ s.chanFor .demand l = some c ∧ (s.chan c).health = .good ∧ (s.chan c).occupied = true := by
  unfold State.chainChannel
  by_cases hm : s.mode l = .metered
  · rw [if_pos hm, Option.filter_eq_some_iff]
    by_cases hg : (s.chan c).health = .good
    · simp [hm, hg, Channel.reading]
    · simp [hg]
  · simp [hm]

/-- The chain rests on the lanes' modes and the channels. -/
theorem chainChannel_of_only {bs : List Part} {s t : State} (h : Only bs s t) (l : Lane)
    (hd : Part.desc ∉ bs := by decide) (hc : Part.chans ∉ bs := by decide) : t.chainChannel l = s.chainChannel l := by
  have ed : t.desc = s.desc := h _ hd
  have ec : t.det.chans = s.det.chans := h _ hc
  unfold State.chainChannel State.mode State.chanFor State.chan
  rw [ed, ec]

/-- What becomes of a lane, with its record then written again. -/
theorem LaneBecomes.rewritten {l : Lane} {r q : LaneRec} {st : LaneState} {s t u : State} (h : LaneBecomes l r st s t)
    (hl : u.lanes = t.lanes.set l q) (hp : u.lamps = t.lamps) : LaneBecomes l q st s u := by
  obtain ⟨-, hs, ho⟩ := h
  have lane : ∀ m, u.lane m = if m = l then q else t.lane m := fun m => by
    simp only [State.lane, hl, Quad.get_set]
  have head : ∀ m, u.head m = t.head m := fun m => by simp only [State.head, hp]
  exact ⟨(lane l).trans (if_pos rfl), by rw [head]; exact hs,
    fun m hm => ⟨((lane m).trans (if_neg hm)).trans (ho m hm).1, (head m).trans (ho m hm).2⟩⟩

/-- A no-show at red onset: the log, the lane and what is handed on, by the chain. -/
theorem goRed_noShow_parts {s : State} {l : Lane} {g : BitVec 16} (hg : (s.lane l).grant = some g)
    (hs : s.goodStop l = true) (hp : (s.lane l).passages = 0) :
    (goRed l s).log = (noShowCounted l s).log ∧ (goRed l s).link = (noShowCounted l s).link ∧
    LaneBecomes l (s.chained l ((s.lane l).toRed s.now)) .red s (goRed l s) ∧
    (goRed l s).handoffs = s.handoffs ++ s.claims l := by
  have k := noShowCounted_only l s
  have b := noShowCounted_becomes l s
  have hc := chainChannel_of_only k l
  have hl : (noShowCounted l s).chained l ((noShowCounted l s).lane l) = s.chained l ((s.lane l).toRed s.now) := by
    unfold State.chained
    rw [hc, k.par, b.1]
    rfl
  have hh : (noShowCounted l s).claims l = s.claims l := by
    simp only [State.claims, b.1, hc, k.par, LaneRec.toRed]
  rw [goRed_noShow hg hs hp, chainNoShow_eq, hl, hh]
  refine ⟨rfl, rfl, b.rewritten rfl rfl, ?_⟩
  show (noShowCounted l s).handoffs ++ _ = _
  rw [show (noShowCounted l s).handoffs = s.handoffs from k.same .handoffs]

/-! ### An OPEN returns to AMBER (R64) -/

theorem tryCloseOpen_closes {s : State} {l : Lane} (h : s.openCloses l = true) : tryCloseOpen l s = openToAmber l s :=
  if_pos h

theorem tryCloseOpen_stands {s : State} {l : Lane} (h : s.openCloses l = false) : tryCloseOpen l s = s :=
  if_neg (by simp [h])

theorem exec_minGreenElapsed_opened {s : State} {l : Lane} (hr : s.resetIn = false) (h : s.openCloses l = true) :
    exec (.minGreenElapsed l) s = .next (openToAmber l s) := by
  obtain ⟨hs, -⟩ := (openCloses_iff s l).1 h
  have e : minGreenOver l s = openToAmber l s := by
    unfold minGreenOver
    rw [tryEndGreen_stands (by rintro ⟨hg, -⟩; simp [hs] at hg), tryCloseOpen_closes h]
  rw [← e]
  exact timed_now (f := minGreenOver l) hr (minGreenIn_opened h)

/-- Settles O46: the OPEN closes; the AMBER goes to RED, with or without a no-show, whose chain has three outcomes. -/
theorem opensAndAmbersMoveOn : Obligations.OpensAndAmbersMoveOn := by
  intro s l t0 hr
  refine ⟨fun hs ho ht hm hc => ?_, fun ha ht => ⟨fun hn => ?_, fun g hg hgood hp => ?_⟩,
    fun c => chainChannel_iff s l c⟩
  · exact ⟨_, exec_minGreenElapsed_opened hr ((openCloses_iff s l).2 ⟨hs, hm, hc, t0, ho, ht⟩), openToAmber_only l s,
      openToAmber_becomes s l⟩
  · refine ⟨_, exec_amberTimeElapsed hr ha ht, ?_⟩
    rw [goRed_noGrant hn]
    exact ⟨redOnset_only s l, redOnset_becomes s l⟩
  · obtain ⟨hlog, hlink, hlane, hhand⟩ := goRed_noShow_parts hg hgood hp
    obtain ⟨wlog, wlink⟩ := noShowCounted_log l s
    rw [wlog] at hlog
    rw [wlink] at hlink
    refine ⟨_, exec_amberTimeElapsed hr ha ht, goRed_only l s, ?_, ?_, fun hc => ?_,
      fun c hc => ⟨fun hn => ?_, fun hn => ?_⟩⟩
    · rintro rec w hrec rfl
      obtain rfl : rec = s.noShowRecord l := by rw [hrec, State.noShowRecord, hg]
      rw [hlog, hlink]
      refine ⟨rfl, rfl, rfl, fun hroom => ?_⟩
      rw [(writeRec_room hroom).1]
    · rw [hlog]
    · obtain ⟨h1, h2⟩ := chain_uncounted hc ((s.lane l).toRed s.now)
      exact ⟨by rw [hhand, h1, List.append_nil], h2 ▸ hlane⟩
    · obtain ⟨h1, h2⟩ := chain_below hc hn ((s.lane l).toRed s.now)
      exact ⟨by rw [hhand, h1, List.append_nil], h2 ▸ hlane⟩
    · obtain ⟨h1, h2⟩ := chain_reached hc hn ((s.lane l).toRed s.now)
      exact ⟨by rw [hhand, h1], h2 ▸ hlane⟩

end Sys2Proof.Machine
end

section
/-! PROOFS. A green's end, the entry of the merge to BUSY, and the taking of the governing entry by a lane (R56 to R61,
R63, R64, R66). -/

namespace Sys2Proof.Machine

set_option Elab.async false

/-! ### A green ends (R56 to R61) -/

/-- The end conditions of a green whose onset is known, each where what it rests on is recorded. -/
theorem greenEnds_some_iff {s : State} {l : Lane} {t0 : Nat} (ho : (s.lane l).onsetAt = some t0) :
    s.greenEnds l = true ↔ (∃ d, (s.lane l).greenFor = some d ∧ t0 + d ≤ s.now) ∨
      (∃ n, (s.lane l).size = some n ∧ n ≤ (s.lane l).passages) ∨ (s.lane l).cut = true ∨
      (s.site.state = .metering ∧ govIs (s.lane l).gov .close = true) := by
  unfold State.greenEnds
  simp only [Bool.or_eq_true, laneGovIs_iff, or_assoc]
  refine or_congr ?_ (or_congr ?_ Iff.rfl)
  · cases (s.lane l).greenFor <;> simp [greenFor_iff ho]
  · cases (s.lane l).size <;> simp

theorem greenOver_iff {s : State} {l : Lane} {t0 : Nat} (ho : (s.lane l).onsetAt = some t0) :
    s.greenOver l ↔ (s.lane l).state = .green ∧ t0 + s.par .minGreen ≤ s.now ∧
      ((∃ d, (s.lane l).greenFor = some d ∧ t0 + d ≤ s.now) ∨
        (∃ n, (s.lane l).size = some n ∧ n ≤ (s.lane l).passages) ∨ (s.lane l).cut = true ∨
        (s.site.state = .metering ∧ govIs (s.lane l).gov .close = true)) := by
  unfold State.greenOver
  rw [greenFor_iff ho, greenEnds_some_iff ho]

theorem exec_minGreenElapsed_green {s : State} {l : Lane} (hr : s.resetIn = false) (h : s.greenOver l) :
    exec (.minGreenElapsed l) s = .next (greenToAmber l s) := by
  have e : minGreenOver l s = greenToAmber l s := by
    unfold minGreenOver
    rw [tryEndGreen_ends h, tryCloseOpen_stands]
    unfold State.openCloses
    rw [(greenToAmber_becomes s l).1]
    rfl
  rw [← e]
  exact timed_now (f := minGreenOver l) hr (minGreenIn_green h)

theorem exec_greenDurationElapsed {s : State} {l : Lane} {t0 d : Nat} (hr : s.resetIn = false)
    (hg : (s.lane l).state = .green) (ho : (s.lane l).onsetAt = some t0) (hd : (s.lane l).greenFor = some d)
    (hm : t0 + s.par .minGreen ≤ s.now) (he : t0 + d ≤ s.now) :
    exec (.greenDurationElapsed l) s = .next (greenToAmber l s) := by
  rw [← tryEndGreen_ends ((greenOver_iff ho).2 ⟨hg, hm, .inl ⟨d, hd, he⟩⟩)]
  exact timed_now (f := tryEndGreen l) hr (durationIn_reached hg ho hd hm he)

theorem releaseEnds_some {r : LaneRec} {g : BitVec 16} (l : Lane) (h : r.grant = some g) :
    r.releaseEnds l = [.releaseEnd l g] := by
  unfold LaneRec.releaseEnds
  rw [h]

/-- A cut release counts one cut, and no counter of a lane moves (R160). -/
theorem CutWritten.counts {l : Lane} {s t : State} (h : CutWritten l s t) (hc : (s.lane l).cut = true) :
    t.log.slip = { s.log.slip with cuts := s.log.slip.cuts + 1 } ∧ t.log.lanes = s.log.lanes := by
  obtain ⟨hl, hs⟩ := (writeRec_only (s.cutRecord l) s).same .counts
  rw [(h.2 hc _ rfl).1, ← hl, ← hs]
  exact ⟨rfl, rfl⟩

/-! ### An entry of the merge to BUSY (R58, R61) -/

theorem cuttable_iff (s : State) (l : Lane) : s.cuttable l = true ↔ (s.lane l).state = .green ∧ (s.lane l).cut = false ∧
    ∃ n, (s.lane l).size = some n ∧ (s.lane l).passages < n := by
  unfold State.cuttable
  cases (s.lane l).size <;> simp [and_assoc]

/-- A row that takes the oldest message of a sort leaves the others waiting. -/
theorem takeOff_eq {p : Handoff → Bool} {h : Handoff} {s : State} (hw : s.waiting p = some h) :
    takeOff p s = { s with handoffs := s.handoffs.erase h } := by
  rw [← takeOff_handoffs hw]
  rfl

theorem exec_releaseCut {s : State} {l : Lane} (hr : s.resetIn = false)
    (hw : s.waiting (isBusyEntry l) = some (.busyEntry l)) :
    exec (.releaseCut l) s = .next (takeBusy l { s with handoffs := s.handoffs.erase (.busyEntry l) }) := by
  rw [← takeOff_eq hw]
  exact taken_now (f := fun t => takeBusy l (takeOff (isBusyEntry l) t)) hr (by rw [hw]; rfl)

/-- The state in which a lane has taken an entry to BUSY as a cut: its flag is set. -/
def State.busyTaken (s : State) (l : Lane) : State :=
  { s with lanes := s.lanes.set l { s.lane l with cut := true }, handoffs := s.handoffs.erase (.busyEntry l) }

theorem lane_busyTaken (s : State) (l m : Lane) :
    (s.busyTaken l).lane m = if m = l then { s.lane l with cut := true } else s.lane m := Quad.get_set _ _ _ _

theorem busyTaken_only (s : State) (l : Lane) : Only [.lanes, .handoffs] s (s.busyTaken l) := by
  intro b hb; cases b <;> simp_all [agree, State.busyTaken]

theorem exec_releaseCut_cuts {s : State} {l : Lane} {n : Nat} (hr : s.resetIn = false)
    (hw : s.waiting (isBusyEntry l) = some (.busyEntry l)) (hg : (s.lane l).state = .green)
    (hc : (s.lane l).cut = false) (hz : (s.lane l).size = some n) (hp : (s.lane l).passages < n) :
    exec (.releaseCut l) s = .next (tryEndGreen l (s.busyTaken l)) := by
  rw [exec_releaseCut hr hw]
  exact congrArg _ (if_pos ((cuttable_iff _ l).2 ⟨hg, hc, n, hz, hp⟩))

/-- Settles O45: each row ends the green by `greenToAmber`; an entry to BUSY sets the flag and may end it. -/
theorem greensEndInAmberAndBusyMergesCut : Obligations.GreensEndInAmberAndBusyMergesCut := by
  refine ⟨fun s l i t0 d n k g hr hs ho hm hd hz hg hk hi => ?_, fun s l hr hw => ⟨fun h => ?_, ?_⟩⟩
  · have hx : exec i s = .next (greenToAmber l s) := by
      obtain ⟨rfl, he⟩ | ⟨rfl, he⟩ := hi
      · refine exec_minGreenElapsed_green hr ⟨hs, (greenFor_iff ho _).2 hm, (greenEnds_iff ho hd hz).2 ?_⟩
        rw [hk]
        obtain he | he | he := he
        · exact .inr (.inl he)
        · exact .inl he
        · exact .inr (.inr he)
      · exact exec_greenDurationElapsed hr hs ho hd hm he
    have cut := greenToAmber_cutWritten l s
    refine ⟨_, hx, greenToAmber_only l s, greenToAmber_becomes s l, ?_, cut.1, fun hc => ⟨?_, cut.counts hc⟩⟩
    · rw [greenToAmber_handoffs, releaseEnds_some l hg]
    · rintro rec w hrec rfl
      obtain rfl : rec = s.cutRecord l := by rw [hrec, State.cutRecord, hg, hz, hk]; rfl
      obtain ⟨hlog, hlink⟩ := cut.2 hc _ rfl
      rw [hlog, hlink]
      refine ⟨rfl, rfl, rfl, fun hroom => ?_⟩
      rw [(writeRec_room hroom).1]
  · have hn : ¬(State.cuttable { s with handoffs := s.handoffs.erase (.busyEntry l) } l = true) := by
      rw [cuttable_iff]
      rintro ⟨hg, hc, n, hz, hp⟩
      obtain h | h | ⟨m, hm, hle⟩ := h
      · exact h hg
      · exact absurd (hc.symm.trans h) (by decide)
      · obtain rfl : m = n := Option.some.inj (hm.symm.trans hz)
        exact absurd hp (Nat.not_lt.2 hle)
    rw [exec_releaseCut hr hw]
    exact congrArg _ (if_neg hn)
  · rintro n t0 hg hc hz hp ho r u rfl rfl
    have hx := exec_releaseCut_cuts hr hw hg hc hz hp
    have own := (lane_busyTaken s l l).trans (if_pos rfl)
    have hover := greenOver_iff (s := s.busyTaken l) (l := l) (t0 := t0) (by rw [own]; exact ho)
    refine ⟨fun hm => ?_, fun hm => ⟨_, hx, ?_, ?_, ?_, ?_⟩⟩
    · have stands : ¬(s.busyTaken l).greenOver l := fun k => by
        obtain ⟨-, hmin, -⟩ := hover.1 k
        exact absurd hmin (Nat.not_le.2 hm)
      rw [hx, tryEndGreen_stands stands]
      rfl
    · exact ((busyTaken_only s l).mono (cs := laneParts)).andThen (tryEndGreen_only l _)
    all_goals rw [tryEndGreen_ends (hover.2 ⟨by rw [own]; exact hg, hm, .inr (.inr (.inl (by rw [own])))⟩)]
    · have k := (greenToAmber_becomes (s.busyTaken l) l).since (s := s)
        (fun m h => (lane_busyTaken s l m).trans (if_neg h)) rfl
      rw [own] at k
      exact k
    · rw [greenToAmber_handoffs, own]
      rfl
    · exact greenToAmber_cutWritten l (s.busyTaken l)

/-! ### A lane takes the governing entry (R59, R60, R63, R64, R66) -/

/-- The state in which a lane has read the entry handed to it. -/
def State.govRead (s : State) (l : Lane) (g : Option Gov) : State :=
  { s with lanes := s.lanes.set l { s.lane l with gov := g }, handoffs := s.handoffs.erase (.laneGov l g) }

theorem lane_govRead (s : State) (l m : Lane) (g : Option Gov) :
    (s.govRead l g).lane m = if m = l then { s.lane l with gov := g } else s.lane m := Quad.get_set _ _ _ _

theorem govRead_own (s : State) (l : Lane) (g : Option Gov) : (s.govRead l g).lane l = { s.lane l with gov := g } :=
  (lane_govRead s l l g).trans (if_pos rfl)

theorem govRead_only (s : State) (l : Lane) (g : Option Gov) : Only [.lanes, .handoffs] s (s.govRead l g) := by
  intro b hb; cases b <;> simp_all [agree, State.govRead]

/-- The state in which the entry handed to a lane has been taken, and not yet read. -/
def State.govTaken (s : State) (l : Lane) (g : Option Gov) : State :=
  { s with handoffs := s.handoffs.erase (.laneGov l g) }

theorem exec_laneGoverningChange {s : State} {l : Lane} {g : Option Gov} (hr : s.resetIn = false)
    (hw : s.waiting (isLaneGov l) = some (.laneGov l g)) :
    exec (.laneGoverningChange l) s = .next (laneTakes l g (s.govTaken l g)) := by
  have taken : takeLaneGov l s = laneTakes l g (s.govTaken l g) := by
    unfold takeLaneGov
    rw [hw]
    exact congrArg (laneTakes l g) (takeOff_eq hw)
  rw [← taken]
  exact taken_now (f := takeLaneGov l) hr (by rw [hw]; rfl)

section
variable {s : State} {l : Lane}

theorem govTaken_state {st : LaneState} (g : Option Gov) (hs : (s.lane l).state = st) :
    ((s.govTaken l g).lane l).state = st := hs

theorem govTaken_metering (l : Lane) (g : Option Gov) :
    (s.govTaken l g).metering = true ↔ s.site.state = .metering := by
  simp [State.metering, State.govTaken]

theorem laneTakes_reads (g : Option Gov) (h : s.site.state ≠ .metering ∨ (s.lane l).state = .off ∨
    (s.lane l).state = .warning ∨ (s.lane l).state = .amber) :
    laneTakes l g (s.govTaken l g) = s.govRead l g := by
  unfold laneTakes
  obtain h | h | h | h := h
  · exact if_neg (mt (govTaken_metering l g).1 h)
  all_goals
    rw [govTaken_state g h]
    exact ite_self _

theorem laneTakes_green (g : Option Gov) (hm : s.site.state = .metering) (hs : (s.lane l).state = .green) :
    laneTakes l g (s.govTaken l g) =
      if govIs g .clearout then greenToOpen l (s.govRead l g) else tryEndGreen l (s.govRead l g) := by
  unfold laneTakes
  rw [govTaken_state g hs]
  exact if_pos ((govTaken_metering l g).2 hm)

theorem laneTakes_opened (g : Option Gov) (hm : s.site.state = .metering) (hs : (s.lane l).state = .opened) :
    laneTakes l g (s.govTaken l g) = tryCloseOpen l (s.govRead l g) := by
  unfold laneTakes
  rw [govTaken_state g hs]
  exact if_pos ((govTaken_metering l g).2 hm)

theorem laneTakes_red (g : Option Gov) (hm : s.site.state = .metering) (hs : (s.lane l).state = .red) :
    laneTakes l g (s.govTaken l g) = settleRed l (s.govRead l g) := by
  unfold laneTakes
  rw [govTaken_state g hs]
  exact if_pos ((govTaken_metering l g).2 hm)

/-- In METERING a lane that has read CLEAROUT stays OPEN, and any other OPEN closes from min_green. -/
theorem govRead_openCloses (g : Option Gov) (hm : s.site.state = .metering) (hs : (s.lane l).state = .opened) :
    (s.govRead l g).openCloses l = true ↔
      govIs g .clearout = false ∧ ∃ t0, (s.lane l).onsetAt = some t0 ∧ t0 + s.par .minGreen ≤ s.now := by
  rw [openCloses_iff, govRead_own]
  exact ⟨fun ⟨_, _, h⟩ => h, fun h => ⟨hs, hm, h⟩⟩

/-- In METERING a red opens that has read CLEAROUT, is past min_red and not queued. -/
theorem govRead_redOpens (g : Option Gov) (hm : s.site.state = .metering) (hs : (s.lane l).state = .red) :
    (s.govRead l g).redOpens l = true ↔
      govIs g .clearout = true ∧ (s.lane l).minRed = true ∧ (s.lane l).inQueue = false := by
  have site : (s.govRead l g).site.state = .metering := hm
  rw [redOpens_iff, govRead_own, site]
  simp [hs]
  tauto

end

/-- An operation of one lane that leaves the entry it read, and the other lanes. -/
def LaneAlone (l : Lane) (s t : State) : Prop :=
  (t.lane l).gov = (s.lane l).gov ∧ ∀ m, m ≠ l → t.lane m = s.lane m

theorem LaneAlone.refl (l : Lane) (s : State) : LaneAlone l s s := ⟨rfl, fun _ _ => rfl⟩

theorem LaneBecomes.alone {l : Lane} {r : LaneRec} {st : LaneState} {s t : State} (h : LaneBecomes l r st s t)
    (hr : r.gov = (s.lane l).gov) : LaneAlone l s t := ⟨by rw [h.1, hr], fun m hm => (h.2.2 m hm).1⟩

theorem Only.alone {bs : List Part} {s t : State} (h : Only bs s t) (l : Lane) (hb : Part.lanes ∉ bs := by decide) :
    LaneAlone l s t := by
  have lane := lane_of_lanes (s := s) (t := t) (h _ hb)
  exact ⟨by rw [lane], fun m _ => lane m⟩

theorem greenToOpen_alone (l : Lane) (s : State) : LaneAlone l s (greenToOpen l s) :=
  ⟨by rw [greenToOpen_lane, if_pos rfl], fun m hm => by rw [greenToOpen_lane, if_neg hm]⟩

theorem settleRed_alone (l : Lane) (s : State) : LaneAlone l s (settleRed l s) := by
  unfold settleRed
  split
  · have k : (armStopFlush (redToOpen l s)).lanes = (redToOpen l s).lanes := (armStopFlush_only _).same .lanes
    have h := (redToOpen_becomes s l).alone rfl
    exact ⟨by rw [lane_of_lanes k, h.1], fun m hm => by rw [lane_of_lanes k, h.2 m hm]⟩
  · exact (settleRequest_only l s).alone l

theorem tryEndGreen_alone (l : Lane) (s : State) : LaneAlone l s (tryEndGreen l s) := by
  unfold tryEndGreen
  split
  · exact (greenToAmber_becomes s l).alone rfl
  · exact LaneAlone.refl l s

theorem tryCloseOpen_alone (l : Lane) (s : State) : LaneAlone l s (tryCloseOpen l s) := by
  unfold tryCloseOpen
  split
  · exact (openToAmber_becomes s l).alone rfl
  · exact LaneAlone.refl l s

theorem laneTakes_alone (s : State) (l : Lane) (g : Option Gov) :
    LaneAlone l (s.govRead l g) (laneTakes l g (s.govTaken l g)) := by
  by_cases hm : s.site.state = .metering
  · cases hs : (s.lane l).state with
    | green =>
      rw [laneTakes_green g hm hs]
      split
      · exact greenToOpen_alone l _
      · exact tryEndGreen_alone l _
    | opened => exact laneTakes_opened g hm hs ▸ tryCloseOpen_alone l _
    | red => exact laneTakes_red g hm hs ▸ settleRed_alone l _
    | off | warning | amber => exact laneTakes_reads (s := s) (l := l) g (by simp [hs]) ▸ LaneAlone.refl l _
  · exact laneTakes_reads (l := l) g (.inl hm) ▸ LaneAlone.refl l _

/-- A green that opens commands no lamp (R60). -/
theorem greenToOpen_onlyLane (l : Lane) (s : State) : Only (.lanes :: endParts) s (greenToOpen l s) :=
  (((modLane_only s l _).mono (cs := .lanes :: endParts)).step (endRelease_only l _)).step (modLane_only _ l _)

/-- What becomes of a lane that has read an entry is said of the state before it. -/
theorem LaneBecomes.sinceRead {s t : State} {l : Lane} {g : Option Gov} {r : LaneRec} {st : LaneState}
    (h : LaneBecomes l r st (s.govRead l g) t) : LaneBecomes l r st s t :=
  h.since (fun m hm => (lane_govRead s l m g).trans (if_neg hm)) rfl

/-- A cut is said of the state before the entry was read. -/
theorem CutWritten.sinceRead {s t : State} {l : Lane} {g : Option Gov} (h : CutWritten l (s.govRead l g) t) :
    CutWritten l s t := by
  have own := govRead_own s l g
  have hrec := cutRecord_congr (govRead_only s l g) (l := l) (by rw [own]) (by rw [own]) (by rw [own])
  exact h.congr hrec.symm (by rw [own]) rfl rfl

/-- Settles O39: the state's case of `laneTakes`, and in it whether its condition stands. -/
theorem lanesTakeTheGoverningEntry : Obligations.LanesTakeTheGoverningEntry := by
  intro s l g hr hw
  have own := govRead_own s l g
  have kv := govRead_only s l g
  have reads : ∀ {t : State}, t = s.govRead l g → Only [.lanes, .handoffs] s t ∧
      t.lane l = { s.lane l with gov := g } ∧ t.handoffs = s.handoffs.erase (.laneGov l g) := by
    rintro _ rfl
    exact ⟨kv, own, rfl⟩
  obtain ⟨hgov, hothers⟩ := laneTakes_alone s l g
  refine ⟨_, exec_laneGoverningChange hr hw, by rw [hgov, own], fun m hm => ?_, fun h => ?_, fun hm hs hc => ?_,
    fun t0 hm hs hc ho => ?_, fun t0 hm hs hc ho ht => ?_, fun hm hs h => ?_, fun hm hs hc hf hq => ?_,
    fun hm hs h => ?_⟩
  · rw [hothers m hm, lane_govRead, if_neg hm]
  · exact reads (laneTakes_reads g h)
  · rw [laneTakes_green g hm hs, if_pos hc]
    refine ⟨(kv.mono (cs := .lanes :: endParts)).andThen (greenToOpen_onlyLane l _), ?_, ?_,
      (greenToOpen_cutWritten l _).sinceRead⟩
    · rw [greenToOpen_lane, if_pos rfl, own]
      rfl
    · rw [greenToOpen_handoffs, own]
      rfl
  · rw [laneTakes_green g hm hs, if_neg (by simp [hc])]
    have hover := greenOver_iff (s := s.govRead l g) (l := l) (t0 := t0) (by rw [own]; exact ho)
    rw [own] at hover
    refine ⟨fun hmin hend => ?_, fun hnot => reads (tryEndGreen_stands fun k => ?_)⟩
    · have h : (s.govRead l g).greenOver l := by
        refine hover.2 ⟨hs, hmin, ?_⟩
        obtain e | e | e | e := hend
        · exact .inr (.inr (.inr ⟨hm, e⟩))
        · exact .inr (.inr (.inl e))
        · exact .inl e
        · exact .inr (.inl e)
      rw [tryEndGreen_ends h]
      have becomes := (greenToAmber_becomes (s.govRead l g) l).sinceRead
      rw [own] at becomes
      refine ⟨(kv.mono (cs := laneParts)).andThen (greenToAmber_only l _), becomes, ?_,
        (greenToAmber_cutWritten l _).sinceRead⟩
      rw [greenToAmber_handoffs, own]
      rfl
    · obtain ⟨-, hmin, hend⟩ := hover.1 k
      obtain h | ⟨h1, h2, h3, h4⟩ := hnot
      · exact absurd hmin (Nat.not_le.2 h)
      · obtain ⟨d, hd, e⟩ | ⟨n, hn, e⟩ | e | ⟨-, e⟩ := hend
        · exact absurd e (Nat.not_le.2 (h3 d hd))
        · exact absurd e (Nat.not_le.2 (h4 n hn))
        · exact absurd (h2.symm.trans e) (by decide)
        · exact absurd (h1.symm.trans e) (by decide)
  · rw [laneTakes_opened g hm hs, tryCloseOpen_closes ((govRead_openCloses g hm hs).2 ⟨hc, t0, ho, ht⟩)]
    have becomes := (openToAmber_becomes (s.govRead l g) l).sinceRead
    rw [own] at becomes
    exact ⟨(kv.mono (cs := [.lanes, .lamps, .handoffs])).step (openToAmber_only l _), becomes, rfl⟩
  · refine reads ?_
    rw [laneTakes_opened g hm hs]
    refine tryCloseOpen_stands (Bool.eq_false_iff.2 fun k => ?_)
    obtain ⟨hc, t0, ho, ht⟩ := (govRead_openCloses g hm hs).1 k
    obtain h | h := h
    · exact absurd (hc.symm.trans h) (by decide)
    · exact absurd ht (Nat.not_le.2 (h t0 ho))
  · rw [laneTakes_red g hm hs, settleRed_opens (s := s.govRead l g) (show s.site.state ≠ .stopping by simp [hm])
      ((govRead_redOpens g hm hs).2 ⟨hc, hf, hq⟩)]
    have becomes := (redToOpen_becomes (s.govRead l g) l).sinceRead
    rw [own] at becomes
    exact ⟨(kv.mono (cs := [.lanes, .lamps, .handoffs])).step (redToOpen_only l _), becomes, rfl⟩
  · rw [laneTakes_red g hm hs, settleRed_stays]
    · exact ⟨kv.step (handoffs_only _ _), own, fun hs e => e ▸ rfl⟩
    · refine Bool.eq_false_iff.2 fun k => ?_
      obtain ⟨hc, hf, hq⟩ := (govRead_redOpens g hm hs).1 k
      simp [hc, hf, hq] at h

end Sys2Proof.Machine
end

section
/-! PROOFS. How an attempt to prove a lamp fails (R78 to R81, R83, R84): the rows that end one are one operation on one
lamp's record, `AttemptFailed`; and an on-phase that proves, and a stray. -/

namespace Sys2Proof.Machine

/-! ### One lamp read back -/

theorem lamp_modLamp_same (s : State) (l : Lane) (col : Colour) (f : LampRec → LampRec) :
    (s.modLamp l col f).lamp l col = f (s.lamp l col) := (lamp_modLamp ..).trans (if_pos ⟨rfl, rfl⟩)

theorem lamp_modLamp_other (s : State) {l m : Lane} {c d : Colour} (f : LampRec → LampRec) (h : m ≠ l ∨ d ≠ c) :
    (s.modLamp l c f).lamp m d = s.lamp m d :=
  (lamp_modLamp ..).trans (if_neg fun ⟨hm, hd⟩ => h.elim (· hm) (· hd))

/-! ### Failed attempts (R78, R79, R81, R83, R84) -/

/-- A failure that is noted and not reported: an amber's under RECORD (R84). -/
def State.notesOnly (s : State) (col : Colour) : Bool := col == .amber && s.par .amberFaultAction == 0

theorem notesOnly_iff (s : State) (col : Colour) :
    s.notesOnly col = true ↔ col = .amber ∧ s.par .amberFaultAction = 0 := by
  simp [State.notesOnly]

theorem lastAttemptFailed_faulty {l : Lane} {col : Colour} {s : State} (h : (s.lamp l col).fault ≠ .none) :
    lastAttemptFailed l col s = s.modLamp l col LampRec.endProving := if_neg h

theorem lastAttemptFailed_noted {l : Lane} {col : Colour} {s : State} (h : (s.lamp l col).fault = .none)
    (hn : s.notesOnly col = true) : lastAttemptFailed l col s =
      raise .lamp ((s.modLamp l col LampRec.endProving).modLamp l col (LampRec.failOff true)) := by
  obtain ⟨rfl, ha⟩ := (notesOnly_iff s col).1 hn
  exact (if_pos h).trans (if_pos ha)

theorem lastAttemptFailed_reported {l : Lane} {col : Colour} {s : State} (h : (s.lamp l col).fault = .none)
    (hn : s.notesOnly col = false) : lastAttemptFailed l col s =
      reportFailure ((s.modLamp l col LampRec.endProving).modLamp l col (LampRec.failOff false)) := by
  refine (if_pos h).trans ?_
  cases col with
  | red => rfl
  | green => rfl
  | amber => exact if_neg fun ha => by simp [State.notesOnly, ha] at hn

/-- A lamp re-driven for its next attempt (R78, R79). -/
def LampRec.redriven (now : Nat) (r : LampRec) : LampRec :=
  { r with
    retries := r.retries - 1
    proving := .proving
    window := if r.commanded = .on then some now else none
    lostFrom := none }

theorem attemptFailed_retries {l : Lane} {col : Colour} {s : State} (h : 0 < (s.lamp l col).retries) :
    attemptFailed l col s = s.modLamp l col (LampRec.redriven s.now) := if_pos h

theorem attemptFailed_last {l : Lane} {col : Colour} {s : State} (h : (s.lamp l col).retries = 0) :
    attemptFailed l col s = lastAttemptFailed l col s := if_neg (by omega)

/-- A failed attempt of a lamp whose record, its retries loaded and its cadence moved on, is `q`: the lamp is re-driven,
or stays with the fault it holds, or fails with its notice or its report (R83, R84). No other lamp and not the sign
changed. -/
structure AttemptFailed (l : Lane) (col : Colour) (q : LampRec) (s t : State) : Prop where
  only : Only [.lamps, .notices, .handoffs] s t
  sign : t.lamps.sign = s.lamps.sign
  others : ∀ m c, m ≠ l ∨ c ≠ col → t.lamp m c = s.lamp m c
  redriven : 0 < q.retries →
    t.lamp l col = q.redriven s.now ∧ t.link.notices = s.link.notices ∧ t.handoffs = s.handoffs
  faulty : q.retries = 0 → q.fault ≠ .none →
    t.lamp l col = q.endProving ∧ t.link.notices = s.link.notices ∧ t.handoffs = s.handoffs
  noted : q.retries = 0 → q.fault = .none → s.notesOnly col = true →
    t.lamp l col = q.endProving.failOff true ∧ t.link.notices = s.link.notices ||| Notice.lamp.bit ∧
      t.handoffs = s.handoffs
  reported : q.retries = 0 → q.fault = .none → s.notesOnly col = false →
    t.lamp l col = q.endProving.failOff false ∧ t.link.notices = s.link.notices ∧
      t.handoffs = s.handoffs ++ [.report]

theorem lastAttemptFailed_others (l : Lane) (col : Colour) (s : State) :
    (lastAttemptFailed l col s).lamps.sign = s.lamps.sign ∧
      ∀ m c, m ≠ l ∨ c ≠ col → (lastAttemptFailed l col s).lamp m c = s.lamp m c := by
  have twice : ∀ b m c, m ≠ l ∨ c ≠ col →
      ((s.modLamp l col LampRec.endProving).modLamp l col (LampRec.failOff b)).lamp m c = s.lamp m c :=
    fun b m c h => (lamp_modLamp_other _ _ h).trans (lamp_modLamp_other _ _ h)
  by_cases hf : (s.lamp l col).fault = .none
  · cases hn : s.notesOnly col
    · rw [lastAttemptFailed_reported hf hn]
      exact ⟨rfl, twice false⟩
    · rw [lastAttemptFailed_noted hf hn]
      exact ⟨rfl, twice true⟩
  · rw [lastAttemptFailed_faulty hf]
    exact ⟨rfl, fun m c h => lamp_modLamp_other _ _ h⟩

theorem attemptFailed_others (l : Lane) (col : Colour) (s : State) :
    (attemptFailed l col s).lamps.sign = s.lamps.sign ∧
      ∀ m c, m ≠ l ∨ c ≠ col → (attemptFailed l col s).lamp m c = s.lamp m c := by
  obtain h | h := Nat.eq_zero_or_pos (s.lamp l col).retries
  · rw [attemptFailed_last h]
    exact lastAttemptFailed_others l col s
  · rw [attemptFailed_retries h]
    exact ⟨rfl, fun m c h => lamp_modLamp_other _ _ h⟩

theorem attemptFailed_fails (l : Lane) (col : Colour) (s : State) :
    AttemptFailed l col (s.lamp l col) s (attemptFailed l col s) := by
  obtain ⟨sign, others⟩ := attemptFailed_others l col s
  have twice : ∀ b, ((s.modLamp l col LampRec.endProving).modLamp l col (LampRec.failOff b)).lamp l col =
      (s.lamp l col).endProving.failOff b := fun b => by rw [lamp_modLamp_same, lamp_modLamp_same]
  refine ⟨attemptFailed_only l col s, sign, others, fun h => ?_, fun h hf => ?_, fun h hf hn => ?_, fun h hf hn => ?_⟩
  · rw [attemptFailed_retries h]
    exact ⟨lamp_modLamp_same .., rfl, rfl⟩
  · rw [attemptFailed_last h, lastAttemptFailed_faulty hf]
    exact ⟨lamp_modLamp_same .., rfl, rfl⟩
  · rw [attemptFailed_last h, lastAttemptFailed_noted hf hn]
    exact ⟨twice true, rfl, rfl⟩
  · rw [attemptFailed_last h, lastAttemptFailed_reported hf hn]
    exact ⟨twice false, rfl, rfl⟩

/-- A loss of proof is a failed attempt of the lamp with its retries loaded (R81). -/
theorem proofLost_fails (l : Lane) (col : Colour) (s : State) :
    AttemptFailed l col { s.lamp l col with retries := s.par .lampRetries } s (proofLost l col s) := by
  have k := attemptFailed_fails l col (s.modLamp l col fun r => { r with retries := s.par .lampRetries })
  rw [lamp_modLamp_same] at k
  exact ⟨proofLost_only l col s, k.sign, fun m c h => (k.others m c h).trans (lamp_modLamp_other _ _ h), k.redriven,
    k.faulty, k.noted, k.reported⟩

/-- The cadence goes on after a failed attempt as it would have before it. -/
theorem AttemptFailed.nextPhase {l : Lane} {col : Colour} {q : LampRec} {s t : State} (h : AttemptFailed l col q s t) :
    AttemptFailed l col q.nextPhase s (t.modLamp l col LampRec.nextPhase) := by
  have own : ∀ {r : LampRec}, t.lamp l col = r → (t.modLamp l col LampRec.nextPhase).lamp l col = r.nextPhase :=
    fun e => e ▸ lamp_modLamp_same ..
  exact
    { only := h.only.step (modLamp_only t l col _)
      sign := h.sign
      others := fun m c hm => (lamp_modLamp_other _ _ hm).trans (h.others m c hm)
      redriven := fun h0 => (h.redriven h0).imp_left own
      faulty := fun h0 hf => (h.faulty h0 hf).imp_left own
      noted := fun h0 hf hn => (h.noted h0 hf hn).imp_left own
      reported := fun h0 hf hn => (h.reported h0 hf hn).imp_left own }

/-! ### The rows that end an attempt -/

theorem until_due {s : State} {t : Nat} (h : t ≤ s.now) : s.until t = 0 := Nat.sub_eq_zero_of_le h

theorem exec_provingWindowEnd {s : State} {l : Lane} {col : Colour} {t0 : Nat} (hr : s.resetIn = false)
    (hc : (s.lamp l col).commanded = .on) (hp : (s.lamp l col).proving = .proving)
    (hw : (s.lamp l col).window = some t0) (hd : t0 + s.par .lampProve ≤ s.now) :
    exec (.provingWindowEnd l col) s = .next (attemptFailed l col s) :=
  timed_now hr (by simp [State.windowIn, hc, hp, hw, until_due hd])

theorem exec_lossOfProof {s : State} {l : Lane} {col : Colour} {t0 : Nat} (hr : s.resetIn = false)
    (hc : (s.lamp l col).commanded = .on) (hp : (s.lamp l col).proving = .proven)
    (hw : (s.lamp l col).lostFrom = some t0) (hd : t0 + s.par .lampProve ≤ s.now) :
    exec (.lossOfProof l col) s = .next (proofLost l col s) :=
  timed_now hr (by simp [State.lostIn, hc, hp, hw, until_due hd])

theorem exec_flashOnPhaseEnd {s : State} {l : Lane} {col : Colour} {t0 : Nat} (hr : s.resetIn = false)
    (hc : (s.lamp l col).commanded = .flash) (he : (s.lamp l col).phaseEnd = some t0) (hd : t0 ≤ s.now) :
    exec (.flashOnPhaseEnd l col) s = .next (phaseEnds l col s) :=
  timed_now hr (by simp [State.phaseIn, hc, he, until_due hd])

theorem exec_strayMeasureExpiry {s : State} {l : Lane} {col : Colour} {t0 : Nat} (hr : s.resetIn = false)
    (hj : s.judging = true) (hc : (s.lamp l col).commanded = .off) (ho : (s.lamp l col).sensed = true)
    (hw : (s.lamp l col).window = some t0) (hd : t0 + s.par .lampProve < s.now) :
    exec (.strayMeasureExpiry l col) s = .next (strayFound l col s) :=
  timed_now hr (by simp [State.strayIn, State.strayFrom, hj, hc, ho, hw, until_due hd])

/-- The state after an on-phase in which the sense read ON (R79). -/
theorem phaseEnds_seen {s : State} {l : Lane} {col : Colour}
    (h : (s.lamp l col).phaseSeen = true ∨ (s.lamp l col).sensed = true) :
    phaseEnds l col s =
      (s.modLamp l col fun q => { q with proving := if q.proving = .proving then .proven else q.proving }).modLamp l col
        LampRec.nextPhase :=
  congrArg (State.modLamp · l col LampRec.nextPhase) (if_pos (by simpa using h))

/-- The state after a dark on-phase: a failed attempt of a lamp in proving, a loss of proof of a PROVEN one (R79, R81). -/
theorem phaseEnds_dark {s : State} {l : Lane} {col : Colour} (hp : (s.lamp l col).phaseSeen = false)
    (ho : (s.lamp l col).sensed = false) :
    phaseEnds l col s =
      (match (s.lamp l col).proving with
        | .proving => attemptFailed l col s
        | .proven => proofLost l col s
        | .unproven => s).modLamp l col LampRec.nextPhase :=
  congrArg (State.modLamp · l col LampRec.nextPhase) (if_neg (by simp [hp, ho]))

theorem phaseEnds_fails {s : State} {l : Lane} {col : Colour} {left : Nat} (hp : (s.lamp l col).phaseSeen = false)
    (ho : (s.lamp l col).sensed = false)
    (hl : ((s.lamp l col).proving = .proving ∧ left = (s.lamp l col).retries) ∨
      ((s.lamp l col).proving = .proven ∧ left = s.par .lampRetries)) :
    AttemptFailed l col { (s.lamp l col).nextPhase with retries := left } s (phaseEnds l col s) := by
  rw [phaseEnds_dark hp ho]
  obtain ⟨hv, rfl⟩ | ⟨hv, rfl⟩ := hl <;> rw [hv]
  · exact (attemptFailed_fails l col s).nextPhase
  · exact (proofLost_fails l col s).nextPhase

/-- The last attempt ends the proving; besides that only the fault can change, of a lamp with none. -/
theorem AttemptFailed.ended {l : Lane} {col : Colour} {q : LampRec} {s t : State} (h : AttemptFailed l col q s t)
    (h0 : q.retries = 0) : ∃ f b, t.lamp l col = { q.endProving with fault := f, noticeOnly := b } ∧
      (q.fault = .none → f = .failedOff) := by
  by_cases hf : q.fault = .none
  · cases hn : s.notesOnly col
    · exact ⟨_, _, (h.reported h0 hf hn).1, fun _ => rfl⟩
    · exact ⟨_, _, (h.noted h0 hf hn).1, fun _ => rfl⟩
  · exact ⟨_, _, (h.faulty h0 hf).1, fun k => absurd k hf⟩

/-- What a failed attempt leaves of the command, the output and the cadence. -/
theorem AttemptFailed.kept {l : Lane} {col : Colour} {q : LampRec} {s t : State} (h : AttemptFailed l col q s t) :
    (t.lamp l col).commanded = q.commanded ∧ (t.lamp l col).output = q.output ∧
      (t.lamp l col).phaseEnd = q.phaseEnd := by
  obtain h0 | h0 := Nat.eq_zero_or_pos q.retries
  · obtain ⟨f, b, own, -⟩ := h.ended h0
    rw [own]
    exact ⟨rfl, rfl, rfl⟩
  · rw [(h.redriven h0).1]
    exact ⟨rfl, rfl, rfl⟩

theorem judging_iff (s : State) : s.judging = true ↔ s.site.state ≠ .start ∧ s.site.state ≠ .lamptest := by
  simp [State.judging, State.startingUp]

/-- Settles O44: each of the three rows that end an attempt is one failed attempt, of the lamp with `left` retries and in
FLASH with its cadence moved on; then the on-phase that proves, and the stray. -/
theorem lampsProveRetryAndFail : Obligations.LampsProveRetryAndFail := by
  refine ⟨fun s l col i r t0 left hr e hi => ?_, fun s l col r t0 hr e => ⟨fun hc he hd hs => ?_,
    fun hc ho hw hd hs hl => ?_⟩⟩ <;> subst e
  · obtain ⟨t, q, hx, h, rfl, hc, ho, hf, he⟩ : ∃ t q, exec i s = .next t ∧ AttemptFailed l col q s t ∧
        q.retries = left ∧ q.commanded = (s.lamp l col).commanded ∧ q.output = (s.lamp l col).output ∧
        q.fault = (s.lamp l col).fault ∧
        q.phaseEnd = if (s.lamp l col).commanded = .flash then some (t0 + 10) else (s.lamp l col).phaseEnd := by
      obtain ⟨rfl, hc, hp, hw, hd, rfl⟩ | ⟨rfl, hc, hp, hw, hd, rfl⟩ | ⟨rfl, hc, he, hd, hp, ho, hl⟩ := hi
      · exact ⟨_, _, exec_provingWindowEnd hr hc hp hw hd, attemptFailed_fails l col s, rfl, rfl, rfl, rfl, by simp [hc]⟩
      · exact ⟨_, _, exec_lossOfProof hr hc hp hw hd, proofLost_fails l col s, rfl, rfl, rfl, rfl, by simp [hc]⟩
      · exact ⟨_, _, exec_flashOnPhaseEnd hr hc he hd, phaseEnds_fails hp ho hl, rfl, rfl, rfl, rfl,
          by simp [LampRec.nextPhase, hc, he]⟩
    obtain ⟨kc, ko, ke⟩ := h.kept
    rw [← hf, ← he, ← hc, ← ho]
    refine ⟨t, hx, h.only, h.sign, h.others, kc, ko, ke, fun h0 => ?_, fun h0 => ?_⟩
    · obtain ⟨own, hn, hh⟩ := h.redriven h0
      rw [own]
      exact ⟨rfl, rfl, rfl, rfl, hn, hh⟩
    · obtain ⟨f, b, own, failed⟩ := h.ended h0
      refine ⟨by rw [own]; rfl, by rw [own]; rfl, fun k => ?_, fun k => by rw [own]; exact failed k, fun k ha hz => ?_,
        fun k ha => ?_⟩
      · obtain ⟨own, hn, hh⟩ := h.faulty h0 k
        exact ⟨by rw [own]; rfl, hn, hh⟩
      · obtain ⟨own, hn, hh⟩ := h.noted h0 k ((notesOnly_iff s col).2 ⟨ha, hz⟩)
        exact ⟨by rw [own]; rfl, hn, hh⟩
      · obtain ⟨own, hn, hh⟩ := h.reported h0 k (Bool.eq_false_iff.2 fun n => by
          obtain ⟨na, nz⟩ := (notesOnly_iff s col).1 n
          exact ha.elim (· na) (· nz))
        exact ⟨by rw [own]; rfl, hn, hh⟩
  · refine ⟨_, exec_flashOnPhaseEnd hr hc he hd, ?_⟩
    rw [phaseEnds_seen hs]
    refine ⟨(modLamp_only s l col _).andThen (modLamp_only _ l col _), ?_,
      fun m c h => (lamp_modLamp_other _ _ h).trans (lamp_modLamp_other _ _ h)⟩
    rw [lamp_modLamp_same, lamp_modLamp_same, LampRec.nextPhase, he]
    rfl
  · have own := (lamp_strayFound l l col col s).trans (if_pos ⟨rfl, rfl⟩)
    refine ⟨_, exec_strayMeasureExpiry hr ((judging_iff s).2 ⟨hs, hl⟩) hc ho hw hd, strayFound_only l col s,
      by rw [own]; rfl, by rw [own]; rfl, by rw [own]; rfl, fun m c h => ?_, ?_⟩
    · exact (lamp_strayFound l m col c s).trans (if_neg fun ⟨hm, hd⟩ => h.elim (· hm) (· hd))
    · rw [handoffs_strayFound]
      by_cases hf : (s.lamp l col).fault = .failedOn <;> simp [hf]

end Sys2Proof.Machine
end

section
/-! PROOFS. A change of a lamp's sense (R77 to R81, R85): what it makes of the lamp's own record, and of the pair of the
head that must not show together. -/

namespace Sys2Proof.Machine

/-! ### The whole change: the lamp alone, the release of a HELD lamp, or a conflict -/

/-- No other head and not the sign changed. -/
def HeadAlone (l : Lane) (s t : State) : Prop := (∀ m, m ≠ l → t.head m = s.head m) ∧ t.lamps.sign = s.lamps.sign

theorem HeadAlone.trans {l : Lane} {s t u : State} (h : HeadAlone l s t) (k : HeadAlone l t u) : HeadAlone l s u :=
  ⟨fun m hm => (k.1 m hm).trans (h.1 m hm), k.2.trans h.2⟩

theorem modLamp_headAlone (s : State) (l : Lane) (col : Colour) (f : LampRec → LampRec) :
    HeadAlone l s (s.modLamp l col f) := ⟨fun m hm => (head_modHead s l m _).trans (if_neg hm), rfl⟩

theorem conflictFound_headAlone (l : Lane) (s : State) : HeadAlone l s (conflictFound l s) :=
  (modLamp_headAlone s l .red _).trans (modLamp_headAlone _ l .green _)

theorem exec_lampSenseChange {s : State} {l : Lane} {col : Colour} {on : Bool} (hr : s.resetIn = false)
    (h : (s.lamp l col).sensed ≠ on) : exec (.lampSenseChange l col on) s = .next (senseChange l col on s) :=
  (if_neg h).trans (if_neg (by simp [hr]))

/-- Red and green are the pair of a head that must not show together. -/
theorem oppositeOf_iff {col o : Colour} : oppositeOf col = some o ↔
    (col = .red ∨ col = .green) ∧ (o = .red ∨ o = .green) ∧ o ≠ col := by
  cases col <;> cases o <;> decide

/-- A lamp that goes out lets the HELD lamp of its pair be driven (R77). -/
theorem senseChange_dark {col o : Colour} (h : oppositeOf col = some o) (l : Lane) (s : State) :
    senseChange l col false s =
      (s.modLamp l col (LampRec.sense s.now false)).modLamp l o (LampRec.release s.now) := by
  simp [senseChange, h]

theorem senseChange_conflict {s : State} {l : Lane} {col o : Colour} (h : oppositeOf col = some o)
    (ho : (s.lamp l o).sensed = true) (hj : s.judging = true) :
    senseChange l col true s = conflictFound l (s.modLamp l col (LampRec.sense s.now true)) := by
  simp [senseChange, h, ho, hj]

/-- An amber, or a lamp that comes on alone of its pair: no other record is touched. -/
theorem senseChange_alone {s : State} {l : Lane} {col : Colour} {on : Bool}
    (h : ∀ o, oppositeOf col = some o → on = true ∧ (s.lamp l o).sensed = false) :
    senseChange l col on s = s.modLamp l col (LampRec.sense s.now on) := by
  unfold senseChange
  cases hp : oppositeOf col with
  | none => rfl
  | some o =>
    obtain ⟨rfl, hs⟩ := h o hp
    exact (if_pos rfl).trans (if_neg (by simp [hs]))

/-! ### The records of the lamp and of its pair -/

theorem LampRec.sense_keeps (now : Nat) (on : Bool) (r : LampRec) :
    (r.sense now on).sensed = on ∧ (r.sense now on).fault = r.fault := by
  unfold LampRec.sense
  cases r.commanded with
  | off => dsimp only; split <;> (try split) <;> exact ⟨rfl, rfl⟩
  | on => dsimp only; split <;> split <;> exact ⟨rfl, rfl⟩
  | flash => dsimp only; split <;> exact ⟨rfl, rfl⟩

/-- A lamp commanded OFF starts its stray measure, or ends one that runs (R80). -/
theorem LampRec.sense_off {now : Nat} {r : LampRec} (hc : r.commanded = .off) :
    r.sense now true = { r with sensed := true, proving := .proving, window := some now } ∧
      (r.window ≠ none → r.sense now false = { r with sensed := false, proving := .proven, window := none }) := by
  unfold LampRec.sense
  rw [hc]
  exact ⟨rfl, fun hw => if_pos (Option.isSome_iff_ne_none.2 hw)⟩

/-- A sense of ON proves a lamp commanded ON in its window, and ends the loss of a PROVEN one (R78, R81). -/
theorem LampRec.sense_on_lit {now : Nat} {r : LampRec} (hc : r.commanded = .on) :
    (r.proving = .proving → r.window ≠ none →
      r.sense now true = { r with sensed := true, proving := .proven, window := none }) ∧
    (r.window = none → r.sense now true = { r with sensed := true, lostFrom := none }) := by
  unfold LampRec.sense
  rw [hc]
  refine ⟨fun hp hw => (if_pos rfl).trans (if_pos ?_), fun hw => (if_pos rfl).trans (if_neg ?_)⟩
  · simp [hp, Option.isSome_iff_ne_none.2 hw]
  · simp [hw]

/-- A sense of OFF starts the loss of a PROVEN lamp (R81). -/
theorem LampRec.sense_on_dark {now : Nat} {r : LampRec} (hc : r.commanded = .on) (hp : r.proving = .proven) :
    r.sense now false = { r with sensed := false, lostFrom := some now } := by
  unfold LampRec.sense
  rw [hc]
  exact if_pos hp

/-- A change of sense in FLASH proves the lamp in an on-phase alone (R79). -/
theorem LampRec.sense_flash {now e : Nat} {on : Bool} {r : LampRec} (hc : r.commanded = .flash)
    (he : r.phaseEnd = some e) :
    r.sense now on = if e ≤ now + 5 ∧ now ≤ e then
      { r with sensed := on, phaseSeen := true, proving := if r.proving = .proving then .proven else r.proving }
      else { r with sensed := on } := by
  unfold LampRec.sense
  rw [hc]
  simp [LampRec.inPhase, he]

theorem LampRec.conflict_sensed (r : LampRec) : r.conflict.sensed = r.sensed := by
  unfold LampRec.conflict
  split <;> rfl

/-- A lamp of the pair lit against its command is FAILED-ON (R85). -/
theorem LampRec.conflict_off {r : LampRec} (hc : r.commanded = .off) :
    r.conflict.fault = .failedOn ∧ (r.fault ≠ .failedOn → r.conflict.proving = .unproven) := by
  unfold LampRec.conflict
  by_cases hf : r.fault = .failedOn
  · simp [hf]
  · rw [if_pos ⟨hc, hf⟩]
    exact ⟨rfl, fun _ => rfl⟩

theorem LampRec.conflict_lit {r : LampRec} (hc : r.commanded ≠ .off) : r.conflict = r := if_neg fun h => hc h.1

theorem lamp_conflictFound (l : Lane) (s : State) {col : Colour} (h : col = .red ∨ col = .green) :
    (conflictFound l s).lamp l col = (s.lamp l col).conflict := by
  obtain rfl | rfl := h
  · exact (lamp_modLamp_other _ _ (.inr (by decide))).trans (lamp_modLamp_same ..)
  · exact (lamp_modLamp_same ..).trans (congrArg _ (lamp_modLamp_other _ _ (.inr (by decide))))

/-- The record of either lamp of a pair in conflict once a sense of ON is taken: the command and the fault that count
are those before it. -/
theorem conflict_after_sense {l : Lane} {col x : Colour} {s : State} (hx : x = .red ∨ x = .green) :
    (conflictFound l (s.modLamp l col (LampRec.sense s.now true))).lamp l x =
      (if x = col then (s.lamp l x).sense s.now true else s.lamp l x).conflict := by
  rw [lamp_conflictFound l _ hx, lamp_modLamp]
  by_cases h : x = col <;> simp [h]

/-! ### The change in the state -/

/-- What a change of sense can be: taken alone, with the release of the other lamp of the pair, or a conflict. -/
theorem senseChange_cases (l : Lane) (col : Colour) (on : Bool) (s : State) :
    senseChange l col on s = s.modLamp l col (LampRec.sense s.now on) ∨
    (∃ o, oppositeOf col = some o ∧ senseChange l col on s =
      (s.modLamp l col (LampRec.sense s.now on)).modLamp l o (LampRec.release s.now)) ∨
    (∃ o, oppositeOf col = some o ∧ senseChange l col on s =
      conflictFound l (s.modLamp l col (LampRec.sense s.now on))) := by
  unfold senseChange
  cases oppositeOf col with
  | none => exact .inl rfl
  | some o =>
    dsimp only
    split
    · split
      · exact .inr (.inr ⟨o, rfl, rfl⟩)
      · exact .inl rfl
    · exact .inr (.inl ⟨o, rfl, rfl⟩)

theorem senseChange_headAlone (l : Lane) (col : Colour) (on : Bool) (s : State) :
    HeadAlone l s (senseChange l col on s) := by
  have own := modLamp_headAlone s l col (LampRec.sense s.now on)
  obtain h | ⟨o, -, h⟩ | ⟨o, -, h⟩ := senseChange_cases l col on s <;> rw [h]
  · exact own
  · exact own.trans (modLamp_headAlone _ l o _)
  · exact own.trans (conflictFound_headAlone l _)

theorem senseChange_sensed (l : Lane) (col : Colour) (on : Bool) (s : State) :
    ((senseChange l col on s).lamp l col).sensed = on := by
  have own := (congrArg LampRec.sensed (lamp_modLamp_same s l col (LampRec.sense s.now on))).trans
    (LampRec.sense_keeps ..).1
  obtain h | ⟨o, ho, h⟩ | ⟨o, ho, h⟩ := senseChange_cases l col on s <;> rw [h]
  · exact own
  · obtain ⟨-, -, hne⟩ := oppositeOf_iff.1 ho
    rw [lamp_modLamp_other _ _ (.inr hne.symm)]
    exact own
  · obtain ⟨hc, -, -⟩ := oppositeOf_iff.1 ho
    rw [lamp_conflictFound l _ hc, LampRec.conflict_sensed]
    exact own

/-- Where the pair has no conflict the lamp's record becomes what its sense makes of it, and nothing is reported. -/
theorem senseChange_own {s : State} {l : Lane} {col : Colour} {on : Bool}
    (h : col = .amber ∨ on = false ∨ ∀ o, (o = .red ∨ o = .green) → o ≠ col → (s.lamp l o).sensed = false) :
    (senseChange l col on s).lamp l col = (s.lamp l col).sense s.now on ∧
      (senseChange l col on s).handoffs = s.handoffs := by
  have alone : (∀ o, oppositeOf col = some o → on = true ∧ (s.lamp l o).sensed = false) →
      (senseChange l col on s).lamp l col = (s.lamp l col).sense s.now on ∧
        (senseChange l col on s).handoffs = s.handoffs := fun k => by
    rw [senseChange_alone k]
    exact ⟨lamp_modLamp_same .., rfl⟩
  cases hp : oppositeOf col with
  | none => exact alone fun o ho => by simp [hp] at ho
  | some o =>
    obtain ⟨-, ho, hne⟩ := oppositeOf_iff.1 hp
    cases on with
    | false =>
      rw [senseChange_dark hp]
      exact ⟨(lamp_modLamp_other _ _ (.inr hne.symm)).trans (lamp_modLamp_same ..), rfl⟩
    | true =>
      refine alone fun o' ho' => ⟨rfl, ?_⟩
      obtain rfl : o = o' := Option.some.inj (hp.symm.trans ho')
      obtain rfl | h | h := h
      · cases hp
      · cases h
      · exact h o ho hne

theorem LampRec.release_held {now : Nat} {r : LampRec} (h : r.output = .held) :
    (r.release now).output = .driven ∧
      (r.sensed = false → (r.release now).proving = .proving ∧ (r.release now).window = some now) := by
  unfold LampRec.release
  rw [if_pos h]
  exact ⟨rfl, fun hs => by simp [LampRec.driveOn, hs]⟩

theorem LampRec.release_not_held {now : Nat} {r : LampRec} (h : r.output ≠ .held) : r.release now = r := if_neg h

/-- Settles O43: the frame, then the conflict of a pair, the release of a HELD lamp, and the lamp's own record. -/
theorem senseChangesAreTaken : Obligations.SenseChangesAreTaken := by
  rintro s l col on r hr rfl
  refine ⟨fun h => if_pos h, fun h u e => ?_, fun h => ?_⟩
  · subst e
    exact (if_neg h).trans (if_pos rfl)
  obtain ⟨heads, sign⟩ := senseChange_headAlone l col on s
  refine ⟨_, exec_lampSenseChange hr h, senseChange_only l col on s, senseChange_sensed l col on s, heads, sign,
    fun hc hon hj o ho hne hs => ?_, fun o ho hc hne hon => ?_, fun hk => ?_⟩
  · subst hon
    rw [senseChange_conflict (oppositeOf_iff.2 ⟨hc, ho, hne⟩) hs (by simp [State.judging, hj])]
    refine ⟨rfl, fun x hx hoff => ?_, fun x hx hlit => ?_⟩
    all_goals rw [conflict_after_sense hx]
    · have k := LampRec.conflict_off (r := if x = col then (s.lamp l x).sense s.now true else s.lamp l x)
        (by split <;> simp [LampRec.sense_commanded, hoff])
      refine ⟨k.1, fun hf => k.2 ?_⟩
      split <;> simp [LampRec.sense_keeps, hf]
    · rw [LampRec.conflict_lit (by split <;> simp [LampRec.sense_commanded, hlit])]
      split <;> simp [LampRec.sense_keeps]
  · subst hon
    have e : (senseChange l col false s).lamp l o = (s.lamp l o).release s.now := by
      rw [senseChange_dark (oppositeOf_iff.2 ⟨hc, ho, hne⟩), lamp_modLamp_same, lamp_modLamp_other _ _ (.inr hne)]
    refine ⟨(senseChange_own (.inr (.inl rfl))).2, ?_⟩
    rw [e]
    exact ⟨LampRec.release_held, LampRec.release_not_held⟩
  · obtain ⟨own, waiting⟩ := senseChange_own hk
    rw [own]
    refine ⟨waiting, ?_, ?_, ?_, ?_, ?_, fun e hc he => ?_⟩
    · rintro hc rfl hp hw
      exact (LampRec.sense_on_lit hc).1 hp hw
    · rintro hc rfl hp
      exact LampRec.sense_on_dark hc hp
    · rintro hc rfl - hw
      exact (LampRec.sense_on_lit hc).2 hw
    · rintro hc rfl
      exact (LampRec.sense_off hc).1
    · rintro hc rfl hw
      exact (LampRec.sense_off hc).2 hw
    · rw [LampRec.sense_flash hc he]
      exact ⟨fun hin => if_pos hin, fun hout => if_neg (by omega)⟩

end Sys2Proof.Machine
end

section
/-! PROOFS. The command of a head and the outputs (R51, R75 to R80, R82): a lamp's record after its command, and when a
lamp and the sign are lit. -/

namespace Sys2Proof.Machine

/-! ### The command of one lamp -/

/-- What a head is asked to show by one of its lamps. -/
def Aspect.at (a : Aspect) : Colour → LampCmd
  | .red => a.red
  | .amber => a.amber
  | .green => a.green

/-- The break of R77: a red or green turned on waits while the other of its pair is sensed ON. -/
def State.breaks (s : State) (l : Lane) : Colour → Bool
  | .red => (s.lamp l .green).sensed
  | .amber => false
  | .green => (s.lamp l .red).sensed

theorem lamp_headCommand (l : Lane) (a : Aspect) (s : State) (col : Colour) :
    (headCommand l a s).lamp l col =
      (s.lamp l col).command s.now (s.par .lampRetries) (s.breaks l col) (a.at col) := by
  rw [State.lamp, head_headCommand, if_pos rfl]
  cases col <;> rfl

section Command

variable {now n : Nat} {r : LampRec}

theorem LampRec.command_same {hold : Bool} {cmd : LampCmd} (h : r.commanded = cmd) : r.command now n hold cmd = r :=
  if_pos h

theorem LampRec.command_off (hold : Bool) (h : r.commanded ≠ .off) : r.command now n hold .off = { r with
    commanded := .off, output := .dark, retries := n, proving := if r.sensed then .proving else .proven
    window := if r.sensed then some now else none, phaseEnd := none, phaseSeen := false, lostFrom := none } :=
  if_neg h

theorem LampRec.command_held (h : r.commanded ≠ .on) : r.command now n true .on = { r with
    commanded := .on, output := .held, retries := n, proving := .proving, window := none
    phaseEnd := none, phaseSeen := false, lostFrom := none } :=
  if_neg h

theorem LampRec.command_on (h : r.commanded ≠ .on) : r.command now n false .on = { r with
    commanded := .on, output := .driven, retries := n, proving := if r.sensed then .proven else .proving
    window := if r.sensed then none else some now, phaseEnd := none, phaseSeen := false, lostFrom := none } :=
  if_neg h

theorem LampRec.command_flash (hold : Bool) (h : r.commanded ≠ .flash) : r.command now n hold .flash = { r with
    commanded := .flash, output := .driven, retries := n, proving := if r.sensed then .proven else .proving
    window := none, phaseEnd := some (now + 5), phaseSeen := r.sensed, lostFrom := none } :=
  if_neg h

end Command

/-! ### The outputs -/

theorem lit_not_driven {now : Nat} {r : LampRec} (h : r.output ≠ .driven) : r.lit now = false := by
  simp [LampRec.lit, h]

theorem lit_steady {now : Nat} {r : LampRec} (h : r.output = .driven) (he : r.phaseEnd = none) : r.lit now = true := by
  simp [LampRec.lit, h, he]

/-- The cadence counted from the start of the on-phase now judged, which may lie ahead. -/
theorem lit_flash {now e : Nat} {r : LampRec} (h : r.output = .driven) (he : r.phaseEnd = some e) :
    r.lit now = true ↔ ((now : Int) - (e - 5)) % 10 < 5 := by
  have cadence : (now + 5 + 10 * e - e) % 10 < 5 ↔ ((now : Int) - (e - 5)) % 10 < 5 := by omega
  simpa [LampRec.lit, h, he] using cadence

theorem lampLit_running {s : State} (hr : s.resetIn = false) (l : Lane) (col : Colour) :
    s.lampLit l col = (s.lamp l col).lit s.now := by
  simp [State.lampLit, hr]

theorem signLit_running {s : State} (hr : s.resetIn = false) : s.signLit =
    match s.lamps.sign with
    | .off => false
    | .on => true
    | .flash => flashOn s.lamps.signFrom s.now := by
  unfold State.signLit
  rw [hr]
  rfl

/-- Settles O42: the lamps' outputs, the sign's output, the sign's command, and then the command of one head. -/
theorem headCommandsStartProving : Obligations.HeadCommandsStartProving := by
  refine ⟨⟨?_, fun s => ⟨fun h => ?_, fun hr h => ?_, fun hr h => ?_⟩, fun g => ⟨rfl, rfl, fun st hs hm => ?_⟩⟩, ?_⟩
  · rintro s l col r rfl
    refine ⟨fun h => ?_, fun hr ho he => ?_, fun e hr ho he => ?_⟩
    · obtain hr | ho := h
      · simp [State.lampLit, hr]
      · simp [State.lampLit, lit_not_driven ho]
    · rw [lampLit_running hr, lit_steady ho he]
    · rw [lampLit_running hr, lit_flash ho he]
  · obtain hr | hs := h
    · simp [State.signLit, hr]
    · simp [State.signLit, hs]
  · rw [signLit_running hr, h]
  · rw [signLit_running hr, h]
    exact decide_eq_true_iff
  · cases st with
    | starting => exact absurd rfl hs
    | metering => exact absurd rfl hm
    | start | lamptest | dark | stopping | failsafe => rfl
  · rintro l a s t rfl
    refine ⟨headCommand_only l a s, rfl, fun m hm => (head_headCommand s l m a).trans (if_neg hm), ?_⟩
    rintro col r cmd held rfl hcmd hheld
    have hcmd : cmd = a.at col := hcmd.trans (by cases col <;> rfl)
    have hheld : held = s.breaks l col := hheld.trans (by cases col <;> rfl)
    rw [lamp_headCommand, ← hcmd, ← hheld]
    refine ⟨LampRec.command_same, ?_, ?_, ?_, ?_⟩
    · rintro h rfl
      exact LampRec.command_off held h
    · rintro h rfl rfl
      exact LampRec.command_held h
    · rintro h rfl rfl
      exact LampRec.command_on h
    · rintro h rfl
      exact LampRec.command_flash held h

end Sys2Proof.Machine
end

section
/-! PROOFS. The merge is in one hand (R103, R106) over every step: a lane enters GREEN by a grant alone, which needs that no
release is open; a lane that leaves GREEN hands on the end of its release, or its release end is taken back with it. -/

namespace Sys2Proof.Machine

set_option Elab.async false

/-! ### Release ends on their way (R106) -/

/-- A release end of any lane. -/
def isEnd (h : Handoff) : Bool := allLanes.any (fun l => isReleaseEnd l h)

theorem isEnd_iff (h : Handoff) : isEnd h = true ↔ ∃ l g, h = .releaseEnd l g := by
  cases h <;> simp [isEnd, isReleaseEnd, mem_allLanes]

/-- Every release end of `t` was on its way in `s`. -/
def EndsFrom (s t : State) : Prop := (t.handoffs.filter isEnd).Sublist (s.handoffs.filter isEnd)

theorem endsFrom_of_handoffs {s t : State} (h : t.handoffs = s.handoffs) : EndsFrom s t := by
  unfold EndsFrom
  rw [h]

theorem endsFrom_of_sublist {s t : State} (h : t.handoffs.Sublist s.handoffs) : EndsFrom s t := h.filter _

theorem EndsFrom.mem {s t : State} (h : EndsFrom s t) {l : Lane} {g : BitVec 16}
    (ht : Handoff.releaseEnd l g ∈ t.handoffs) : Handoff.releaseEnd l g ∈ s.handoffs :=
  (List.mem_filter.1 (h.subset (List.mem_filter.2 ⟨ht, (isEnd_iff _).2 ⟨l, g, rfl⟩⟩))).1

theorem EndsFrom.count {s t : State} (h : EndsFrom s t) : t.handoffs.countP isEnd ≤ s.handoffs.countP isEnd := by
  rw [List.countP_eq_length_filter, List.countP_eq_length_filter]
  exact h.length_le

/-! ### The relation -/

/-- The merge is in one hand in `t` where it was in `s`. -/
def MergeKept (s t : State) : Prop := s.mergeSound → t.mergeSound

theorem MergeKept.refl (s : State) : MergeKept s s := id

theorem MergeKept.trans {s t u : State} (h : MergeKept s t) (k : MergeKept t u) : MergeKept s u := k ∘ h

theorem MergeKept.ite {s t u : State} {p : Prop} [Decidable p] (ht : p → MergeKept s t) (hu : ¬p → MergeKept s u) :
    MergeKept s (if p then t else u) := by
  split
  · exact ht (by assumption)
  · exact hu (by assumption)

/-- No release opens or closes, no release end is handed on, and no lane enters GREEN or changes its grant in it. -/
theorem mergeKept_of_quiet {s t : State} (ho : t.arb.openRelease = s.arb.openRelease) (he : EndsFrom s t)
    (hg : ∀ l, (t.lane l).state = .green → (s.lane l).state = .green ∧ (t.lane l).grant = (s.lane l).grant) :
    MergeKept s t := by
  rintro ⟨green, owned, few⟩
  refine ⟨fun l hl => ?_, fun l g hh => ?_, he.count.trans few⟩
  · obtain ⟨hs, grant⟩ := hg l hl
    rw [grant, ho]
    exact green l hs
  · obtain ⟨hr, hn⟩ := owned l g (he.mem hh)
    exact ⟨ho.trans hr, fun k => hn (hg l k).1⟩

/-- The lanes stand, and the open release. -/
theorem mergeKept_of_lanes {s t : State} (hl : t.lanes = s.lanes) (ho : t.arb.openRelease = s.arb.openRelease)
    (he : EndsFrom s t) : MergeKept s t :=
  mergeKept_of_quiet ho he fun l h => by
    rw [lane_of_lanes hl] at h ⊢
    exact ⟨h, rfl⟩

/-- An operation that leaves the arbiter, the lanes and what waits alone. -/
theorem Only.mergeKept {bs : List Part} {s t : State} (h : Only bs s t) (ha : Part.arb ∉ bs := by decide)
    (hl : Part.lanes ∉ bs := by decide) (hh : Part.handoffs ∉ bs := by decide) : MergeKept s t := by
  have arb : t.arb = s.arb := h _ ha
  exact mergeKept_of_lanes (h _ hl) (by rw [arb]) (endsFrom_of_handoffs (h _ hh))

/-- An operation of the arbiter that leaves the open release. -/
theorem Only.mergeKept_arb {bs : List Part} {s t : State} (h : Only bs s t)
    (ho : t.arb.openRelease = s.arb.openRelease := by rfl) (hl : Part.lanes ∉ bs := by decide)
    (hh : Part.handoffs ∉ bs := by decide) : MergeKept s t :=
  mergeKept_of_lanes (h _ hl) ho (endsFrom_of_handoffs (h _ hh))

theorem modArb_mergeKept (s : State) {f : Arbiter → Arbiter}
    (h : (f s.arb).openRelease = s.arb.openRelease := by rfl) : MergeKept s (s.modArb f) :=
  (modArb_only s f).mergeKept_arb h

/-- A signal that ends no release. -/
theorem send_mergeKept (h : Handoff) (s : State) (hn : isEnd h = false := by rfl) : MergeKept s (send h s) := by
  refine mergeKept_of_lanes rfl rfl ?_
  simp [EndsFrom, send, hn]

theorem takeOff_mergeKept (p : Handoff → Bool) (s : State) : MergeKept s (takeOff p s) :=
  mergeKept_of_lanes rfl rfl (endsFrom_of_sublist List.eraseP_sublist)

theorem cancel_mergeKept (p : Handoff → Bool) (s : State) : MergeKept s (cancel p s) :=
  mergeKept_of_lanes rfl rfl (endsFrom_of_sublist List.filter_sublist)

/-- A lane's record changes and neither enters GREEN nor, in it, changes its grant. -/
theorem modLane_mergeKept (s : State) (l : Lane) {f : LaneRec → LaneRec}
    (hf : ∀ r, (f r).state = .green → r.state = .green ∧ (f r).grant = r.grant := by exact fun _ h => ⟨h, rfl⟩) :
    MergeKept s (s.modLane l f) := by
  refine mergeKept_of_quiet rfl (endsFrom_of_handoffs rfl) fun m h => ?_
  rw [lane_modLane] at h ⊢
  by_cases hm : m = l
  · subst hm
    rw [if_pos rfl] at h ⊢
    exact hf _ h
  · rw [if_neg hm] at h ⊢
    exact ⟨h, rfl⟩

/-- A lane takes a state other than GREEN and ends no release. -/
theorem LaneBecomes.mergeKept {l : Lane} {r : LaneRec} {st : LaneState} {s t : State} (h : LaneBecomes l r st s t)
    (hr : r.state ≠ .green) (he : EndsFrom s t) (ho : t.arb.openRelease = s.arb.openRelease := by rfl) :
    MergeKept s t := by
  obtain ⟨own, -, others⟩ := h
  refine mergeKept_of_quiet ho he fun m hm => ?_
  by_cases e : m = l
  · rw [e, own] at hm
    exact absurd hm hr
  · rw [(others m e).1] at hm ⊢
    exact ⟨hm, rfl⟩

theorem mergeKept_stepRel : StepRel MergeKept where
  trans := MergeKept.trans
  tenths _ _ := mergeKept_of_lanes rfl rfl (endsFrom_of_handoffs rfl)
  onLine h := h.mergeKept

/-! ### No lane in GREEN and no release end on its way -/

/-- The merge is in nobody's hand. -/
structure MergeIdle (s : State) : Prop where
  noGreen : ∀ l, (s.lane l).state ≠ .green
  noEnd : ∀ l g, Handoff.releaseEnd l g ∉ s.handoffs

theorem MergeIdle.sound {s : State} (h : MergeIdle s) : s.mergeSound := by
  refine ⟨fun l hl => absurd hl (h.noGreen l), fun l g hh => absurd hh (h.noEnd l g), ?_⟩
  rw [List.countP_eq_zero.2 fun x hx he => ?_]
  · exact Nat.zero_le 1
  · obtain ⟨l, g, rfl⟩ := (isEnd_iff x).1 he
    exact h.noEnd l g hx

/-- With no release open nobody holds the merge. -/
theorem mergeIdle_of_closed {s : State} (h : s.mergeSound) (ho : s.arb.openRelease = none) : MergeIdle s := by
  obtain ⟨green, owned, -⟩ := h
  refine ⟨fun l hl => ?_, fun l g hh => ?_⟩
  · obtain ⟨g, -, release⟩ := green l hl
    exact absurd (ho.symm.trans release) nofun
  · obtain ⟨release, -⟩ := owned l g hh
    exact absurd (ho.symm.trans release) nofun

theorem MergeIdle.only {bs : List Part} {s t : State} (h : MergeIdle s) (k : Only bs s t)
    (hl : Part.lanes ∉ bs := by decide) (hh : Part.handoffs ∉ bs := by decide) : MergeIdle t := by
  have hand : t.handoffs = s.handoffs := k _ hh
  exact ⟨fun l => by rw [lane_of_lanes (k _ hl)]; exact h.noGreen l, fun l g => by rw [hand]; exact h.noEnd l g⟩

theorem powerUp_mergeKept (r s : State) : MergeKept r (powerUp s) := fun _ =>
  MergeIdle.sound ⟨fun l => by
    have e : (powerUp s).lane l = LaneRec.reset := Quad.get_all _ l
    rw [e]
    decide, fun _ _ => List.not_mem_nil⟩

/-! ### The lamp monitor and the stack -/

theorem lastAttemptFailed_mergeKept (l : Lane) (col : Colour) (s : State) :
    MergeKept s (lastAttemptFailed l col s) := by
  have ended : MergeKept s (s.modLamp l col LampRec.endProving) := (modLamp_only s l col _).mergeKept
  have failed : ∀ b m, MergeKept s ((s.modLamp l col LampRec.endProving).modLamp l m (LampRec.failOff b)) :=
    fun _ m => ended.trans (modLamp_only _ l m _).mergeKept
  have reported : ∀ m, MergeKept s
      (reportFailure ((s.modLamp l col LampRec.endProving).modLamp l m (LampRec.failOff false))) :=
    fun m => (failed false m).trans (send_mergeKept .report _)
  unfold lastAttemptFailed
  refine MergeKept.ite (fun _ => ?_) (fun _ => ended)
  cases col with
  | red => exact reported .red
  | green => exact reported .green
  | amber =>
    exact MergeKept.ite (fun _ => (failed true .amber).trans (raise_only _ _).mergeKept) (fun _ => reported .amber)

theorem attemptFailed_mergeKept (l : Lane) (col : Colour) (s : State) : MergeKept s (attemptFailed l col s) :=
  MergeKept.ite (fun _ => (modLamp_only s l col _).mergeKept) (fun _ => lastAttemptFailed_mergeKept l col s)

theorem proofLost_mergeKept (l : Lane) (col : Colour) (s : State) : MergeKept s (proofLost l col s) :=
  (modLamp_only s l col _).mergeKept.trans (attemptFailed_mergeKept l col _)

theorem strayFound_mergeKept (l : Lane) (col : Colour) (s : State) : MergeKept s (strayFound l col s) :=
  MergeKept.ite (fun _ => (modLamp_only s l col _).mergeKept)
    (fun _ => (modLamp_only s l col _).mergeKept.trans (send_mergeKept .report _))

theorem straysOfLane_mergeKept (l : Lane) (s : State) : MergeKept s (straysOfLane l s) := by
  have one : ∀ col t, MergeKept t (strayIfOver l col t) := fun col t => by
    unfold strayIfOver
    split
    · exact MergeKept.ite (fun _ => strayFound_mergeKept l col t) (fun _ => MergeKept.refl t)
    · exact MergeKept.refl t
  exact ((one .red s).trans (one .amber _)).trans (one .green _)

theorem phaseEnds_mergeKept (l : Lane) (col : Colour) (s : State) : MergeKept s (phaseEnds l col s) := by
  refine MergeKept.trans ?_ (modLamp_only _ l col _).mergeKept
  refine MergeKept.ite (fun _ => (modLamp_only s l col _).mergeKept) (fun _ => ?_)
  cases (s.lamp l col).proving with
  | proving => exact attemptFailed_mergeKept l col s
  | proven => exact proofLost_mergeKept l col s
  | unproven => exact MergeKept.refl s

theorem senseChange_mergeKept (l : Lane) (col : Colour) (on : Bool) (s : State) :
    MergeKept s (senseChange l col on s) := by
  have sensed : MergeKept s (s.modLamp l col (LampRec.sense s.now on)) := (modLamp_only s l col _).mergeKept
  have conflict : ∀ t, MergeKept t (conflictFound l t) := fun t =>
    ((modLamp_only t l .red _).mergeKept.trans (modLamp_only _ l .green _).mergeKept).trans (send_mergeKept .report _)
  unfold senseChange
  cases oppositeOf col with
  | none => exact sensed
  | some o =>
    refine MergeKept.ite (fun _ => MergeKept.ite (fun _ => sensed.trans (conflict _)) (fun _ => sensed)) (fun _ => ?_)
    exact sensed.trans (modLamp_only _ l o _).mergeKept

/-- A change of the governing entry hands on the entry alone. -/
theorem setStack_mergeKept (es : List Entry) (s : State) : MergeKept s (setStack es s) := by
  have k := setStack_only es s
  have arb : (setStack es s).arb = s.arb := k.same .arb
  refine mergeKept_of_lanes (k.same .lanes) (by rw [arb]) ?_
  have none : (govSignals s (setStack es s)).filter isEnd = [] := by
    unfold govSignals
    split <;> rfl
  simp [EndsFrom, setStack_handoffs, none]

theorem removeEntry_mergeKept (k : OvKind) (src : OvSource) (s : State) : MergeKept s (removeEntry k src s) :=
  setStack_mergeKept _ s

theorem automaticPush_mergeKept (e : Entry) (s : State) : MergeKept s (automaticPush e s) := by
  unfold automaticPush
  refine MergeKept.ite (fun _ => setStack_mergeKept _ s) (fun _ => MergeKept.ite (fun _ => setStack_mergeKept _ s)
    (fun _ => ?_))
  split
  · exact MergeKept.ite (fun _ => (raise_only _ s).mergeKept.trans (setStack_mergeKept _ _))
      (fun _ => (raise_only _ s).mergeKept)
  · exact MergeKept.refl s

theorem pushIfAsserted_mergeKept (s : State) : MergeKept s (pushIfAsserted s) :=
  MergeKept.ite (fun _ => automaticPush_mergeKept _ s) (fun _ => MergeKept.refl s)

theorem queueClears_mergeKept (l : Lane) (s : State) : MergeKept s (queueClears l s) := by
  have watching : MergeKept s (s.modQueueMon l (fun m => { m with state := .watching })) :=
    (modQueueMon_only l _ s).mergeKept
  exact MergeKept.ite (fun _ => watching.trans (removeEntry_mergeKept _ _ _)) (fun _ => watching)

theorem spillClears_mergeKept (s : State) : MergeKept s (spillClears s) := by
  have watching : MergeKept s (s.modSpillMon (fun m => { m with state := .watching })) :=
    (modSpillMon_only _ s).mergeKept
  exact MergeKept.ite (fun _ => watching.trans (removeEntry_mergeKept _ _ _)) (fun _ => watching)

theorem preemptAsserted_mergeKept (s : State) : MergeKept s (preemptAsserted s) := by
  have leveled : MergeKept s (setPreLevel true s) := (modOvr_only s _).mergeKept
  exact MergeKept.ite (fun _ => leveled.trans (automaticPush_mergeKept _ _)) (fun _ => leveled)

theorem preemptReleased_mergeKept (s : State) : MergeKept s (preemptReleased s) := by
  have leveled : MergeKept s (setPreLevel false s) := (modOvr_only s _).mergeKept
  exact MergeKept.ite (fun _ => leveled.trans (removeEntry_mergeKept _ _ _)) (fun _ => leveled)

/-! ### The detector channels and the merge monitor -/

theorem settleRequest_mergeKept (l : Lane) (s : State) : MergeKept s (settleRequest l s) :=
  MergeKept.ite (fun _ => MergeKept.refl s) (fun _ => MergeKept.ite (fun _ => send_mergeKept (.request l) s)
    (fun _ => MergeKept.ite (fun _ => send_mergeKept (.withdrawal l) s) (fun _ => MergeKept.refl s)))

theorem settleRequests_mergeKept (s : State) : MergeKept s (settleRequests s) :=
  mergeKept_stepRel.forAll settleRequest_mergeKept allLanes s

/-- A change of the merge monitor is handed to the arbiter, an entry to BUSY to the lanes too. -/
theorem setMerge_mergeKept (m : MergeMon) (s : State) : MergeKept s (setMerge m s) := by
  have k := setMerge_only m s
  have arb : (setMerge m s).arb = s.arb := k.same .arb
  refine mergeKept_of_lanes (k.same .lanes) (by rw [arb]) ?_
  have none : (mergeSignals s (setMerge m s)).filter isEnd = [] := by
    unfold mergeSignals
    split
    · rfl
    · split <;> rfl
  simp [EndsFrom, setMerge_handoffs, none]

theorem refresh_mergeKept (s : State) : MergeKept s (refresh s) :=
  ((setMerge_mergeKept s.mergeNow s).trans (refreshMonitors_only _).mergeKept).trans (settleRequests_mergeKept _)

theorem becomeStuck_mergeKept (c : Chan) (h : Health) (w : Cause) (s : State) : MergeKept s (becomeStuck c h w s) :=
  ((modChan_only s c _).mergeKept.trans (raise_only _ _).mergeKept).trans (refresh_mergeKept _)

theorem takeActuation_mergeKept (c : Chan) (s : State) : MergeKept s (takeActuation c s) := by
  have actuated := (modChan_only s c Channel.actuated).mergeKept
  have noticed : MergeKept s (if (s.chan c).health = .stuckOff then raise .detector (s.modChan c Channel.actuated)
      else s.modChan c Channel.actuated) :=
    MergeKept.ite (fun _ => actuated.trans (raise_only _ _).mergeKept) (fun _ => actuated)
  refine MergeKept.trans ?_ (refresh_mergeKept _)
  exact MergeKept.ite (fun _ => noticed.trans (send_mergeKept .advance _)) (fun _ => noticed)

theorem takeClaimOf_mergeKept (l : Lane) (s : State) : MergeKept s (takeClaimOf l s) := by
  unfold takeClaimOf
  split
  · exact (takeOff_mergeKept _ s).trans
      (MergeKept.ite (fun _ => becomeStuck_mergeKept _ _ _ _) (fun _ => MergeKept.refl _))
  · exact MergeKept.refl s

theorem forceGood_mergeKept (c : Chan) (s : State) : MergeKept s (forceGood c s) :=
  MergeKept.ite (fun _ => MergeKept.refl s)
    (fun _ => ((modChan_only s c _).mergeKept.trans (raise_only _ _).mergeKept).trans (refresh_mergeKept _))

/-! ### The lanes -/

theorem enterState_mergeKept (l : Lane) {st : LaneState} (s : State) (h : st ≠ .green := by decide) :
    MergeKept s (enterState l st s) :=
  MergeKept.trans (modLane_mergeKept s l (f := fun r => { r with state := st, entryAt := s.now, minRed := false })
    fun _ k => absurd k h) (headCommand_only l _ _).mergeKept

/-- A green ends: its lane leaves GREEN, and its release end is the only one. -/
theorem mergeKept_of_greenEnd {l : Lane} {s t : State} (hg : (s.lane l).state = .green)
    (ht : (t.lane l).state ≠ .green) (others : ∀ m, m ≠ l → t.lane m = s.lane m) (ha : t.arb = s.arb)
    (hh : t.handoffs = s.handoffs ++ (s.lane l).releaseEnds l) : MergeKept s t := by
  rintro ⟨green, owned, -⟩
  obtain ⟨g, grant, release⟩ := green l hg
  have noEnd : ∀ m g', Handoff.releaseEnd m g' ∉ s.handoffs := fun m g' hm => by
    obtain ⟨hr, hn⟩ := owned m g' hm
    obtain ⟨rfl, -⟩ : l = m ∧ g = g' := by simpa [release] using hr
    exact hn hg
  have none : s.handoffs.countP isEnd = 0 := List.countP_eq_zero.2 fun x hx he => by
    obtain ⟨m, g', rfl⟩ := (isEnd_iff x).1 he
    exact noEnd m g' hx
  rw [show (s.lane l).releaseEnds l = [.releaseEnd l g] by simp [LaneRec.releaseEnds, grant]] at hh
  refine ⟨fun m hm => ?_, fun m g' hm => ?_, ?_⟩
  · have hml : m ≠ l := fun e => ht (e ▸ hm)
    rw [others m hml] at hm ⊢
    rw [ha]
    exact green m hm
  · rw [hh, List.mem_append] at hm
    obtain hm | hm := hm
    · exact absurd hm (noEnd m g')
    · obtain ⟨rfl, rfl⟩ : m = l ∧ g' = g := by simpa using hm
      exact ⟨by rw [ha]; exact release, ht⟩
  · show t.handoffs.countP isEnd ≤ 1
    rw [hh, List.countP_append, none, Nat.zero_add]
    exact List.countP_le_length

theorem greenToAmber_mergeKept {l : Lane} {s : State} (hg : (s.lane l).state = .green) :
    MergeKept s (greenToAmber l s) := by
  obtain ⟨own, -, others⟩ := greenToAmber_becomes s l
  exact mergeKept_of_greenEnd hg (by rw [own]; simp [LaneRec.toAmber]) (fun m hm => (others m hm).1)
    ((greenToAmber_only l s).same .arb) (greenToAmber_handoffs l s)

theorem greenToOpen_mergeKept {l : Lane} {s : State} (hg : (s.lane l).state = .green) :
    MergeKept s (greenToOpen l s) :=
  mergeKept_of_greenEnd hg (by rw [greenToOpen_lane, if_pos rfl]; simp)
    (fun m hm => by rw [greenToOpen_lane, if_neg hm]) ((greenToOpen_only l s).same .arb) (greenToOpen_handoffs l s)

theorem tryEndGreen_mergeKept (l : Lane) (s : State) : MergeKept s (tryEndGreen l s) :=
  MergeKept.ite (fun h => greenToAmber_mergeKept h.1) (fun _ => MergeKept.refl s)

theorem openToAmber_mergeKept (l : Lane) (s : State) : MergeKept s (openToAmber l s) :=
  (openToAmber_becomes s l).mergeKept (by simp [LaneRec.toAmber]) (endsFrom_of_handoffs rfl)

theorem tryCloseOpen_mergeKept (l : Lane) (s : State) : MergeKept s (tryCloseOpen l s) :=
  MergeKept.ite (fun _ => openToAmber_mergeKept l s) (fun _ => MergeKept.refl s)

theorem redToOpen_mergeKept (l : Lane) (s : State) : MergeKept s (redToOpen l s) :=
  (redToOpen_becomes s l).mergeKept (by simp [LaneRec.toOpen]) (endsFrom_of_sublist List.filter_sublist)

theorem settleRed_mergeKept (l : Lane) (s : State) : MergeKept s (settleRed l s) :=
  MergeKept.ite (fun _ => (redToOpen_mergeKept l s).trans (armStopFlush_only _).mergeKept)
    (fun _ => settleRequest_mergeKept l s)

theorem settleReds_mergeKept (s : State) : MergeKept s (settleReds s) :=
  mergeKept_stepRel.forAll settleRed_mergeKept allLanes s

theorem chainNoShow_mergeKept (l : Lane) (s : State) : MergeKept s (chainNoShow l s) := by
  unfold chainNoShow
  split
  · exact modLane_mergeKept s l
  · exact MergeKept.ite (fun _ => MergeKept.trans (modLane_mergeKept s l) (send_mergeKept (.claim l _) _))
      (fun _ => modLane_mergeKept s l)

theorem goRed_mergeKept (l : Lane) (s : State) : MergeKept s (goRed l s) := by
  have decided : ∀ t, MergeKept t (noShowDecision l t) := fun t =>
    MergeKept.ite (fun _ => ((writeRec_only _ t).mergeKept.trans (countLane_only l _ _).mergeKept).trans
      (chainNoShow_mergeKept l _)) (fun _ => MergeKept.refl t)
  exact ((enterState_becomes s l .red _).mergeKept (by simp) (endsFrom_of_handoffs rfl)).trans (decided _)

/-- A passage is counted toward a grant that stays. -/
theorem passageCounted_mergeKept (l : Lane) (s : State) : MergeKept s (passageCounted l s) := by
  have k := passageCounted_only l s
  have arb : (passageCounted l s).arb = s.arb := k.same .arb
  refine mergeKept_of_quiet (by rw [arb]) (endsFrom_of_handoffs (k.same .handoffs)) fun m hm => ?_
  rw [lane_passageCounted] at hm ⊢
  split at hm
  · next e => rw [if_pos e, e]; exact ⟨hm, rfl⟩
  · next e => rw [if_neg e]; exact ⟨hm, rfl⟩

theorem passage_mergeKept (l : Lane) (s : State) : MergeKept s (passage l s) := by
  by_cases h : s.mode l = .unused
  · rw [show passage l s = s from if_pos h]
    exact MergeKept.refl s
  · rw [passage_eq h]
    exact (passageCounted_mergeKept l s).trans (tryEndGreen_mergeKept l _)

theorem takeBusy_mergeKept (l : Lane) (s : State) : MergeKept s (takeBusy l s) :=
  MergeKept.ite (fun _ => MergeKept.trans (modLane_mergeKept s l) (tryEndGreen_mergeKept l _))
    (fun _ => MergeKept.refl s)

theorem laneTakes_mergeKept (l : Lane) (g : Option Gov) (s : State) : MergeKept s (laneTakes l g s) := by
  have read : MergeKept s (s.modLane l (fun r => { r with gov := g })) := modLane_mergeKept s l
  unfold laneTakes
  refine MergeKept.ite (fun _ => ?_) (fun _ => read)
  cases hs : (s.lane l).state with
  | green =>
    refine read.trans (MergeKept.ite (fun _ => greenToOpen_mergeKept ?_) (fun _ => tryEndGreen_mergeKept l _))
    rw [lane_modLane, if_pos rfl]
    exact hs
  | opened => exact read.trans (tryCloseOpen_mergeKept l _)
  | red => exact read.trans (settleRed_mergeKept l _)
  | off | warning | amber => exact read

theorem takeLaneGov_mergeKept (l : Lane) (s : State) : MergeKept s (takeLaneGov l s) := by
  unfold takeLaneGov
  split
  · exact (takeOff_mergeKept _ s).trans (laneTakes_mergeKept _ _ _)
  · exact MergeKept.refl s

theorem takeClearing_mergeKept (c : Chan) (s : State) : MergeKept s (takeClearing c s) := by
  have cleared := (modChan_only s c Channel.cleared).mergeKept
  have noticed : MergeKept s (if (s.chan c).health = .stuckOn then raise .detector (s.modChan c Channel.cleared)
      else s.modChan c Channel.cleared) :=
    MergeKept.ite (fun _ => cleared.trans (raise_only _ _).mergeKept) (fun _ => cleared)
  unfold takeClearing
  dsimp only
  split
  · exact (noticed.trans (passage_mergeKept _ _)).trans (refresh_mergeKept _)
  · exact noticed.trans (refresh_mergeKept _)

theorem takeIfHeld_mergeKept (c : Chan) (s : State) : MergeKept s (takeIfHeld c s) :=
  MergeKept.ite (fun _ => takeActuation_mergeKept c s)
    (fun _ => MergeKept.ite (fun _ => takeClearing_mergeKept c s) (fun _ => MergeKept.refl s))

theorem inputChange_mergeKept (c : Chan) (on : Bool) (s : State) : MergeKept s (inputChange c on s) :=
  MergeKept.ite (fun _ => MergeKept.refl s)
    (fun _ => (modChan_only s c _).mergeKept.trans (takeIfHeld_mergeKept c _))

theorem configure_mergeKept (c : Chan) (k : ChanConfig) (s : State) : MergeKept s (configure c k s) := by
  have changed : ∀ f, MergeKept s (s.modChan c f) := fun f => (modChan_only s c f).mergeKept
  have taken : ∀ t, MergeKept s t → MergeKept s (takeIfHeld c (refresh t)) :=
    fun t h => (h.trans (refresh_mergeKept t)).trans (takeIfHeld_mergeKept c _)
  have stick : ∀ t, MergeKept t (stickIfOver c t) := fun t =>
    MergeKept.ite (fun _ => becomeStuck_mergeKept c _ _ t) (fun _ => MergeKept.refl t)
  refine MergeKept.ite (fun _ => MergeKept.refl s) (fun _ => MergeKept.ite (fun _ => ?_) (fun _ => ?_))
  · exact (taken _ (changed _)).trans (stick _)
  · exact taken _ (MergeKept.ite (fun _ => changed _) (fun _ => (changed _).trans (raise_only _ _).mergeKept))

/-! ### The arbiter -/

theorem deriveHold_mergeKept (s : State) : MergeKept s (deriveHold s) := modArb_mergeKept s

theorem settle_mergeKept (s : State) : MergeKept s (settle s) :=
  (settle_only s).mergeKept_arb (by rw [settle_arb])

theorem settleIfLoose_mergeKept (s : State) : MergeKept s (settleIfLoose s) := by
  unfold settleIfLoose
  cases s.arb.own with
  | free | yielding | held => exact settle_mergeKept s
  | shut | releasing => exact MergeKept.refl s

theorem rederive_mergeKept (s : State) : MergeKept s (rederive s) :=
  MergeKept.ite (fun _ => MergeKept.refl s) (fun _ => (deriveHold_mergeKept s).trans (settleIfLoose_mergeKept _))

/-- The open release is kept as the arbiter enters SHUT with a green still to end (R93). -/
theorem enterShut_mergeKept (s : State) : MergeKept s (enterShut true s) :=
  mergeKept_of_quiet rfl (endsFrom_of_handoffs rfl) fun l h => by
    have e : (enterShut true s).lane l = { s.lane l with inQueue := false } := Quad.get_map _ _ l
    rw [e] at h ⊢
    exact ⟨h, rfl⟩

theorem leaveShut_mergeKept (s : State) : MergeKept s (leaveShut s) :=
  ((openedArb_only s).mergeKept_arb.trans (settle_mergeKept _)).trans (settleRequests_mergeKept _)

theorem arbiterTakes_mergeKept (g : Option Gov) (s : State) : MergeKept s (arbiterTakes g s) := by
  have read : MergeKept s (s.modArb (fun a => { a with gov := g })) := modArb_mergeKept s
  have checked : ∀ t, MergeKept t (checkInterval t) := fun t =>
    MergeKept.ite (fun _ => modArb_mergeKept t) (fun _ => MergeKept.refl t)
  refine MergeKept.ite (fun _ => MergeKept.ite (fun _ => MergeKept.ite (fun _ => read) (fun _ => ?_))
    (fun _ => MergeKept.ite (fun _ => ?_) (fun _ => ?_))) (fun _ => read)
  · exact (read.trans (enterShut_mergeKept _)).trans (settleReds_mergeKept _)
  · exact read.trans (leaveShut_mergeKept _)
  · exact (read.trans (checked _)).trans (rederive_mergeKept _)

theorem takeArbiterGov_mergeKept (s : State) : MergeKept s (takeArbiterGov s) := by
  unfold takeArbiterGov
  split
  · exact (takeOff_mergeKept _ s).trans (arbiterTakes_mergeKept _ _)
  · exact MergeKept.refl s

theorem enqueue_mergeKept (l : Lane) (s : State) : MergeKept s (enqueue l s) :=
  MergeKept.trans (modArb_mergeKept s (by split <;> rfl)) (modLane_mergeKept _ l)

theorem unqueue_mergeKept (l : Lane) (s : State) : MergeKept s (unqueue l s) :=
  MergeKept.trans (modArb_mergeKept s) (modLane_mergeKept _ l)

theorem takeRequest_mergeKept (l : Lane) (s : State) : MergeKept s (takeRequest l s) :=
  MergeKept.ite (fun _ => MergeKept.refl s) (fun _ => enqueue_mergeKept l s)

theorem takeWithdrawal_mergeKept (l : Lane) (s : State) : MergeKept s (takeWithdrawal l s) :=
  MergeKept.ite (fun _ => unqueue_mergeKept l s) (fun _ => MergeKept.refl s)

theorem takeAdvance_mergeKept (s : State) : MergeKept s (takeAdvance s) :=
  MergeKept.ite (fun _ => MergeKept.trans (modArb_mergeKept s) (rederive_mergeKept _)) (fun _ => MergeKept.refl s)

theorem reservationOver_mergeKept (s : State) : MergeKept s (reservationOver s) :=
  MergeKept.trans (((modArb_mergeKept s).trans (countSlip_only _ _).mergeKept).trans (raise_only _ _).mergeKept)
    (rederive_mergeKept _)

/-! ### The release end (R106) -/

/-- The release end taken was the only one, and its lane the only one that could be in GREEN. -/
theorem takeOff_mergeIdle {l m : Lane} {g : BitVec 16} {s : State} (h : s.mergeSound)
    (hw : s.waiting (isReleaseEnd l) = some (.releaseEnd m g)) : MergeIdle (takeOff (isReleaseEnd l) s) := by
  obtain ⟨green, owned, few⟩ := h
  have hm : Handoff.releaseEnd m g ∈ s.handoffs := List.mem_of_find?_eq_some hw
  obtain ⟨release, left⟩ := owned m g hm
  have none : (takeOff (isReleaseEnd l) s).handoffs.countP isEnd = 0 := by
    have e : isEnd (.releaseEnd m g) = true := (isEnd_iff _).2 ⟨m, g, rfl⟩
    have few' : s.handoffs.countP isEnd ≤ 1 := few
    rw [takeOff_handoffs hw, List.countP_erase]
    simp only [hm, e, and_self, if_true]
    omega
  refine ⟨fun k hk => ?_, fun k g' hk => ?_⟩
  · obtain ⟨g', -, r⟩ := green k hk
    obtain ⟨rfl, -⟩ : m = k ∧ g = g' := by simpa [release] using r
    exact left hk
  · exact List.countP_eq_zero.1 none _ hk ((isEnd_iff _).2 ⟨k, g', rfl⟩)

theorem releaseEnded_only (s : State) : Only [.arb, .counts] s (releaseEnded s) := by
  have e := (modArb_only s (fun a =>
    { a with
      openRelease := none
      reservation := if a.reservation = .granted then .none else a.reservation })).mono (cs := [.arb, .counts])
  exact Only.ite (fun _ => e) (fun _ => (e.step (deriveHold_only _)).step (settle_only _))

theorem takeReleaseEnd_mergeKept (l : Lane) (s : State) : MergeKept s (takeReleaseEnd l s) := by
  unfold takeReleaseEnd
  split
  · next m g hw =>
    refine MergeKept.ite (fun _ h => ?_) (fun _ => takeOff_mergeKept _ s)
    exact ((takeOff_mergeIdle h hw).only (releaseEnded_only _)).sound
  · exact MergeKept.refl s

/-! ### The grant (R103, R104) -/

/-- A lane enters GREEN with the grant of the release just opened, in nobody's hand before. -/
theorem enterGreen_sound {l : Lane} {g : BitVec 16} {f : LaneRec → LaneRec} {s : State} (h : MergeIdle s)
    (ho : s.arb.openRelease = some (l, g)) (hf : ∀ r, (f r).grant = some g) :
    ((enterState l .green s).modLane l f).mergeSound := by
  obtain ⟨-, -, few⟩ := h.sound
  refine ⟨fun m hm => ?_, fun m g' hm => absurd hm (h.noEnd m g'), few⟩
  by_cases e : m = l
  · subst e
    exact ⟨g, by rw [lane_modLane, if_pos rfl]; exact hf _, ho⟩
  · rw [lane_modLane, if_neg e, lane_enterState, if_neg e] at hm
    exact absurd hm (h.noGreen m)

theorem takeGrant_sound {l : Lane} {g : BitVec 16} (n : Nat) {s : State} (h : MergeIdle s)
    (ho : s.arb.openRelease = some (l, g)) : (takeGrant l g n s).mergeSound := by
  have granted := enterGreen_sound (f := fun r =>
    { r with
      onsetAt := some s.now
      grant := some g
      size := some n
      greenFor := some (s.greenTime n)
      passages := 0
      cut := false
      inQueue := false }) h ho fun _ => rfl
  unfold takeGrant
  dsimp only
  split
  · refine greenToOpen_mergeKept ?_ granted
    rw [lane_modLane, if_pos rfl, lane_enterState, if_pos rfl]
  · exact granted

/-- Leaving the queue changes no lane's state and hands nothing on. -/
theorem unqueue_mergeIdle (l : Lane) {s : State} (h : MergeIdle s) : MergeIdle (unqueue l s) where
  noGreen m := by
    rw [lane_unqueue]
    split
    · exact h.noGreen l
    · exact h.noGreen m
  noEnd := h.noEnd

theorem promote_mergeIdle (l : Lane) {s : State} (h : MergeIdle s) : MergeIdle (promote l s) := by
  unfold promote
  split
  · exact h
  · refine forAll_keeps (P := MergeIdle) (fun x _ => unqueue_mergeIdle x) _ ?_
    exact (h.only (modPlans_only s _)).only (clampCredits_only _)

theorem grantUnder_sound (p : Plan) (l : Lane) {s : State} (h : MergeIdle s) : (grantUnder p l s).mergeSound := by
  have idle : MergeIdle (unqueue l (s.modArb (Arbiter.granted l (s.isPriority l) s.governingInterval))) :=
    unqueue_mergeIdle l (h.only (modArb_only s _))
  exact settleReds_mergeKept _ (takeGrant_sound p.size (idle.only (countGrant_only l _)) rfl)

/-- A grant starts with no release open. -/
theorem closed_of_grantee {s : State} {c : Lane × Bool} (h : s.grantee = some c) : s.arb.openRelease = none := by
  cases ho : s.arb.openRelease with
  | none => rfl
  | some o => simp [State.grantee, State.mayGrant, ho] at h

theorem grantNow_mergeKept (s : State) : MergeKept s (grantNow s) := by
  unfold grantNow
  split
  · next c hc =>
    unfold makeGrant
    split
    · exact MergeKept.refl s
    · intro h
      have idle := mergeIdle_of_closed h (closed_of_grantee hc)
      refine grantUnder_sound _ _ (promote_mergeIdle _ ?_)
      split
      · exact idle.only (refillCredits_only s)
      · exact idle
  · exact MergeKept.refl s

/-! ### The site -/

theorem enterDark_mergeKept (s : State) : MergeKept s (enterDark s) := (enterDark_only s).mergeKept

/-- Going dark puts every lane OFF and takes its release end back. -/
theorem darken_mergeKept (s : State) : MergeKept s (darken s) := fun _ =>
  MergeIdle.sound ⟨fun l => by rw [darken_lane]; simp [LaneRec.toOff], darken_noReleaseEnd s⟩

theorem enterFailsafe_mergeKept (s : State) : MergeKept s (enterFailsafe s) :=
  (((enterSite_only _ s).mergeKept.trans (darken_mergeKept _)).trans (syncSign_only _).mergeKept).trans
    (raise_only _ _).mergeKept

theorem siteToDark_mergeKept (s : State) : MergeKept s (siteToDark s) := by
  have dark := (((enterSite_only .dark s).mergeKept.trans (darken_mergeKept _)).trans
    (pushIfAsserted_mergeKept _)).trans (syncSign_only _).mergeKept
  exact MergeKept.ite (fun _ => dark) (fun _ => dark.trans (raise_only _ _).mergeKept)

theorem enterStarting_mergeKept (s : State) : MergeKept s (enterStarting s) := by
  have warn : ∀ l t, MergeKept t (warnLane l t) := fun l t =>
    MergeKept.ite (fun _ => enterState_mergeKept l t) (fun _ => MergeKept.refl t)
  exact ((modSite_only s _).mergeKept.trans (mergeKept_stepRel.forAll warn allLanes _)).trans
    (syncSign_only _).mergeKept

theorem takeGoverning_mergeKept (s : State) : MergeKept s (takeGoverning s) :=
  mergeKept_of_quiet rfl (endsFrom_of_sublist List.filter_sublist) fun l h => by
    rw [lane_takeGoverning] at h ⊢
    exact ⟨h, rfl⟩

theorem enterMetering_mergeKept (s : State) : MergeKept s (enterMetering s) := by
  have reds : ∀ t, MergeKept t (forAll allLanes firstRed t) := mergeKept_stepRel.forAll (fun l t =>
    MergeKept.ite (fun _ => goRed_mergeKept l t) (fun _ => MergeKept.refl t)) allLanes
  have taken : ∀ t, MergeKept t (refreshMonitors (restartStuckOff (takeGoverning t))) := fun t =>
    ((takeGoverning_mergeKept t).trans (restartStuckOff_only _).mergeKept).trans (refreshMonitors_only _).mergeKept
  have left : ∀ t, MergeKept t (leaveShutIfOpen t) := fun t =>
    MergeKept.ite (fun _ => MergeKept.refl t) (fun _ => leaveShut_mergeKept t)
  unfold enterMetering
  exact (((((enterSite_only _ s).mergeKept.trans (reds _)).trans (taken _)).trans (left _)).trans
    (syncSign_only _).mergeKept).trans (raise_only _ _).mergeKept

theorem enterStopping_mergeKept (s : State) : MergeKept s (enterStopping s) := by
  have turn : ∀ l t, MergeKept t (makeForOpen l t) := fun l t => by
    unfold makeForOpen
    cases h : (t.lane l).state with
    | green => exact greenToOpen_mergeKept h
    | red => exact settleRed_mergeKept l t
    | off | warning | amber | opened => exact MergeKept.refl t
  have left : MergeKept s (leaveMetering (enterSite .stopping s)) :=
    ((enterSite_only _ s).mergeKept.trans (refreshMonitors_only _).mergeKept).trans (setStack_mergeKept _ _)
  unfold enterStopping
  exact (((left.trans (enterShut_mergeKept _)).trans (mergeKept_stepRel.forAll turn allLanes _)).trans
    (syncSign_only _).mergeKept).trans (armStopFlush_only _).mergeKept

theorem finishToDark_mergeKept (s : State) : MergeKept s (finishToDark s) := by
  have shown : ∀ l t, MergeKept t (shownOff l t) := fun l t =>
    MergeKept.ite (fun _ => MergeKept.refl t)
      (fun _ => (offLane_becomes t l).mergeKept (by simp [LaneRec.toOff]) (endsFrom_of_handoffs rfl))
  exact (mergeKept_stepRel.forAll shown allLanes s).trans (enterDark_mergeKept _)

theorem stopMetering_mergeKept (s : State) : MergeKept s (stopMetering s) := by
  unfold stopMetering
  cases s.site.state with
  | starting => exact finishToDark_mergeKept s
  | metering => exact enterStopping_mergeKept s
  | start | lamptest | dark | stopping | failsafe => exact MergeKept.refl s

theorem endLampTest_mergeKept (s : State) : MergeKept s (endLampTest s) :=
  MergeKept.ite (fun _ => (enterDark_mergeKept s).trans (pushIfAsserted_mergeKept _))
    (fun _ => (modLamps_only s _).mergeKept.trans (enterFailsafe_mergeKept _))

theorem clearFailsafe_mergeKept (s : State) : MergeKept s (clearFailsafe s) :=
  ((modLamps_only s _).mergeKept.trans (enterDark_mergeKept _)).trans (pushIfAsserted_mergeKept _)

theorem takeReport_mergeKept (s : State) : MergeKept s (takeReport s) := by
  unfold takeReport
  cases s.site.state with
  | dark | starting | metering | stopping => exact enterFailsafe_mergeKept s
  | failsafe => exact (raise_only _ s).mergeKept
  | start | lamptest => exact MergeKept.refl s

/-! ### The plans and the close of a period -/

theorem selectSlot_mergeKept (i : Slot) (s : State) : MergeKept s (selectSlot i s) :=
  MergeKept.ite (fun _ => (modPlans_only s _).mergeKept)
    (fun _ => (modPlans_only s _).mergeKept.trans (clampCredits_only _).mergeKept_arb)

theorem localPlan_mergeKept (i : Slot) (s : State) : MergeKept s (localPlan i s) := by
  have start : ∀ t, MergeKept t (startIfAllowed t) := fun t =>
    MergeKept.ite (fun _ => enterStarting_mergeKept t) (fun _ => MergeKept.refl t)
  unfold localPlan
  cases s.site.state with
  | dark => exact (selectSlot_mergeKept i s).trans (start _)
  | starting | metering | stopping | failsafe => exact selectSlot_mergeKept i s
  | start | lamptest => exact MergeKept.refl s

theorem localAct_mergeKept (e : Option Slot) (s : State) : MergeKept s (localAct e s) := by
  unfold localAct
  split
  · split
    · exact localPlan_mergeKept _ s
    · exact MergeKept.refl s
  · exact stopMetering_mergeKept s

theorem periodCloses_mergeKept (s : State) : MergeKept s (periodCloses s) := by
  refine (closePeriod_only s).mergeKept.trans ?_
  show MergeKept _ (selectorClose (closePeriod s))
  unfold selectorClose
  split
  · exact MergeKept.refl _
  · exact MergeKept.ite (fun _ => (modSel_only _ _).mergeKept.trans (localAct_mergeKept _ _))
      (fun _ => (modSel_only _ _).mergeKept)

/-! ### The acts of the command frames -/

/-- An act that leaves the arbiter, the lanes and what waits alone. -/
theorem Act.Only.followsMerge {bs : List Part} {act : Act} (h : Act.Only bs act) (ha : Part.arb ∉ bs := by decide)
    (hl : Part.lanes ∉ bs := by decide) (hh : Part.handoffs ∉ bs := by decide) : act.Follows MergeKept :=
  fun args held s => (h args held s).mergeKept ha hl hh

theorem inWindow_mergeKept {s : State} {a : Answer × State} (h : MergeKept s a.2) : MergeKept s (inWindow s a).2 := by
  unfold inWindow
  split
  · exact h
  · exact MergeKept.refl s

theorem actBegin_followsMerge : actBegin.Follows MergeKept := by
  intro args held s
  have begun : MergeKept s (markBegun s) := (modLink_only s _).mergeKept
  exact MergeKept.ite (fun _ => begun.trans (modSite_only _ _).mergeKept) (fun _ => begun)

theorem actSiteReset_followsMerge : actSiteReset.Follows MergeKept := by
  intro args held s
  unfold actSiteReset
  split
  · exact MergeKept.refl s
  · exact siteToDark_mergeKept s

theorem actSetLane_followsMerge : actSetLane.Follows MergeKept := by
  have set : ∀ l m s, MergeKept s (setMode l m s) := fun l m s =>
    MergeKept.ite (fun _ => MergeKept.refl s) (fun _ => (modDesc_only s _).mergeKept.trans (modLane_mergeKept _ l))
  intro args held s
  refine inWindow_mergeKept ?_
  split
  · split
    · split
      · exact MergeKept.refl s
      · exact set _ _ s
    · exact MergeKept.refl s
  · exact MergeKept.refl s

theorem actSetPriorityLane_followsMerge : actSetPriorityLane.Follows MergeKept := by
  have set : ∀ p s, MergeKept s (setPriority p s) := fun p s =>
    MergeKept.ite (fun _ => MergeKept.refl s) (fun _ => (modDesc_only s _).mergeKept.trans (modArb_mergeKept _))
  intro args held s
  refine inWindow_mergeKept ?_
  split
  · split
    · split
      · exact MergeKept.refl s
      · exact set _ s
    · exact MergeKept.refl s
  · exact MergeKept.refl s

theorem actSetChannel_followsMerge : actSetChannel.Follows MergeKept := by
  intro args held s
  refine inWindow_mergeKept ?_
  split
  · split
    · exact configure_mergeKept _ _ s
    · exact MergeKept.refl s
  · exact MergeKept.refl s

theorem actSetTiming_followsMerge : actSetTiming.Follows MergeKept := by
  have reached : ∀ p t, MergeKept t (reachedAtChange p t) := fun p t => by
    unfold reachedAtChange
    split
    · exact MergeKept.ite (fun _ => setMerge_mergeKept _ t) (fun _ => MergeKept.refl t)
    · exact MergeKept.ite (fun _ => periodCloses_mergeKept t) (fun _ => MergeKept.refl t)
    · exact mergeKept_stepRel.forAll straysOfLane_mergeKept allLanes t
    · exact MergeKept.refl t
  intro args held s
  refine inWindow_mergeKept ?_
  split
  · exact MergeKept.ite (fun _ => MergeKept.refl s) (fun _ => (modDesc_only s _).mergeKept.trans (reached _ _))
  · exact MergeKept.refl s

theorem actStartMetering_followsMerge : actStartMetering.Follows MergeKept := by
  intro args held s
  unfold actStartMetering
  cases s.startCheck with
  | passes => exact enterStarting_mergeKept s
  | wrongState | noPlan | noLane => exact MergeKept.refl s

theorem actClearFailsafe_followsMerge : actClearFailsafe.Follows MergeKept := by
  intro args held s
  unfold actClearFailsafe
  split
  · exact clearFailsafe_mergeKept s
  · exact MergeKept.refl s

theorem actSelectPlan_followsMerge : actSelectPlan.Follows MergeKept := by
  intro args held s
  unfold actSelectPlan
  split
  · split
    · exact selectSlot_mergeKept _ s
    · exact MergeKept.refl s
  · exact (clearStaged_only s).mergeKept

theorem actPushOverride_followsMerge : actPushOverride.Follows MergeKept := by
  have push : ∀ e s, MergeKept s (linkPush e s).2 := fun e s => by
    unfold linkPush
    split
    · exact setStack_mergeKept _ s
    · split
      · exact setStack_mergeKept _ s
      · exact MergeKept.refl s
  intro args held s
  unfold actPushOverride
  split
  · exact MergeKept.refl s
  · split
    · exact push _ s
    · exact MergeKept.refl s

theorem actRemoveOverride_followsMerge : actRemoveOverride.Follows MergeKept := by
  intro args held s
  unfold actRemoveOverride
  split
  · split
    · split
      · exact removeEntry_mergeKept _ _ s
      · exact MergeKept.refl s
    · exact MergeKept.refl s
  · exact MergeKept.refl s

/-! ### The rows of the table -/

theorem detectorInput_mergeKept {c : Chan} {on : Bool} {s t : State} (h : execDetectorInputChange c on s = .next t) :
    MergeKept s t := by
  unfold execDetectorInputChange at h
  split at h <;> injection h with h <;> subst h
  · exact (modChan_only s c _).mergeKept
  · exact inputChange_mergeKept c on s

theorem preemptInput_mergeKept {on : Bool} {s t : State} (h : execPreemptionInputChange on s = .next t) :
    MergeKept s t := by
  unfold execPreemptionInputChange at h
  split at h <;> injection h with h <;> subst h
  · exact (modOvr_only s _).mergeKept
  · exact MergeKept.ite (fun _ => MergeKept.refl s) (fun _ => (modOvr_only s _).mergeKept)

theorem lampSense_mergeKept {l : Lane} {col : Colour} {on : Bool} {s t : State}
    (h : execLampSenseChange l col on s = .next t) : MergeKept s t := by
  unfold execLampSenseChange at h
  split at h
  · injection h with h
    exact h ▸ MergeKept.refl s
  · split at h <;> injection h with h <;> subst h
    · exact (modLamp_only s l col _).mergeKept
    · exact senseChange_mergeKept l col on s

theorem resetReleased_mergeKept {s t : State} (h : execResetInputReleased s = .next t) : MergeKept s t := by
  unfold execResetInputReleased at h
  split at h <;> injection h with h <;> subst h
  · exact powerUp_mergeKept s _
  · exact MergeKept.refl s

/-- The grace of a grant runs in RED alone (R71). -/
theorem redGrace_mergeKept {l : Lane} {s t : State} (h : execRedGraceExpiry l s = .next t) : MergeKept s t := by
  unfold execRedGraceExpiry at h
  intro hs
  refine timed_keepsWhere (Q := fun u => (u.lane l).state = .red) hs (fun hw => ?_)
    (fun k => mergeKept_stepRel.tenths k _) (fun _ hq => hq) (fun u hq => ?_) h
  · by_contra hr
    simp [State.graceIn, hr] at hw
  · refine mergeKept_of_quiet rfl (endsFrom_of_handoffs rfl) fun m hm => ?_
    rw [lane_modLane] at hm ⊢
    by_cases e : m = l
    · rw [if_pos e] at hm
      exact absurd (hq.symm.trans hm) (by decide)
    · rw [if_neg e] at hm ⊢
      exact ⟨hm, rfl⟩

/-- Every row keeps the merge in one hand: the frames by their acts, the events by their operations. -/
theorem exec_mergeKept (i : Instr) {s t : State} (h : exec i s = .next t) : MergeKept s t := by
  have rel := mergeKept_stepRel
  cases i with
  | powerOn =>
    injection h with h
    exact h ▸ powerUp_mergeKept s s
  | resetInputAsserted =>
    injection h with h
    exact h ▸ powerUp_mergeKept s _
  | resetInputReleased => exact resetReleased_mergeKept h
  | beginCmd args => exact rel.hostFrame actBegin_followsMerge h
  | takeNotice args => exact rel.hostFrame actTakeNotice_only.followsMerge h
  | setNoticeMask args => exact rel.hostFrame actSetNoticeMask_only.followsMerge h
  | siteReset args => exact rel.hostFrame actSiteReset_followsMerge h
  | setTime args => exact rel.hostFrame actSetTime_only.followsMerge h
  | pfxLane args => exact rel.hostFrame actPfxLane_only.followsMerge h
  | pfxPlan args => exact rel.hostFrame actPfxPlan_only.followsMerge h
  | pfxChannel args => exact rel.hostFrame actPfxChannel_only.followsMerge h
  | setLane args => exact rel.hostFrame actSetLane_followsMerge h
  | setPriorityLane args => exact rel.hostFrame actSetPriorityLane_followsMerge h
  | setChannel args => exact rel.hostFrame actSetChannel_followsMerge h
  | setTiming args => exact rel.hostFrame actSetTiming_followsMerge h
  | resetChannel args =>
    exact rel.hostFrame (act := actResetChannel) (fun _ held u => forceGood_mergeKept (held.chan.getD 0) u) h
  | startMetering args => exact rel.hostFrame actStartMetering_followsMerge h
  | stopMetering args => exact rel.hostFrame (act := actStopMetering) (fun _ _ u => stopMetering_mergeKept u) h
  | clearFailsafe args => exact rel.hostFrame actClearFailsafe_followsMerge h
  | clearAmberFault args => exact rel.hostFrame actClearAmberFault_only.followsMerge h
  | writePlan args => exact rel.hostFrame actWritePlan_only.followsMerge h
  | readPlan args => exact rel.hostFrame actReadPlan_only.followsMerge h
  | erasePlan args => exact rel.hostFrame actErasePlan_only.followsMerge h
  | selectPlan args => exact rel.hostFrame actSelectPlan_followsMerge h
  | protectGroup args => exact rel.hostFrame actProtectGroup_only.followsMerge h
  | unprotectGroup args => exact rel.hostFrame actUnprotectGroup_only.followsMerge h
  | pushOverride args => exact rel.hostFrame actPushOverride_followsMerge h
  | removeOverride args => exact rel.hostFrame actRemoveOverride_followsMerge h
  | mapFrom args => exact rel.hostFrame actMapFrom_only.followsMerge h
  | mapTo args => exact rel.hostFrame actMapTo_only.followsMerge h
  | mapSkip args => exact rel.hostFrame actMapSkip_only.followsMerge h
  | mapAssign args => exact rel.hostFrame actMapAssign_only.followsMerge h
  | streamLog args => exact rel.hostFrame actStreamLog_only.followsMerge h
  | readLogState args => exact rel.hostFrame actReadLogState_only.followsMerge h
  | clearCounts args => exact rel.hostFrame actClearCounts_only.followsMerge h
  | readArbiter args => exact rel.hostFrame actReadArbiter_only.followsMerge h
  | getStatus args | readConfig args | readChannel args | readLamps args | readOverrides args | readMap args
  | stopStream args | readCounts args => exact rel.hostFrame (reads_only _).followsMerge h
  | undefinedCodeFrame code args => exact rel.taken (fun u => (takeUndefined_only code u).mergeKept) h
  | badCheckFrame => exact rel.taken (fun u => (takeBadCheck_only u).mergeKept) h
  | frameGapTimeout => exact rel.timed (fun u => (discardAll_only u).mergeKept) h
  | lenOutOfRange len =>
    exact rel.taken (f := breakOff len) (fun u => (discardAll_only u).mergeKept.trans (modLink_only _ _).mergeKept) h
  | frameOverrun => exact rel.taken (fun u => (discardAll_only u).mergeKept) h
  | prefixHoldExpiry => exact rel.timed (fun u => (discardHeld_only u).mergeKept) h
  | linkLossExpiry =>
    exact rel.timed (f := loseLink) (fun u => (modLink_only u _).mergeKept.trans (raise_only _ _).mergeKept) h
  | recordFrameCompletion => exact rel.taken (fun u => (recordSent_only u).mergeKept) h
  | detectorInputChange c on => exact detectorInput_mergeKept h
  | actuation c => exact rel.timed (takeActuation_mergeKept c) h
  | clearing c => exact rel.timed (takeClearing_mergeKept c) h
  | stuckOnExpiry c | stuckOffExpiry c => exact rel.timed (becomeStuck_mergeKept c _ _) h
  | noShowClaim l => exact rel.taken (takeClaimOf_mergeKept l) h
  | mergeSettleExpiry => exact rel.timed (setMerge_mergeKept _) h
  | queueOnReached l =>
    exact rel.timed (fun u => (modQueueMon_only l _ u).mergeKept.trans (automaticPush_mergeKept _ _)) h
  | queueOffReached l => exact rel.timed (queueClears_mergeKept l) h
  | spillOnReached => exact rel.timed (fun u => (modSpillMon_only _ u).mergeKept.trans (automaticPush_mergeKept _ _)) h
  | spillOffReached => exact rel.timed spillClears_mergeKept h
  | occupancyPeriodClose => exact rel.timed periodCloses_mergeKept h
  | preemptionInputChange on => exact preemptInput_mergeKept h
  | preemptionAssertion => exact rel.timed preemptAsserted_mergeKept h
  | preemptionRelease => exact rel.timed preemptReleased_mergeKept h
  | overrideLimitExpiry k src =>
    exact rel.timed (fun u => (removeEntry_mergeKept k src u).trans (tellMonitor_only src _).mergeKept) h
  | arbiterGoverningChange => exact rel.taken takeArbiterGov_mergeKept h
  | laneGoverningChange l => exact rel.taken (takeLaneGov_mergeKept l) h
  | lampTestExpiry => exact rel.timed endLampTest_mergeKept h
  | warningExpiry => exact rel.timed enterMetering_mergeKept h
  | stopFlushExpiry => exact rel.timed finishToDark_mergeKept h
  | lampFailureReport => exact rel.taken (fun u => (takeOff_mergeKept _ u).trans (takeReport_mergeKept _)) h
  | lampSenseChange l col on => exact lampSense_mergeKept h
  | provingWindowEnd l col => exact rel.timed (attemptFailed_mergeKept l col) h
  | flashOnPhaseEnd l col => exact rel.timed (phaseEnds_mergeKept l col) h
  | strayMeasureExpiry l col => exact rel.timed (strayFound_mergeKept l col) h
  | lossOfProof l col => exact rel.timed (proofLost_mergeKept l col) h
  | minGreenElapsed l => exact rel.timed (fun u => (tryEndGreen_mergeKept l u).trans (tryCloseOpen_mergeKept l _)) h
  | greenDurationElapsed l => exact rel.timed (tryEndGreen_mergeKept l) h
  | amberTimeElapsed l => exact rel.timed (goRed_mergeKept l) h
  | minRedElapsed l =>
    exact rel.timed (f := minRedOver l)
      (fun u => MergeKept.trans (modLane_mergeKept u l) (settleRed_mergeKept l _)) h
  | redGraceExpiry l => exact redGrace_mergeKept h
  | releaseCut l => exact rel.taken (fun u => (takeOff_mergeKept _ u).trans (takeBusy_mergeKept l _)) h
  | releaseEnd l => exact rel.taken (takeReleaseEnd_mergeKept l) h
  | request l =>
    exact rel.taken (fun u => ((takeOff_mergeKept _ u).trans (takeRequest_mergeKept l _)).trans
      (settleRed_mergeKept l _)) h
  | withdrawal l =>
    exact rel.taken (fun u => ((takeOff_mergeKept _ u).trans (takeWithdrawal_mergeKept l _)).trans
      (settleRed_mergeKept l _)) h
  | mergeMonitorChange => exact rel.taken (fun u => (takeOff_mergeKept _ u).trans (settleIfLoose_mergeKept _)) h
  | intervalExpiry => exact rel.timed (fun u => modArb_mergeKept u) h
  | grant => exact rel.taken grantNow_mergeKept h
  | advanceActuation => exact rel.taken (fun u => (takeOff_mergeKept _ u).trans (takeAdvance_mergeKept _)) h
  | reservationExpiry => exact rel.timed reservationOver_mergeKept h
  | replyFrameTransmitted => exact rel.taken (fun u => (replySent_only u).mergeKept) h

/-! ### The step -/

/-- Two lanes in GREEN would each hold the one open release. -/
theorem oneGreen_of_mergeSound {s : State} (h : s.mergeSound) : s.oneGreen := by
  intro l m hl hm
  obtain ⟨g, -, ho⟩ := h.1 l hl
  obtain ⟨k, -, ho'⟩ := h.1 m hm
  exact congrArg Prod.fst (Option.some.inj (ho.symm.trans ho'))

/-- Settles O57: every row keeps the merge in one hand, and so does a step. -/
theorem atMostOneLaneIsInGreen : Obligations.AtMostOneLaneIsInGreen :=
  ⟨fun _ _ hs h => mergeKept_stepRel.step exec_mergeKept h hs, fun _ => oneGreen_of_mergeSound⟩

end Sys2Proof.Machine
end

section
/-! PROOFS. No credit exceeds its lane's weight (R4, R101) over every step: the arbiter refills to the weights, a plan that
becomes active clamps to its weights, and a grant only takes a credit away. -/

namespace Sys2Proof.Machine

set_option Elab.async false

/-! ### The relation -/

/-- The credits are within the weights in `t` where they were in `s`. -/
def CreditsKept (s t : State) : Prop := s.creditsSound → t.creditsSound

theorem CreditsKept.refl (s : State) : CreditsKept s s := id

theorem CreditsKept.trans {s t u : State} (h : CreditsKept s t) (k : CreditsKept t u) : CreditsKept s u := k ∘ h

theorem CreditsKept.ite {s t u : State} {p : Prop} [Decidable p] (ht : p → CreditsKept s t) (hu : ¬p → CreditsKept s u) :
    CreditsKept s (if p then t else u) := by
  split
  · exact ht (by assumption)
  · exact hu (by assumption)

/-- No credit grows, the priority lane stays, and no weight changes. -/
theorem creditsKept_of_le {s t : State} (hc : ∀ l, t.arb.credit.get l ≤ s.arb.credit.get l)
    (hp : t.desc.priority = s.desc.priority) (hw : ∀ l, t.weight l = s.weight l) : CreditsKept s t := fun h l => by
  rw [hp, hw]
  exact (hc l).trans (h l)

/-- An operation that leaves the plans, the priority lane and the credits. -/
theorem Only.creditsKept_arb {bs : List Part} {s t : State} (h : Only bs s t)
    (hc : t.arb.credit = s.arb.credit := by rfl) (hp : Part.plans ∉ bs := by decide)
    (hd : Part.desc ∉ bs := by decide) : CreditsKept s t := by
  have desc : t.desc = s.desc := h _ hd
  exact creditsKept_of_le (fun l => by rw [hc]) (by rw [desc]) (weight_of_plans (h _ hp))

/-- An operation that leaves the arbiter, the plans and the site description alone. -/
theorem Only.creditsKept {bs : List Part} {s t : State} (h : Only bs s t) (ha : Part.arb ∉ bs := by decide)
    (hp : Part.plans ∉ bs := by decide) (hd : Part.desc ∉ bs := by decide) : CreditsKept s t := by
  have arb : t.arb = s.arb := h _ ha
  exact h.creditsKept_arb (by rw [arb]) hp hd

theorem modArb_creditsKept (s : State) {f : Arbiter → Arbiter} (h : (f s.arb).credit = s.arb.credit := by rfl) :
    CreditsKept s (s.modArb f) := (modArb_only s f).creditsKept_arb h

theorem modDesc_creditsKept (s : State) {f : SiteDesc → SiteDesc}
    (h : (f s.desc).priority = s.desc.priority := by rfl) : CreditsKept s (s.modDesc f) :=
  creditsKept_of_le (fun _ => le_rfl) h (weight_of_plans rfl)

theorem creditsKept_stepRel : StepRel CreditsKept where
  trans := CreditsKept.trans
  tenths _ _ := creditsKept_of_le (fun _ => le_rfl) rfl (weight_of_plans rfl)
  onLine h := h.creditsKept

/-- A power-on leaves no credit. -/
theorem powerUp_creditsKept (r s : State) : CreditsKept r (powerUp s) := fun _ l => by
  have e : (powerUp s).arb.credit.get l = 0 := Quad.get_all 0 l
  rw [e]
  exact Nat.zero_le _

/-! ### Every credit from the weights (R101, R103, R104) -/

/-- Whatever becomes of the credits by weight stays within it, and the priority lane keeps none (log 31). -/
theorem creditAll_sound {f : Nat → Nat → Nat} {s : State} (hf : ∀ c w, f c w ≤ w)
    (hp : ∀ l, s.desc.priority = some l → s.arb.credit.get l = 0) : (creditAll f s).creditsSound := fun l => by
  have e : (creditAll f s).arb.credit.get l =
      if s.desc.priority = some l then s.arb.credit.get l else f (s.arb.credit.get l) (s.weight l) := Quad.get_tab _ l
  have w : (creditAll f s).weight l = s.weight l := weight_of_plans rfl l
  have d : (creditAll f s).desc = s.desc := rfl
  rw [e, w, d]
  by_cases h : s.desc.priority = some l
  · rw [if_pos h, if_pos h, hp l h]
  · rw [if_neg h, if_neg h]
    exact hf _ _

/-- The priority lane holds no credit. -/
theorem priority_credit {s : State} (h : s.creditsSound) (l : Lane) (hl : s.desc.priority = some l) :
    s.arb.credit.get l = 0 := by
  have k := h l
  rw [if_pos hl] at k
  exact Nat.le_zero.1 k

theorem refillCredits_creditsKept (s : State) : CreditsKept s (refillCredits s) := fun h =>
  creditAll_sound (fun _ w => le_refl w) (priority_credit h)

/-- A plan that becomes active clamps every credit to its weight, whatever the weights were before. -/
theorem activated_creditsKept (s : State) (f : PlanStore → PlanStore) :
    CreditsKept s (clampCredits (s.modPlans f)) := fun h =>
  creditAll_sound (s := s.modPlans f) Nat.min_le_right fun l hl => priority_credit (s := s) h l hl

/-! ### The arbiter -/

theorem settle_creditsKept (s : State) : CreditsKept s (settle s) := (settle_only s).creditsKept_arb (by rw [settle_arb])

theorem settleIfLoose_creditsKept (s : State) : CreditsKept s (settleIfLoose s) := by
  unfold settleIfLoose
  cases s.arb.own with
  | free | yielding | held => exact settle_creditsKept s
  | shut | releasing => exact CreditsKept.refl s

theorem deriveHold_creditsKept (s : State) : CreditsKept s (deriveHold s) := modArb_creditsKept s

theorem rederive_creditsKept (s : State) : CreditsKept s (rederive s) :=
  CreditsKept.ite (fun _ => CreditsKept.refl s)
    (fun _ => (deriveHold_creditsKept s).trans (settleIfLoose_creditsKept _))

theorem leaveShut_creditsKept (s : State) : CreditsKept s (leaveShut s) := by
  have opened : CreditsKept s (openedArb s) :=
    ((refillCredits_creditsKept s).trans (modArb_creditsKept _)).trans (deriveHold_creditsKept _)
  exact (opened.trans (settle_creditsKept _)).trans (settleRequests_only _).creditsKept

theorem arbiterTakes_creditsKept (g : Option Gov) (s : State) : CreditsKept s (arbiterTakes g s) := by
  have read : CreditsKept s (s.modArb (fun a => { a with gov := g })) := modArb_creditsKept s
  have checked : ∀ t, CreditsKept t (checkInterval t) := fun t =>
    CreditsKept.ite (fun _ => modArb_creditsKept t) (fun _ => CreditsKept.refl t)
  refine CreditsKept.ite (fun _ => CreditsKept.ite (fun _ => CreditsKept.ite (fun _ => read) (fun _ => ?_))
    (fun _ => CreditsKept.ite (fun _ => ?_) (fun _ => ?_))) (fun _ => read)
  · exact (read.trans (enterShut_only true _).creditsKept_arb).trans (settleReds_only _).creditsKept
  · exact read.trans (leaveShut_creditsKept _)
  · exact (read.trans (checked _)).trans (rederive_creditsKept _)

theorem takeArbiterGov_creditsKept (s : State) : CreditsKept s (takeArbiterGov s) := by
  unfold takeArbiterGov
  split
  · exact (takeOff_only _ s).creditsKept.trans (arbiterTakes_creditsKept _ _)
  · exact CreditsKept.refl s

theorem takeRequest_creditsKept (l : Lane) (s : State) : CreditsKept s (takeRequest l s) :=
  CreditsKept.ite (fun _ => CreditsKept.refl s)
    (fun _ => (enqueue_only l s).creditsKept_arb (by rw [arb_enqueue]; split <;> rfl))

theorem unqueue_creditsKept (l : Lane) (s : State) : CreditsKept s (unqueue l s) := (unqueue_only l s).creditsKept_arb

theorem takeWithdrawal_creditsKept (l : Lane) (s : State) : CreditsKept s (takeWithdrawal l s) :=
  CreditsKept.ite (fun _ => unqueue_creditsKept l s) (fun _ => CreditsKept.refl s)

theorem takeReleaseEnd_creditsKept (l : Lane) (s : State) : CreditsKept s (takeReleaseEnd l s) := by
  have ended : ∀ t, CreditsKept t (releaseEnded t) := fun t =>
    CreditsKept.ite (fun _ => modArb_creditsKept t)
      (fun _ => (CreditsKept.trans (modArb_creditsKept t) (deriveHold_creditsKept _)).trans (settle_creditsKept _))
  have off : CreditsKept s (takeOff (isReleaseEnd l) s) := (takeOff_only _ s).creditsKept
  unfold takeReleaseEnd
  split
  · exact CreditsKept.ite (fun _ => off.trans (ended _)) (fun _ => off)
  · exact CreditsKept.refl s

theorem takeAdvance_creditsKept (s : State) : CreditsKept s (takeAdvance s) :=
  CreditsKept.ite (fun _ => CreditsKept.trans (modArb_creditsKept s) (rederive_creditsKept _))
    (fun _ => CreditsKept.refl s)

theorem reservationOver_creditsKept (s : State) : CreditsKept s (reservationOver s) :=
  CreditsKept.trans (((modArb_creditsKept s).trans (countSlip_only _ _).creditsKept).trans
    (raise_only _ _).creditsKept) (rederive_creditsKept _)

/-! ### The grant (R103, R104) -/

theorem promote_creditsKept (l : Lane) (s : State) : CreditsKept s (promote l s) := by
  unfold promote
  split
  · exact CreditsKept.refl s
  · exact (activated_creditsKept s _).trans (creditsKept_stepRel.forAll unqueue_creditsKept _ _)

/-- A grant takes one of its lane's credit, and none of the priority lane's. -/
theorem granted_credit_le (l m : Lane) (prio : Bool) (n : Option Nat) (a : Arbiter) :
    (a.granted l prio n).credit.get m ≤ a.credit.get m := by
  cases prio with
  | true => exact le_rfl
  | false =>
    show (a.credit.modify l (fun n => n - 1)).get m ≤ a.credit.get m
    rw [Quad.get_modify]
    split
    · next e => exact e ▸ Nat.sub_le _ _
    · exact le_rfl

theorem grantUnder_creditsKept (p : Plan) (l : Lane) (s : State) : CreditsKept s (grantUnder p l s) := by
  have granted : CreditsKept s (s.modArb (Arbiter.granted l (s.isPriority l) s.governingInterval)) :=
    creditsKept_of_le (fun m => granted_credit_le l m _ _ _) rfl (weight_of_plans rfl)
  exact (((granted.trans (unqueue_creditsKept l _)).trans (countGrant_only l _).creditsKept).trans
    (takeGrant_only l _ _ _).creditsKept).trans (settleReds_only _).creditsKept

theorem grantNow_creditsKept (s : State) : CreditsKept s (grantNow s) := by
  unfold grantNow
  split
  · unfold makeGrant
    split
    · exact CreditsKept.refl s
    · refine CreditsKept.trans (CreditsKept.trans ?_ (promote_creditsKept _ _)) (grantUnder_creditsKept _ _ _)
      exact CreditsKept.ite (fun _ => refillCredits_creditsKept s) (fun _ => CreditsKept.refl s)
  · exact CreditsKept.refl s

/-! ### A lane takes the governing entry -/

/-- What a lane's new target can change. -/
abbrev targetParts : List Part := .site :: laneParts

theorem laneTakes_only (l : Lane) (g : Option Gov) (s : State) : Only targetParts s (laneTakes l g s) := by
  have read : Only targetParts s (s.modLane l (fun r => { r with gov := g })) := (modLane_only s l _).mono
  unfold laneTakes
  refine Only.ite (fun _ => ?_) (fun _ => read)
  cases (s.lane l).state with
  | green => exact read.andThen (Only.ite (fun _ => (greenToOpen_only l _).mono) (fun _ => (tryEndGreen_only l _).mono))
  | opened => exact read.step (tryCloseOpen_only l _)
  | red => exact read.step (settleRed_only l _)
  | off | warning | amber => exact read

theorem takeLaneGov_only (l : Lane) (s : State) : Only targetParts s (takeLaneGov l s) := by
  unfold takeLaneGov
  split
  · exact ((takeOff_only _ s).mono (cs := targetParts)).andThen (laneTakes_only _ _ _)
  · exact Only.refl _ s

/-! ### The site -/

theorem enterFailsafe_creditsKept (s : State) : CreditsKept s (enterFailsafe s) :=
  (enterFailsafe_only s).creditsKept_arb (by rw [enterFailsafe_arb]; rfl)

theorem siteToDark_creditsKept (s : State) : CreditsKept s (siteToDark s) :=
  (siteToDark_only s).creditsKept_arb (by rw [siteToDark_arb]; rfl)

theorem enterMetering_creditsKept (s : State) : CreditsKept s (enterMetering s) := by
  have reds : ∀ t, CreditsKept t (forAll allLanes firstRed t) := fun t =>
    (Only.forAll firstRed_only allLanes t).creditsKept
  have taken : ∀ t, CreditsKept t (refreshMonitors (restartStuckOff (takeGoverning t))) := fun t =>
    ((takeGoverning_only t).creditsKept_arb.trans (restartStuckOff_only _).creditsKept).trans
      (refreshMonitors_only _).creditsKept
  have left : ∀ t, CreditsKept t (leaveShutIfOpen t) := fun t =>
    CreditsKept.ite (fun _ => CreditsKept.refl t) (fun _ => leaveShut_creditsKept t)
  unfold enterMetering
  exact (((((enterSite_only _ s).creditsKept.trans (reds _)).trans (taken _)).trans (left _)).trans
    (syncSign_only _).creditsKept).trans (raise_only _ _).creditsKept

theorem stopMetering_creditsKept (s : State) : CreditsKept s (stopMetering s) := by
  unfold stopMetering
  cases s.site.state with
  | starting => exact (finishToDark_only s).creditsKept
  | metering => exact (enterStopping_only s).creditsKept_arb (by rw [enterStopping_arb]; rfl)
  | start | lamptest | dark | stopping | failsafe => exact CreditsKept.refl s

theorem endLampTest_creditsKept (s : State) : CreditsKept s (endLampTest s) :=
  CreditsKept.ite (fun _ => (enterDark_only s).creditsKept.trans (pushIfAsserted_only _).creditsKept)
    (fun _ => (modLamps_only s _).creditsKept.trans (enterFailsafe_creditsKept _))

theorem takeReport_creditsKept (s : State) : CreditsKept s (takeReport s) := by
  unfold takeReport
  cases s.site.state with
  | dark | starting | metering | stopping => exact enterFailsafe_creditsKept s
  | failsafe => exact (raise_only _ s).creditsKept
  | start | lamptest => exact CreditsKept.refl s

/-! ### The plans and the close of a period -/

/-- A change of the plan store that leaves the plan in force. -/
theorem modPlans_creditsKept {s : State} {f : PlanStore → PlanStore}
    (h : (s.modPlans f).activePlan = s.activePlan) : CreditsKept s (s.modPlans f) :=
  creditsKept_of_le (fun _ => le_rfl) rfl fun l => by simp only [State.weight, h]

theorem selectSlot_creditsKept (i : Slot) (s : State) : CreditsKept s (selectSlot i s) :=
  CreditsKept.ite (fun _ => modPlans_creditsKept rfl) (fun _ => activated_creditsKept s _)

theorem localPlan_creditsKept (i : Slot) (s : State) : CreditsKept s (localPlan i s) := by
  have start : ∀ t, CreditsKept t (startIfAllowed t) := fun t =>
    CreditsKept.ite (fun _ => (enterStarting_only t).creditsKept) (fun _ => CreditsKept.refl t)
  unfold localPlan
  cases s.site.state with
  | dark => exact (selectSlot_creditsKept i s).trans (start _)
  | starting | metering | stopping | failsafe => exact selectSlot_creditsKept i s
  | start | lamptest => exact CreditsKept.refl s

theorem localAct_creditsKept (e : Option Slot) (s : State) : CreditsKept s (localAct e s) := by
  unfold localAct
  split
  · split
    · exact localPlan_creditsKept _ s
    · exact CreditsKept.refl s
  · exact stopMetering_creditsKept s

theorem periodCloses_creditsKept (s : State) : CreditsKept s (periodCloses s) := by
  refine (closePeriod_only s).creditsKept.trans ?_
  show CreditsKept _ (selectorClose (closePeriod s))
  unfold selectorClose
  split
  · exact CreditsKept.refl _
  · exact CreditsKept.ite (fun _ => (modSel_only _ _).creditsKept.trans (localAct_creditsKept _ _))
      (fun _ => (modSel_only _ _).creditsKept)

/-- Only a slot that is not in use is written (R117, R119). -/
theorem changeSlot_creditsKept (i : Slot) (p : Option Plan) (s : State) : CreditsKept s (changeSlot i p s).2 := by
  unfold changeSlot
  split
  · exact CreditsKept.refl s
  · split
    · exact CreditsKept.refl s
    · next hu =>
      refine modPlans_creditsKept (f := fun q => { q with slots := Bank.put q.slots i p }) ?_
      have active : s.plans.active ≠ some i := fun e => hu (by simp [State.inUse, e])
      simp only [State.activePlan, modPlans_plans]
      cases ha : s.plans.active with
      | none => rfl
      | some j =>
        have hj : j ≠ i := fun e => active (e ▸ ha)
        simp [State.slot, Bank.at_put, hj]

/-! ### The acts of the command frames -/

/-- An act that leaves the arbiter, the plans and the site description alone. -/
theorem Act.Only.followsCredits {bs : List Part} {act : Act} (h : Act.Only bs act) (ha : Part.arb ∉ bs := by decide)
    (hp : Part.plans ∉ bs := by decide) (hd : Part.desc ∉ bs := by decide) : act.Follows CreditsKept :=
  fun args held s => (h args held s).creditsKept ha hp hd

theorem inWindow_creditsKept {s : State} {a : Answer × State} (h : CreditsKept s a.2) :
    CreditsKept s (inWindow s a).2 := by
  unfold inWindow
  split
  · exact h
  · exact CreditsKept.refl s

theorem actBegin_followsCredits : actBegin.Follows CreditsKept := by
  intro args held s
  have begun : CreditsKept s (markBegun s) := (modLink_only s _).creditsKept
  exact CreditsKept.ite (fun _ => begun.trans (modSite_only _ _).creditsKept) (fun _ => begun)

theorem actSiteReset_followsCredits : actSiteReset.Follows CreditsKept := by
  intro args held s
  unfold actSiteReset
  split
  · exact CreditsKept.refl s
  · exact siteToDark_creditsKept s

theorem actSetLane_followsCredits : actSetLane.Follows CreditsKept := by
  have set : ∀ l m s, CreditsKept s (setMode l m s) := fun l m s =>
    CreditsKept.ite (fun _ => CreditsKept.refl s)
      (fun _ => CreditsKept.trans (modDesc_creditsKept s) (modLane_only _ l _).creditsKept)
  intro args held s
  refine inWindow_creditsKept ?_
  split
  · split
    · split
      · exact CreditsKept.refl s
      · exact set _ _ s
    · exact CreditsKept.refl s
  · exact CreditsKept.refl s

/-- A lane that gains the designation loses its credit; one that loses it had none (R5, log 31). -/
theorem setPriority_creditsKept (p : Option Lane) (s : State) : CreditsKept s (setPriority p s) := by
  refine CreditsKept.ite (fun _ => CreditsKept.refl s) (fun _ h l => ?_)
  have within : s.arb.credit.get l ≤ s.weight l := by
    refine (h l).trans ?_
    split
    · exact Nat.zero_le _
    · exact le_rfl
  show Quad.get (match p with
    | some m => s.arb.credit.set m 0
    | none => s.arb.credit) l ≤ if p = some l then 0 else s.weight l
  cases p with
  | none => exact within
  | some m =>
    by_cases e : l = m
    · simp [e]
    · simpa [Quad.get_set_other _ _ _ _ e, Ne.symm e] using within

theorem actSetPriorityLane_followsCredits : actSetPriorityLane.Follows CreditsKept := by
  intro args held s
  refine inWindow_creditsKept ?_
  split
  · split
    · split
      · exact CreditsKept.refl s
      · exact setPriority_creditsKept _ s
    · exact CreditsKept.refl s
  · exact CreditsKept.refl s

theorem actSetTiming_followsCredits : actSetTiming.Follows CreditsKept := by
  have reached : ∀ p t, CreditsKept t (reachedAtChange p t) := fun p t => by
    unfold reachedAtChange
    split
    · exact CreditsKept.ite (fun _ => (setMerge_only _ t).creditsKept) (fun _ => CreditsKept.refl t)
    · exact CreditsKept.ite (fun _ => periodCloses_creditsKept t) (fun _ => CreditsKept.refl t)
    · exact (Only.forAll straysOfLane_only allLanes t).creditsKept
    · exact CreditsKept.refl t
  intro args held s
  refine inWindow_creditsKept ?_
  split
  · exact CreditsKept.ite (fun _ => CreditsKept.refl s) (fun _ => CreditsKept.trans (modDesc_creditsKept s) (reached _ _))
  · exact CreditsKept.refl s

theorem actStartMetering_followsCredits : actStartMetering.Follows CreditsKept := by
  intro args held s
  unfold actStartMetering
  cases s.startCheck with
  | passes => exact (enterStarting_only s).creditsKept
  | wrongState | noPlan | noLane => exact CreditsKept.refl s

theorem actClearFailsafe_followsCredits : actClearFailsafe.Follows CreditsKept := by
  intro args held s
  unfold actClearFailsafe
  split
  · exact (clearFailsafe_only s).creditsKept
  · exact CreditsKept.refl s

theorem actWritePlan_followsCredits : actWritePlan.Follows CreditsKept := by
  intro args held s
  unfold actWritePlan
  split
  · split
    · exact changeSlot_creditsKept _ _ s
    · exact CreditsKept.refl s
  · exact CreditsKept.refl s

theorem actErasePlan_followsCredits : actErasePlan.Follows CreditsKept := fun _ _ s => changeSlot_creditsKept _ _ s

theorem actSelectPlan_followsCredits : actSelectPlan.Follows CreditsKept := by
  intro args held s
  unfold actSelectPlan
  split
  · split
    · exact selectSlot_creditsKept _ s
    · exact CreditsKept.refl s
  · exact modPlans_creditsKept rfl

theorem guardGroup_creditsKept (on : Bool) (args : List Byte) (s : State) :
    CreditsKept s (guardGroup on args s).2 := by
  unfold guardGroup
  split
  · split
    · exact modPlans_creditsKept rfl
    · exact CreditsKept.refl s
  · exact CreditsKept.refl s

/-! ### The rows of the table -/

theorem detectorInput_creditsKept {c : Chan} {on : Bool} {s t : State} (h : execDetectorInputChange c on s = .next t) :
    CreditsKept s t := by
  unfold execDetectorInputChange at h
  split at h <;> injection h with h <;> subst h
  · exact (modChan_only s c _).creditsKept
  · exact (inputChange_only c on s).creditsKept

theorem preemptInput_creditsKept {on : Bool} {s t : State} (h : execPreemptionInputChange on s = .next t) :
    CreditsKept s t := by
  unfold execPreemptionInputChange at h
  split at h <;> injection h with h <;> subst h
  · exact (modOvr_only s _).creditsKept
  · exact CreditsKept.ite (fun _ => CreditsKept.refl s) (fun _ => (modOvr_only s _).creditsKept)

theorem lampSense_creditsKept {l : Lane} {col : Colour} {on : Bool} {s t : State}
    (h : execLampSenseChange l col on s = .next t) : CreditsKept s t := by
  unfold execLampSenseChange at h
  split at h
  · injection h with h
    exact h ▸ CreditsKept.refl s
  · split at h <;> injection h with h <;> subst h
    · exact (modLamp_only s l col _).creditsKept
    · exact (senseChange_only l col on s).creditsKept

theorem resetReleased_creditsKept {s t : State} (h : execResetInputReleased s = .next t) : CreditsKept s t := by
  unfold execResetInputReleased at h
  split at h <;> injection h with h <;> subst h
  · exact powerUp_creditsKept s _
  · exact CreditsKept.refl s

/-- Every row keeps the credits within the weights: the frames by their acts, the events by their operations. -/
theorem exec_creditsKept (i : Instr) {s t : State} (h : exec i s = .next t) : CreditsKept s t := by
  have rel := creditsKept_stepRel
  cases i with
  | powerOn =>
    injection h with h
    exact h ▸ powerUp_creditsKept s s
  | resetInputAsserted =>
    injection h with h
    exact h ▸ powerUp_creditsKept s _
  | resetInputReleased => exact resetReleased_creditsKept h
  | beginCmd args => exact rel.hostFrame actBegin_followsCredits h
  | takeNotice args => exact rel.hostFrame actTakeNotice_only.followsCredits h
  | setNoticeMask args => exact rel.hostFrame actSetNoticeMask_only.followsCredits h
  | siteReset args => exact rel.hostFrame actSiteReset_followsCredits h
  | setTime args => exact rel.hostFrame actSetTime_only.followsCredits h
  | pfxLane args => exact rel.hostFrame actPfxLane_only.followsCredits h
  | pfxPlan args => exact rel.hostFrame actPfxPlan_only.followsCredits h
  | pfxChannel args => exact rel.hostFrame actPfxChannel_only.followsCredits h
  | setLane args => exact rel.hostFrame actSetLane_followsCredits h
  | setPriorityLane args => exact rel.hostFrame actSetPriorityLane_followsCredits h
  | setChannel args => exact rel.hostFrame actSetChannel_only.followsCredits h
  | setTiming args => exact rel.hostFrame actSetTiming_followsCredits h
  | resetChannel args => exact rel.hostFrame actResetChannel_only.followsCredits h
  | startMetering args => exact rel.hostFrame actStartMetering_followsCredits h
  | stopMetering args => exact rel.hostFrame (act := actStopMetering) (fun _ _ u => stopMetering_creditsKept u) h
  | clearFailsafe args => exact rel.hostFrame actClearFailsafe_followsCredits h
  | clearAmberFault args => exact rel.hostFrame actClearAmberFault_only.followsCredits h
  | writePlan args => exact rel.hostFrame actWritePlan_followsCredits h
  | readPlan args => exact rel.hostFrame actReadPlan_only.followsCredits h
  | erasePlan args => exact rel.hostFrame actErasePlan_followsCredits h
  | selectPlan args => exact rel.hostFrame actSelectPlan_followsCredits h
  | protectGroup args =>
    exact rel.hostFrame (act := actProtectGroup) (fun b _ u => guardGroup_creditsKept true b u) h
  | unprotectGroup args =>
    exact rel.hostFrame (act := actUnprotectGroup) (fun b _ u => guardGroup_creditsKept false b u) h
  | pushOverride args => exact rel.hostFrame actPushOverride_only.followsCredits h
  | removeOverride args => exact rel.hostFrame actRemoveOverride_only.followsCredits h
  | mapFrom args => exact rel.hostFrame actMapFrom_only.followsCredits h
  | mapTo args => exact rel.hostFrame actMapTo_only.followsCredits h
  | mapSkip args => exact rel.hostFrame actMapSkip_only.followsCredits h
  | mapAssign args => exact rel.hostFrame actMapAssign_only.followsCredits h
  | streamLog args => exact rel.hostFrame actStreamLog_only.followsCredits h
  | readLogState args => exact rel.hostFrame actReadLogState_only.followsCredits h
  | clearCounts args => exact rel.hostFrame actClearCounts_only.followsCredits h
  | readArbiter args => exact rel.hostFrame actReadArbiter_only.followsCredits h
  | getStatus args | readConfig args | readChannel args | readLamps args | readOverrides args | readMap args
  | stopStream args | readCounts args => exact rel.hostFrame (reads_only _).followsCredits h
  | undefinedCodeFrame code args => exact rel.taken (fun u => (takeUndefined_only code u).creditsKept) h
  | badCheckFrame => exact rel.taken (fun u => (takeBadCheck_only u).creditsKept) h
  | frameGapTimeout => exact rel.timed (fun u => (discardAll_only u).creditsKept) h
  | lenOutOfRange len =>
    exact rel.taken (f := breakOff len)
      (fun u => (discardAll_only u).creditsKept.trans (modLink_only _ _).creditsKept) h
  | frameOverrun => exact rel.taken (fun u => (discardAll_only u).creditsKept) h
  | prefixHoldExpiry => exact rel.timed (fun u => (discardHeld_only u).creditsKept) h
  | linkLossExpiry =>
    exact rel.timed (f := loseLink) (fun u => (modLink_only u _).creditsKept.trans (raise_only _ _).creditsKept) h
  | recordFrameCompletion => exact rel.taken (fun u => (recordSent_only u).creditsKept) h
  | detectorInputChange c on => exact detectorInput_creditsKept h
  | actuation c => exact rel.timed (fun u => (takeActuation_only c u).creditsKept) h
  | clearing c => exact rel.timed (fun u => (takeClearing_only c u).creditsKept) h
  | stuckOnExpiry c | stuckOffExpiry c => exact rel.timed (fun u => (becomeStuck_only c _ _ u).creditsKept) h
  | noShowClaim l => exact rel.taken (fun u => (takeClaimOf_only l u).creditsKept) h
  | mergeSettleExpiry => exact rel.timed (fun u => (setMerge_only _ u).creditsKept) h
  | queueOnReached l =>
    exact rel.timed (fun u => (modQueueMon_only l _ u).creditsKept.trans (automaticPush_only _ _).creditsKept) h
  | queueOffReached l => exact rel.timed (fun u => (queueClears_only l u).creditsKept) h
  | spillOnReached =>
    exact rel.timed (fun u => (modSpillMon_only _ u).creditsKept.trans (automaticPush_only _ _).creditsKept) h
  | spillOffReached => exact rel.timed (fun u => (spillClears_only u).creditsKept) h
  | occupancyPeriodClose => exact rel.timed periodCloses_creditsKept h
  | preemptionInputChange on => exact preemptInput_creditsKept h
  | preemptionAssertion => exact rel.timed (fun u => (preemptAsserted_only u).creditsKept) h
  | preemptionRelease => exact rel.timed (fun u => (preemptReleased_only u).creditsKept) h
  | overrideLimitExpiry k src =>
    exact rel.timed (fun u => (removeEntry_only k src u).creditsKept.trans (tellMonitor_only src _).creditsKept) h
  | arbiterGoverningChange => exact rel.taken takeArbiterGov_creditsKept h
  | laneGoverningChange l => exact rel.taken (fun u => (takeLaneGov_only l u).creditsKept) h
  | lampTestExpiry => exact rel.timed endLampTest_creditsKept h
  | warningExpiry => exact rel.timed enterMetering_creditsKept h
  | stopFlushExpiry => exact rel.timed (fun u => (finishToDark_only u).creditsKept) h
  | lampFailureReport => exact rel.taken (fun u => (takeOff_only _ u).creditsKept.trans (takeReport_creditsKept _)) h
  | lampSenseChange l col on => exact lampSense_creditsKept h
  | provingWindowEnd l col => exact rel.timed (fun u => (attemptFailed_only l col u).creditsKept) h
  | flashOnPhaseEnd l col => exact rel.timed (fun u => (phaseEnds_only l col u).creditsKept) h
  | strayMeasureExpiry l col => exact rel.timed (fun u => (strayFound_only l col u).creditsKept) h
  | lossOfProof l col => exact rel.timed (fun u => (proofLost_only l col u).creditsKept) h
  | minGreenElapsed l =>
    exact rel.timed (fun u => (tryEndGreen_only l u).creditsKept.trans (tryCloseOpen_only l _).creditsKept) h
  | greenDurationElapsed l => exact rel.timed (fun u => (tryEndGreen_only l u).creditsKept) h
  | amberTimeElapsed l => exact rel.timed (fun u => (goRed_only l u).creditsKept) h
  | minRedElapsed l =>
    exact rel.timed (fun u => (modLane_only u l _).creditsKept.trans (settleRed_only l _).creditsKept) h
  | redGraceExpiry l => exact rel.timed (fun u => (modLane_only u l _).creditsKept) h
  | releaseCut l => exact rel.taken (fun u => (takeOff_only _ u).creditsKept.trans (takeBusy_only l _).creditsKept) h
  | releaseEnd l => exact rel.taken (takeReleaseEnd_creditsKept l) h
  | request l =>
    exact rel.taken (fun u => ((takeOff_only _ u).creditsKept.trans (takeRequest_creditsKept l _)).trans
      (settleRed_only l _).creditsKept) h
  | withdrawal l =>
    exact rel.taken (fun u => ((takeOff_only _ u).creditsKept.trans (takeWithdrawal_creditsKept l _)).trans
      (settleRed_only l _).creditsKept) h
  | mergeMonitorChange =>
    exact rel.taken (fun u => (takeOff_only _ u).creditsKept.trans (settleIfLoose_creditsKept _)) h
  | intervalExpiry => exact rel.timed (fun u => modArb_creditsKept u) h
  | grant => exact rel.taken grantNow_creditsKept h
  | advanceActuation => exact rel.taken (fun u => (takeOff_only _ u).creditsKept.trans (takeAdvance_creditsKept _)) h
  | reservationExpiry => exact rel.timed reservationOver_creditsKept h
  | replyFrameTransmitted => exact rel.taken (fun u => (replySent_only u).creditsKept) h

/-- Settles O58: every row keeps the credits within the weights, and so does a step; what the slots in use hold is not
needed. -/
theorem everyStepKeepsCreditsWithinWeights : Obligations.EveryStepKeepsCreditsWithinWeights :=
  fun _ _ _ hs h => creditsKept_stepRel.step exec_creditsKept h hs

end Sys2Proof.Machine
end

section
/-! PROOFS. The arbiter's choice of a candidate and the conditions of a grant (R102, R103); the interval and the reservations
(R99, R100, R107, R110, R111); release ends and changes of the merge (R95, R106). -/

namespace Sys2Proof.Machine

set_option Elab.async false

/-! ### The candidate in FREE (R102, R103) -/

theorem waitingPriority_eq_some {s : State} {l : Lane} (hp : s.desc.priority = some l) (hw : s.arb.prioWaiting = true) :
    s.waitingPriority = some l := by simp [State.waitingPriority, hp, hw]

theorem waitingPriority_eq_none {s : State} (h : s.desc.priority = none ∨ s.arb.prioWaiting = false) :
    s.waitingPriority = none := by
  unfold State.waitingPriority
  rcases h with h | h
  · rw [h]
  · cases s.desc.priority <;> simp [h]

theorem rotationDue_iff {s : State} {p : Plan} (h : s.activePlan = some p) :
    s.rotationDue = true ↔ p.prioEvery = 0 ∨ p.prioEvery ≤ s.arb.prioCount := by
  simp [State.rotationDue, h]

/-- Step 1: the rotation is due and the priority lane waits. -/
theorem freeCandidate_rotation {s : State} {l : Lane} (hd : s.rotationDue = true) (hw : s.waitingPriority = some l) :
    s.freeCandidate = some (l, false) := by simp [State.freeCandidate, hd, hw]

/-- No rotation takes the candidate: it is not due, or the priority lane does not wait. -/
def State.NoRotation (s : State) : Prop := s.rotationDue = true → s.waitingPriority = none

theorem noRotation_of {s : State} {p : Plan} (ha : s.activePlan = some p)
    (h : s.desc.priority = none ∨ s.arb.prioWaiting = false ∨ (p.prioEvery ≠ 0 ∧ s.arb.prioCount < p.prioEvery)) :
    s.NoRotation := by
  intro hd
  obtain h | h | ⟨h0, h1⟩ := h
  · exact waitingPriority_eq_none (.inl h)
  · exact waitingPriority_eq_none (.inr h)
  · obtain h | h := (rotationDue_iff ha).1 hd
    · exact absurd h h0
    · exact absurd h (Nat.not_le.2 h1)

theorem rotation_none {s : State} (h : s.NoRotation) : (if s.rotationDue then s.waitingPriority else none) = none := by
  split
  · next hd => exact h hd
  · rfl

/-- Step 2: the first queued lane with credit. -/
theorem freeCandidate_credit {s : State} (h : s.NoRotation) {pre post : List Lane} {l : Lane}
    (hq : s.arb.queue = pre ++ l :: post) (hpre : ∀ m ∈ pre, s.arb.credit.get m = 0) (hl : 0 < s.arb.credit.get l) :
    s.freeCandidate = some (l, false) := by
  have found : s.arb.queue.find? (fun l => decide (0 < s.arb.credit.get l)) = some l := by
    rw [hq, List.find?_append, List.find?_eq_none.2 fun m hm => by simp [hpre m hm], Option.none_or,
      List.find?_cons_of_pos (by simpa using hl)]
  simp only [State.freeCandidate, rotation_none h, found]

/-- Step 3: the head of a queue without credit, with a round refill. -/
theorem freeCandidate_refill {s : State} (h : s.NoRotation) {l : Lane} {rest : List Lane} (hq : s.arb.queue = l :: rest)
    (hc : ∀ m ∈ s.arb.queue, s.arb.credit.get m = 0) : s.freeCandidate = some (l, true) := by
  have none : s.arb.queue.find? (fun l => decide (0 < s.arb.credit.get l)) = none :=
    List.find?_eq_none.2 fun m hm => by simp [hc m hm]
  simp only [State.freeCandidate, rotation_none h, none]
  rw [hq]

/-- Step 4: on an empty queue the priority lane, if it waits. -/
theorem freeCandidate_empty {s : State} (h : s.NoRotation) (hq : s.arb.queue = []) :
    s.freeCandidate = s.waitingPriority.map (fun p => (p, false)) := by
  simp only [State.freeCandidate, rotation_none h, hq, List.find?_nil]

/-! ### The conditions of a grant (R103) -/

theorem mayGrant_iff (s : State) :
    s.mayGrant = true ↔ s.det.merge.state = .clear ∧ s.arb.expired = true ∧ s.arb.openRelease = none := by
  simp [State.mayGrant, and_assoc]

/-- A grant that is not due has no effect. -/
theorem exec_grant_none {s : State} (h : s.grantee = none) : exec .grant s = .next s :=
  taken_not (by simp [State.canGrant, h])

theorem grantee_of_mayNot {s : State} (h : ¬s.mayGrant = true) : s.grantee = none := if_neg h

theorem grantee_of_noCandidate {s : State} (h : s.candidate = none) : s.grantee = none := by
  simp [State.grantee, h]

/-- The ownership states that have no candidate: SHUT, YIELD and RELEASING, FREE with no choice, HELD with an owner that
does not wait. -/
theorem candidate_eq_none {s : State} (h : s.arb.own = .shut ∨ s.arb.own = .yielding ∨ s.arb.own = .releasing ∨
    (s.arb.own = .free ∧ s.freeCandidate = none) ∨
    (s.arb.own = .held ∧ ∀ l, s.arb.owner = some l → s.waits l = false)) : s.candidate = none := by
  unfold State.candidate
  obtain h | h | h | ⟨h, hc⟩ | ⟨h, hw⟩ := h <;> rw [h]
  · exact hc
  · cases ho : s.arb.owner with
    | none => rfl
    | some l => simp [hw l ho]

/-- Settles O49: the four steps of the choice, and the row where a condition or the candidate fails. -/
theorem candidatesAreChosenAndConditionsHold : Obligations.CandidatesAreChosenAndConditionsHold := by
  refine ⟨fun s p ha => ⟨fun l hp hw hd => ?_, fun hn => ?_⟩, fun s _ h => exec_grant_none ?_⟩
  · exact freeCandidate_rotation ((rotationDue_iff ha).2 hd) (waitingPriority_eq_some hp hw)
  · have rot := noRotation_of ha hn
    refine ⟨fun _ _ _ hq hpre hl => freeCandidate_credit rot hq hpre hl, fun _ _ hq hc => freeCandidate_refill rot hq hc,
      fun l hq hp hw => ?_, fun hq hw => ?_⟩
    · rw [freeCandidate_empty rot hq, waitingPriority_eq_some hp hw]
      rfl
    · rw [freeCandidate_empty rot hq, waitingPriority_eq_none hw]
      rfl
  · obtain h | h | h | h := h
    · exact grantee_of_mayNot fun k => h ((mayGrant_iff s).1 k).1
    · refine grantee_of_mayNot fun k => ?_
      obtain ⟨-, he, -⟩ := (mayGrant_iff s).1 k
      exact absurd (h.symm.trans he) (by decide)
    · refine grantee_of_mayNot fun k => ?_
      obtain ⟨-, -, ho⟩ := (mayGrant_iff s).1 k
      exact h ho
    · exact grantee_of_noCandidate (candidate_eq_none h)

/-! ### The interval (R99, R100) -/

theorem intervalIn_reached {s : State} (ho : s.arb.own ≠ .shut) (he : s.arb.expired = false)
    {n : Nat} (hn : s.intervalInForce = some n) (h : n ≤ s.arb.elapsed) : s.intervalIn = some 0 := by
  simp [State.intervalIn, ho, he, hn, Nat.sub_eq_zero_of_le h]

theorem exec_intervalExpiry {s : State} (hr : s.resetIn = false) (ho : s.arb.own ≠ .shut) (he : s.arb.expired = false)
    {n : Nat} (hn : s.intervalInForce = some n) (h : n ≤ s.arb.elapsed) :
    exec .intervalExpiry s = .next { s with arb := { s.arb with expired := true } } :=
  timed_now (f := fun t => t.modArb (fun a => { a with expired := true })) hr (intervalIn_reached ho he hn h)

/-! ### Deriving the hold again (R107, R108) -/

theorem settleIfLoose_settles {s : State} (hs : s.arb.own ≠ .shut) (hr : s.arb.own ≠ .releasing) :
    settleIfLoose s = settle s := by
  unfold settleIfLoose
  cases h : s.arb.own with
  | free | yielding | held => rfl
  | shut => exact absurd h hs
  | releasing => exact absurd h hr

theorem settleIfLoose_stands {s : State} (h : s.arb.own = .shut ∨ s.arb.own = .releasing) : settleIfLoose s = s := by
  unfold settleIfLoose
  rcases h with h | h <;> rw [h]

theorem metering_congr {s t : State} (h : t.site = s.site) : t.metering = s.metering := by
  simp only [State.metering, h]

theorem holdNow_congr {s t : State} (hr : t.arb.reservation = s.arb.reservation) (hg : t.arb.gov = s.arb.gov)
    (hd : t.desc = s.desc) (hs : t.site = s.site) : t.holdNow = s.holdNow := by
  simp only [State.holdNow, hr, hg, hd, metering_congr hs]

/-- The hold of `s` is derived in `t`; but for it, the ownership and a yield counted, nothing changed. -/
structure HoldFollows (s t : State) : Prop where
  only : Only [.arb, .counts] s t
  arb : t.arb = { s.arb with
    own := t.arb.own, owner := t.arb.owner, holdCause := s.holdNow.1, holdLane := s.holdNow.2 }
  laneCounts : t.log.lanes = s.log.lanes
  expired : t.log.slip.expired = s.log.slip.expired
  hold : HoldDerived t

theorem deriveHold_follows (s : State) : HoldFollows s (deriveHold s) :=
  ⟨(deriveHold_only s).mono, rfl, rfl, rfl, deriveHold_holdDerived s⟩

theorem settle_expired (s : State) : (settle s).log.slip.expired = s.log.slip.expired := by
  unfold settle
  dsimp only
  split <;> rfl

theorem settle_follows (s : State) : HoldFollows s (settle (deriveHold s)) := by
  have ks := settle_only (deriveHold s)
  have arb := settle_arb (deriveHold s)
  refine ⟨(deriveHold_only s).mono.andThen ks, ?_, settle_laneCounts _, settle_expired _, ?_⟩
  · rw [arb]
    rfl
  · exact (deriveHold_holdDerived s).congr (by rw [arb]) (by rw [arb]) (by rw [arb]) (by rw [arb]) (ks.same .desc)
      (ks.same .site)

theorem settle_from (s : State) : SettledFrom s (settle (deriveHold s)) :=
  (settle_settledFrom (deriveHold s)).from rfl rfl

theorem HoldFollows.holdNow {s t : State} (h : HoldFollows s t) : (t.arb.holdCause, t.arb.holdLane) = t.holdNow := by
  rw [holdNow_congr (s := s) (by rw [h.arb]) (by rw [h.arb]) (h.only.same .desc) (h.only.same .site), h.arb]

/-- The hold derived again outside SHUT: in RELEASING alone the ownership stands. -/
structure Rederived (s t : State) : Prop where
  follows : HoldFollows s t
  releasing : s.arb.own = .releasing → t.arb.own = .releasing ∧ t.arb.owner = s.arb.owner ∧ t.log = s.log
  settled : s.arb.own ≠ .releasing → SettledFrom s t

theorem rederive_rederived {s : State} (ho : s.arb.own ≠ .shut) : Rederived s (rederive s) := by
  rw [show rederive s = settleIfLoose (deriveHold s) from if_neg ho]
  by_cases hr : s.arb.own = .releasing
  · rw [settleIfLoose_stands (s := deriveHold s) (.inr hr)]
    exact ⟨deriveHold_follows s, fun _ => ⟨hr, rfl, rfl⟩, fun h => absurd hr h⟩
  · rw [settleIfLoose_settles (s := deriveHold s) ho hr]
    exact ⟨settle_follows s, fun h => absurd h hr, fun _ => settle_from s⟩

/-! ### A signal handed to the arbiter (log 6) -/

/-- The state in which a waiting signal has been taken, and nothing done with it yet. -/
def State.without (s : State) (h : Handoff) : State := { s with handoffs := s.handoffs.erase h }

theorem takeOff_without {p : Handoff → Bool} {h : Handoff} {s : State} (hw : s.waiting p = some h) :
    takeOff p s = s.without h := takeOff_eq hw

theorem without_only (s : State) (h : Handoff) : Only [.handoffs] s (s.without h) := handoffs_only _ s

/-! ### A reservation is made (R110) -/

theorem exec_advanceActuation {s : State} (hr : s.resetIn = false) (hw : s.waiting isAdvance = some .advance) :
    exec .advanceActuation s = .next (takeAdvance (s.without .advance)) := by
  rw [← takeOff_without hw]
  exact taken_now (f := fun t => takeAdvance (takeOff isAdvance t)) hr (by rw [hw]; rfl)

theorem mayReserve_iff (s : State) : s.mayReserve = true ↔ s.site.state = .metering ∧ s.arb.own ≠ .shut ∧
    s.arb.reservation = .none ∧ ∃ l, s.desc.priority = some l ∧ s.arb.openLane ≠ some l := by
  unfold State.mayReserve
  cases s.desc.priority <;> simp [State.metering, and_assoc]

theorem openLane_eq_some (a : Arbiter) (l : Lane) : a.openLane = some l ↔ ∃ g, a.openRelease = some (l, g) := by
  simp [Arbiter.openLane]

/-- The state in which the merge is reserved, before the hold is derived. -/
def State.reserved (s : State) : State :=
  s.modArb (fun a => { a with reservation := .pending, reserveLeft := s.par .reserveLimit })

theorem takeAdvance_reserves {s : State} (h : s.mayReserve = true) : takeAdvance s = rederive s.reserved := if_pos h

theorem takeAdvance_stands {s : State} (h : ¬s.mayReserve = true) : takeAdvance s = s := if_neg h

theorem holdNow_reserved (s : State) : s.reserved.holdNow = (.reserve, s.desc.priority) := rfl

/-- Held for the priority lane, unless the release in progress is its own (R92, R107). -/
theorem SettledFrom.held {s t : State} {l : Lane} (h : SettledFrom s t) (hc : t.arb.holdCause = .reserve)
    (hl : t.arb.holdLane = some l) (ho : t.arb.openLane ≠ some l) : t.arb.own = .held ∧ t.arb.owner = some l := by
  obtain ⟨own, owner, -⟩ := h
  have held : t.arb.own = .held := by
    rw [own, if_pos ⟨by rw [hc]; decide, by rw [hl]; exact Ne.symm ho⟩]
  exact ⟨held, by rw [owner, if_pos held, hl]⟩

/-! ### A reservation expires (R111) -/

/-- The state in which a reservation has run out, its expiry counted and its notice raised. -/
def State.unreserved (s : State) : State :=
  raise .priority (countExpired (s.modArb (fun a => { a with reservation := .none, reserveLeft := 0 })))

theorem reservationOver_eq (s : State) : reservationOver s = rederive s.unreserved := rfl

theorem unreserved_only (s : State) : Only [.arb, .counts, .notices] s s.unreserved :=
  (((modArb_only s _).mono (cs := [.arb, .counts, .notices])).step (countSlip_only _ _)).step (raise_only _ _)

theorem unreserved_arb (s : State) : s.unreserved.arb = { s.arb with reservation := .none, reserveLeft := 0 } := rfl

theorem unreserved_expired (s : State) : s.unreserved.log.slip.expired = s.log.slip.expired + 1 := rfl

theorem unreserved_notices (s : State) : s.unreserved.link.notices = s.link.notices ||| Notice.priority.bit := rfl

theorem exec_reservationExpiry {s : State} (hr : s.resetIn = false) (hp : s.arb.reservation = .pending)
    (h0 : s.arb.reserveLeft = 0) : exec .reservationExpiry s = .next (rederive s.unreserved) := by
  rw [← reservationOver_eq]
  exact timed_now hr (by simp [State.reserveIn, hp, h0])

/-- Settles O52: the interval in force; the conditions of a reservation; its end; and the hold derived again. -/
theorem theIntervalAndReservationsExpire : Obligations.TheIntervalAndReservationsExpire := by
  refine ⟨fun s a hr ho he ha => ⟨fun n hn h => ?_, fun hn h => ?_, fun p hp => ⟨fun hg => ?_, fun e hg hk => ?_,
    fun e hg hk => ?_⟩⟩, fun s hr => ⟨fun hw => ⟨fun h => ?_, fun l hp hm ho hn hl => ?_⟩, fun hp h0 => ?_⟩⟩
  · exact exec_intervalExpiry hr ho he (by simp [State.intervalInForce, ha, hn]) h
  · exact exec_intervalExpiry hr ho he (by simp [State.intervalInForce, ha, hn]) h
  · simp [State.governingInterval, hg, hp]
  · simp [State.governingInterval, hg, hk, hp]
  · simp [State.governingInterval, hg, hk]
  · refine (exec_advanceActuation hr hw).trans (congrArg Host.Outcome.next (takeAdvance_stands fun k => ?_))
    obtain ⟨hm, ho, hn, l, hp, hl⟩ := (mayReserve_iff (s.without .advance)).1 k
    obtain h | h | h | h | ⟨m, g, h, hq⟩ := h
    · exact h hm
    · exact ho h
    · exact h hn
    · exact absurd (h.symm.trans hp) nofun
    · obtain rfl : m = l := Option.some.inj (hq.symm.trans hp)
      exact hl ((openLane_eq_some _ _).2 ⟨g, h⟩)
  · have closed : s.arb.openLane ≠ some l := fun k => by
      obtain ⟨g, hg⟩ := (openLane_eq_some _ _).1 k
      exact hl l g hg rfl
    rw [exec_advanceActuation hr hw,
      takeAdvance_reserves ((mayReserve_iff (s.without .advance)).2 ⟨hm, ho, hn, l, hp, closed⟩)]
    have k := rederive_rederived (s := (s.without .advance).reserved) ho
    have ku : Only [.arb, .handoffs] s (s.without .advance).reserved := (without_only s _).mono.step (modArb_only _ _)
    generalize rederive _ = t at k
    have arb := k.follows.arb
    have hc : t.arb.holdCause = .reserve := by rw [arb]; rfl
    have hh : t.arb.holdLane = some l := by rw [arb]; exact hp
    refine ⟨t, rfl, ku.mono.step k.follows.only, k.follows.only.same .handoffs, by rw [arb]; rfl, by rw [arb]; rfl, hc, hh,
      fun h => ?_, fun h => ?_⟩
    · obtain ⟨own, owner, -⟩ := k.releasing h
      exact ⟨own, owner⟩
    · exact (k.settled h).held hc hh (by rw [arb]; exact closed)
  · rw [exec_reservationExpiry hr hp h0]
    have ku := unreserved_only s
    by_cases ho : s.arb.own = .shut
    · rw [show rederive s.unreserved = s.unreserved from if_pos ho]
      exact ⟨_, rfl, ku, rfl, rfl, rfl, rfl, rfl, fun h => absurd ho h⟩
    · have k := rederive_rederived (s := s.unreserved) ho
      generalize rederive s.unreserved = t at k
      have arb := k.follows.arb
      have notices : t.link.notices = s.unreserved.link.notices := k.follows.only.same .notices
      refine ⟨t, rfl, ku.step k.follows.only, by rw [arb]; rfl, ?_, ?_, by rw [arb]; rfl, by rw [arb]; rfl, fun _ =>
        ⟨k.follows.holdNow, k.follows.hold, fun h => (k.releasing h).1, fun h => ?_⟩⟩
      · rw [k.follows.expired, unreserved_expired]
      · rw [notices, unreserved_notices]
      · obtain ⟨own, owner, -⟩ := k.settled h
        exact ⟨own, owner⟩

/-! ### Release ends and changes of the merge (R95, R106) -/

/-- The arbiter with its open release absent and a GRANTED reservation ended. -/
def Arbiter.released (a : Arbiter) : Arbiter :=
  { a with
    openRelease := none
    reservation := if a.reservation = .granted then .none else a.reservation }

/-- The state in which the end of the open release has been taken, before the hold is derived. -/
def State.releaseTaken (s : State) (l : Lane) (g : BitVec 16) : State :=
  (s.without (.releaseEnd l g)).modArb Arbiter.released

theorem releaseTaken_only (s : State) (l : Lane) (g : BitVec 16) : Only [.arb, .handoffs] s (s.releaseTaken l g) :=
  (without_only s _).mono.step (modArb_only _ _)

theorem exec_releaseEnd {s : State} {l : Lane} {g : BitVec 16} (hr : s.resetIn = false)
    (hw : s.waiting (isReleaseEnd l) = some (.releaseEnd l g)) (ho : s.arb.openRelease = some (l, g)) :
    exec (.releaseEnd l) s =
      .next (if s.arb.own = .shut then s.releaseTaken l g else settle (deriveHold (s.releaseTaken l g))) := by
  have taken : takeReleaseEnd l s = releaseEnded (s.without (.releaseEnd l g)) := by
    unfold takeReleaseEnd
    rw [hw, ← takeOff_without hw]
    exact if_pos ho
  exact (taken_now hr (by rw [hw]; rfl)).trans (congrArg Host.Outcome.next taken)

theorem exec_mergeMonitorChange {s : State} (hr : s.resetIn = false)
    (hw : s.waiting isMergeChange = some .mergeChange) :
    exec .mergeMonitorChange s = .next (settleIfLoose (s.without .mergeChange)) := by
  rw [← takeOff_without hw]
  exact taken_now (f := fun t => settleIfLoose (takeOff isMergeChange t)) hr (by rw [hw]; rfl)

/-- Settles O51: a release end in SHUT and outside it; a change of the merge where the state is one that settles. -/
theorem releaseEndsAndMergeChangesSettle : Obligations.ReleaseEndsAndMergeChangesSettle := by
  refine ⟨fun s l g hr hw ho => ?_, fun s hr hw => ?_⟩
  · rw [exec_releaseEnd hr hw ho]
    have ku := releaseTaken_only s l g
    by_cases hs : s.arb.own = .shut
    · rw [if_pos hs]
      exact ⟨_, rfl, ku.mono, rfl, rfl, rfl, rfl, rfl, rfl, fun _ => ⟨hs, rfl, rfl⟩, fun h => absurd hs h⟩
    · rw [if_neg hs]
      have k := settle_follows (s.releaseTaken l g)
      have ks : SettledFrom s _ := (settle_from (s.releaseTaken l g)).from rfl rfl
      generalize settle (deriveHold _) = t at k ks
      have arb := k.arb
      have closed : t.arb.openRelease = none := by rw [arb]; rfl
      have det : t.det = s.det := k.only.det
      refine ⟨t, rfl, ku.mono.step k.only, k.only.same .handoffs, closed, by rw [arb]; rfl, by rw [arb]; rfl,
        by rw [arb]; rfl, k.laneCounts, fun h => absurd h hs, fun _ => ?_⟩
      have ⟨own, owner, yields⟩ := ks
      rw [closed, det] at own
      exact ⟨k.holdNow, k.hold, ks, own, owner, yields⟩
  · rw [exec_mergeMonitorChange hr hw]
    have ku := (without_only s .mergeChange).mono (cs := [.arb, .counts, .handoffs])
    by_cases hs : s.arb.own = .shut ∨ s.arb.own = .releasing
    · rw [settleIfLoose_stands (s := s.without .mergeChange) hs]
      refine ⟨_, rfl, ku, rfl, fun _ => ⟨rfl, rfl⟩, fun h => ?_⟩
      rcases hs with hs | hs <;> simp [hs] at h
    · obtain ⟨hn, hr⟩ := not_or.1 hs
      rw [settleIfLoose_settles (s := s.without .mergeChange) hn hr]
      have ks := settle_only (s.without .mergeChange)
      have arb := settle_arb (s.without .mergeChange)
      have settled := settle_settledFrom (s.without .mergeChange)
      generalize settle _ = t at ks arb settled
      have det : t.det = s.det := ks.det
      obtain ⟨own, owner, yields⟩ := settled
      have hold : t.arb.holdCause = s.arb.holdCause ∧ t.arb.holdLane = s.arb.holdLane ∧
          t.arb.openRelease = s.arb.openRelease := by rw [arb]; exact ⟨rfl, rfl, rfl⟩
      obtain ⟨hc, hl, ho⟩ := hold
      rw [hc, hl, ho, det] at own
      rw [hl] at owner
      refine ⟨t, rfl, ku.step ks, ks.same .handoffs, fun h => absurd h hs, fun _ => ⟨?_, own, yields⟩⟩
      rw [← owner, arb]
      rfl

end Sys2Proof.Machine
end

section
/-! PROOFS. The four lanes settle their REDs: which open, and what each of the others hands on (R63, R68, R69, log 10). -/

namespace Sys2Proof.Machine

set_option Elab.async false

/-! ### What a lane's turn rests on -/

/-- What the lanes' turns can change, the site's state apart. -/
structure RedsFrom (s t : State) : Prop where
  only : Only [.lanes, .lamps, .handoffs, .site] s t
  state : t.site.state = s.site.state

theorem Only.symm {bs : List Part} {s t : State} (h : Only bs s t) : Only bs t s := by
  intro b hb
  have e := h b hb
  cases b <;> simp_all [agree]

theorem RedsFrom.refl (s : State) : RedsFrom s s := ⟨Only.refl _ s, rfl⟩

theorem settleRed_from {s t : State} (k : RedsFrom s t) (l : Lane) : RedsFrom s (settleRed l t) :=
  ⟨k.only.andThen (settleRed_only l t), (settleRed_state l t).trans k.state⟩

theorem redOpens_of_lane {s t : State} (k : RedsFrom s t) {l : Lane} (h : t.lane l = s.lane l) :
    t.redOpens l = s.redOpens l := by
  simp only [State.redOpens, State.laneGovIs, State.metering, h, k.state]

theorem hasDemand_of_lane {s t : State} (k : RedsFrom s t) {l : Lane} (h : t.lane l = s.lane l) :
    t.hasDemand l = s.hasDemand l := by
  have desc : t.desc = s.desc := k.only.same .desc
  simp only [State.hasDemand, State.sequenced, State.mode, State.chanFor, State.chan, State.laneGovIs, State.metering, h,
    k.state, k.only.det, desc]

/-- What a lane asks rests on its record and on its own messages. -/
theorem asks_of_lane {s t : State} (k : RedsFrom s t) {l : Lane} (h : t.lane l = s.lane l)
    (hw : t.handoffs.any (isAsking l) = s.handoffs.any (isAsking l)) : t.asks l = s.asks l := by
  have desc : t.desc = s.desc := k.only.same .desc
  have arb : t.arb = s.arb := k.only.same .arb
  unfold State.asks
  rw [hw, h, hasDemand_of_lane k h, k.state, arb, desc, weight_of_plans (k.only.same .plans)]

/-! ### The messages in the list -/

/-- A lane hands on messages of its own. -/
theorem mem_asks {s : State} {l : Lane} {h : Handoff} (hh : h ∈ s.asks l) : h = .request l ∨ h = .withdrawal l := by
  unfold State.asks at hh
  split at hh
  · exact absurd hh List.not_mem_nil
  · split at hh
    · exact absurd hh List.not_mem_nil
    · split at hh
      · split at hh
        · exact absurd hh List.not_mem_nil
        · exact .inr (List.mem_singleton.1 hh)
      · split at hh
        · exact .inl (List.mem_singleton.1 hh)
        · exact absurd hh List.not_mem_nil

theorem isAsking_of_mem_asks {s : State} {l m : Lane} {h : Handoff} (hh : h ∈ s.asks l) :
    isAsking m h = decide (l = m) := by
  rcases mem_asks hh with rfl | rfl <;> simp only [isAsking, beq_eq_decide]

theorem isAsking_other {l m : Lane} {h : Handoff} (hm : m ≠ l) (hl : isAsking l h = true) : isAsking m h = false := by
  cases h with
  | request k | withdrawal k =>
    obtain rfl : k = l := by simpa [isAsking] using hl
    simp [isAsking, Ne.symm hm]
  | _ => rfl

theorem filter_asks_own (s : State) (l : Lane) : (s.asks l).filter (isAsking l) = s.asks l :=
  List.filter_eq_self.2 fun _ hh => by simp [isAsking_of_mem_asks hh]

theorem filter_asks_other (s : State) {l m : Lane} (h : m ≠ l) : (s.asks l).filter (isAsking m) = [] :=
  List.filter_eq_nil_iff.2 fun _ hh => by simp [isAsking_of_mem_asks hh, Ne.symm h]

/-- A message of no lane: neither a request nor a withdrawal. -/
def asksNothing (h : Handoff) : Bool := [0, 1, 2, 3].all (fun l => !isAsking l h)

theorem asksNothing_of_isAsking {l : Lane} {h : Handoff} (hl : isAsking l h = true) : asksNothing h = false := by
  unfold asksNothing
  exact List.all_eq_false.2 ⟨l, mem_allLanes l, by simp [hl]⟩

theorem filter_asks_nothing (s : State) (l : Lane) : (s.asks l).filter asksNothing = [] :=
  List.filter_eq_nil_iff.2 fun _ hh => by
    rw [asksNothing_of_isAsking (l := l) (by simp [isAsking_of_mem_asks hh])]
    exact Bool.false_ne_true

theorem filter_not_own (hs : List Handoff) (l : Lane) : (hs.filter (fun h => !isAsking l h)).filter (isAsking l) = [] := by
  rw [List.filter_filter]
  exact List.filter_eq_nil_iff.2 fun h _ => by simp

theorem filter_not_other (hs : List Handoff) {l m : Lane} (h : m ≠ l) :
    (hs.filter (fun h => !isAsking l h)).filter (isAsking m) = hs.filter (isAsking m) := by
  rw [List.filter_filter]
  refine List.filter_congr fun x _ => ?_
  cases hm : isAsking m x with
  | false => rfl
  | true => simp [isAsking_other (Ne.symm h) hm]

theorem filter_not_nothing (hs : List Handoff) (l : Lane) :
    (hs.filter (fun h => !isAsking l h)).filter asksNothing = hs.filter asksNothing := by
  rw [List.filter_filter]
  refine List.filter_congr fun x _ => ?_
  cases hm : isAsking l x with
  | false => simp
  | true => simp [asksNothing_of_isAsking hm]

/-! ### One lane's turn -/

/-- What a lane has: what it shows, and its own messages. -/
abbrev State.turnView (l : Lane) (t : State) : (LaneRec × Head) × List Handoff :=
  (t.shown l, t.handoffs.filter (isAsking l))

/-- What a lane would hand on with this record and these messages. -/
def State.asksWith (s : State) (l : Lane) (r : LaneRec) (hs : List Handoff) : List Handoff :=
  { s with lanes := s.lanes.set l r, handoffs := hs }.asks l

/-- A lane with this record leaves RED for OPEN (R63). -/
def State.opensRed (s : State) (r : LaneRec) : Bool :=
  r.state == .red && r.minRed && !r.inQueue && (s.site.state == .stopping || (s.metering && govIs r.gov .clearout))

theorem redOpens_eq (s : State) (l : Lane) : s.redOpens l = s.opensRed (s.lane l) := rfl

/-- What a turn makes of a lane's view: a red that opens shows it and takes its messages back; any other lane stands and
asks. -/
def State.turned (s : State) (l : Lane) (v : (LaneRec × Head) × List Handoff) : (LaneRec × Head) × List Handoff :=
  if s.opensRed v.1.1 then ((v.1.1.toOpen s.now, s.commands .opened v.1.2), [])
  else (v.1, v.2 ++ s.asksWith l v.1.1 v.2)

theorem turned_opens {s : State} {l : Lane} {r : LaneRec} {hd : Head} {hs : List Handoff} (h : s.opensRed r = true) :
    s.turned l ((r, hd), hs) = ((r.toOpen s.now, s.commands .opened hd), []) := if_pos h

theorem turned_stays {s : State} {l : Lane} {r : LaneRec} {hd : Head} {hs : List Handoff} (h : ¬s.opensRed r = true) :
    s.turned l ((r, hd), hs) = ((r, hd), hs ++ s.asksWith l r hs) := if_neg h

theorem turnView_eq (t : State) (l : Lane) :
    t.turnView l = ((t.lane l, t.head l), t.handoffs.filter (isAsking l)) := rfl

theorem asks_eq_asksWith {s t : State} (k : RedsFrom s t) (l : Lane) :
    t.asks l = s.asksWith l (t.lane l) (t.handoffs.filter (isAsking l)) := by
  have kb : Only [.lanes, .handoffs] s
      { s with lanes := s.lanes.set l (t.lane l), handoffs := t.handoffs.filter (isAsking l) } := by
    intro b hb; cases b <;> simp_all [agree]
  have kt : RedsFrom { s with lanes := s.lanes.set l (t.lane l), handoffs := t.handoffs.filter (isAsking l) } t :=
    ⟨kb.mono.symm.andThen k.only, k.state⟩
  refine asks_of_lane kt ?_ ?_
  · simp [State.lane]
  · rw [List.any_filter]
    simp

/-- A red that opens: the stop flush and the messages taken back are no part of what it shows. -/
theorem shown_opens (s : State) (l m : Lane) : (armStopFlush (redToOpen l s)).shown m =
    if m = l then ((s.lane l).toOpen s.now, s.commands .opened (s.head l)) else s.shown m :=
  (armStopFlush_shown _ m).trans (shown_enterState s l m .opened _)

theorem handoffs_opens (s : State) (l : Lane) :
    (armStopFlush (redToOpen l s)).handoffs = s.handoffs.filter (fun h => !isAsking l h) :=
  (armStopFlush_only _).same .handoffs

theorem settleRed_opened {s : State} {l : Lane} (h : s.redOpens l = true) :
    settleRed l s = armStopFlush (redToOpen l s) := if_pos h

theorem turnView_own {s t : State} (k : RedsFrom s t) (l : Lane) :
    (settleRed l t).turnView l = s.turned l (t.turnView l) := by
  have e : t.redOpens l = s.opensRed (t.lane l) := by
    simp only [State.redOpens, State.laneGovIs, State.metering, State.opensRed, k.state]
  by_cases h : t.redOpens l = true
  · have hs : s.opensRed (t.lane l) = true := e ▸ h
    rw [settleRed_opened h, turnView_eq t, turned_opens hs, State.turnView, shown_opens, if_pos rfl, handoffs_opens,
      filter_not_own, k.only.now, commands_congr k.only.now (k.only.same .desc)]
  · have hs : ¬s.opensRed (t.lane l) = true := e ▸ h
    rw [settleRed_stays (by simpa using h), turnView_eq t, turned_stays hs, ← asks_eq_asksWith k l]
    simp only [State.turnView, List.filter_append, filter_asks_own]
    rfl

theorem turnView_other (l m : Lane) (t : State) (hm : m ≠ l) : (settleRed l t).turnView m = t.turnView m := by
  by_cases h : t.redOpens l = true
  · rw [settleRed_opened h, State.turnView, shown_opens, if_neg hm, handoffs_opens, filter_not_other _ hm]
  · rw [settleRed_stays (by simpa using h)]
    simp only [State.turnView, List.filter_append, filter_asks_other _ hm, List.append_nil]
    rfl

theorem filter_nothing_settleRed (l : Lane) (t : State) :
    (settleRed l t).handoffs.filter asksNothing = t.handoffs.filter asksNothing := by
  by_cases h : t.redOpens l = true
  · rw [settleRed_opened h, handoffs_opens, filter_not_nothing]
  · rw [settleRed_stays (by simpa using h)]
    simp only [List.filter_append, filter_asks_nothing, List.append_nil]

/-! ### The four turns -/

theorem settleReds_from (s : State) : RedsFrom s (settleReds s) :=
  forAll_keeps (P := RedsFrom s) (fun l _ k => settleRed_from k l) allLanes (RedsFrom.refl s)

/-- Each lane's view changes by its own turn alone. -/
theorem settleReds_turnView (s : State) (l : Lane) : (settleReds s).turnView l = s.turned l (s.turnView l) :=
  (forAll_viewWhere (view := State.turnView) (P := RedsFrom s) (fun l _ k => settleRed_from k l)
    (fun l _ k => turnView_own k l) (fun l m t _ => turnView_other l m t) (by decide) (RedsFrom.refl s) l).trans
    (if_pos (mem_allLanes l))

/-- What the four lanes' turns leave. -/
structure RedsSettled (s t : State) : Prop where
  only : Only [.lanes, .lamps, .handoffs, .site] s t
  opens : ∀ l, s.redOpens l = true → t.lane l = (s.lane l).toOpen s.now ∧ (t.head l).shows .opened ∧
    ∀ h ∈ t.handoffs, isAsking l h = false
  stays : ∀ l, s.redOpens l = false → t.lane l = s.lane l ∧ t.head l = s.head l ∧
    t.handoffs.filter (isAsking l) = s.handoffs.filter (isAsking l) ++ { t with handoffs := s.handoffs }.asks l
  others : t.handoffs.filter asksNothing = s.handoffs.filter asksNothing
  site : s.site.state ≠ .stopping → t.site = s.site

theorem settleReds_others (s : State) :
    (settleReds s).handoffs.filter asksNothing = s.handoffs.filter asksNothing :=
  forAll_same (p := fun t => t.handoffs.filter asksNothing) filter_nothing_settleRed allLanes s

/-- Outside STOPPING no turn touches the site. -/
theorem settleReds_site {s : State} (h : s.site.state ≠ .stopping) : (settleReds s).site = s.site := by
  refine forAll_keeps (P := fun t => t.site = s.site) (fun l t k => ?_) allLanes (s := s) rfl
  by_cases ho : t.redOpens l = true
  · rw [settleRed_opens (by rw [k]; exact h) ho, redToOpen_site, k]
  · rw [settleRed_stays (by simpa using ho)]
    exact k

theorem settleReds_settled (s : State) : RedsSettled s (settleReds s) := by
  have after := settleReds_from s
  have views := settleReds_turnView s
  have others := settleReds_others s
  have site := settleReds_site (s := s)
  generalize settleReds s = t at after views others site
  refine ⟨after.only, fun l h => ?_, fun l h => ?_, others, site⟩
  · have view := views l
    rw [turnView_eq s, turned_opens h] at view
    obtain ⟨hv, hw⟩ := Prod.ext_iff.1 view
    obtain ⟨lane, head⟩ := Prod.ext_iff.1 hv
    refine ⟨lane, ?_, fun x hx => ?_⟩
    · rw [show t.head l = _ from head]
      exact commands_shows ..
    · have k := List.filter_eq_nil_iff.1 hw x hx
      simpa using k
  · have view := views l
    rw [turnView_eq s, turned_stays (by rw [← redOpens_eq, h]; exact Bool.false_ne_true),
      ← asks_eq_asksWith (RedsFrom.refl s)] at view
    obtain ⟨hv, hw⟩ := Prod.ext_iff.1 view
    obtain ⟨lane, head⟩ := Prod.ext_iff.1 hv
    have ku : RedsFrom s { t with handoffs := s.handoffs } := ⟨after.only.step (handoffs_only _ _), after.state⟩
    have same : { t with handoffs := s.handoffs }.asks l = s.asks l := asks_of_lane ku lane rfl
    exact ⟨lane, head, by rw [same]; exact hw⟩

/-- Where no red opens, every lane only works out its request. -/
theorem forAll_settleRed_none {s : State} (h : ∀ l, s.redOpens l = false) (ls : List Lane) :
    forAll ls settleRed s = forAll ls settleRequest s := by
  induction ls generalizing s with
  | nil => rfl
  | cons l ls ih =>
    have turn : settleRed l s = settleRequest l s := (settleRed_stays (h l)).trans (settleRequest_asks l s).symm
    have keep : ∀ m, (settleRequest l s).redOpens m = false := fun m => by
      rw [settleRequest_asks]
      exact h m
    show forAll ls settleRed (settleRed l s) = forAll ls settleRequest (settleRequest l s)
    rw [turn]
    exact ih keep

theorem settleReds_none {s : State} (h : ∀ l, s.redOpens l = false) : settleReds s = settleRequests s :=
  forAll_settleRed_none h allLanes

/-! ### The turns in SHUT, out of the queue (R63, R93, log 10) -/

/-- In SHUT and out of the queue: where no lane has anything to ask. -/
structure Unheard (s : State) : Prop where
  shut : s.arb.own = .shut
  unqueued : ∀ l, (s.lane l).inQueue = false

theorem Unheard.asks {s : State} (h : Unheard s) (l : Lane) : s.asks l = [] := by
  unfold State.asks
  rw [h.unqueued, h.shut]
  simp

theorem settleRed_handoffs_unheard {s : State} (h : Unheard s) (l : Lane) :
    (settleRed l s).handoffs = s.handoffs.filter (fun x => !(s.redOpens l && isAsking l x)) := by
  by_cases ho : s.redOpens l = true
  · rw [settleRed_opened ho, handoffs_opens, ho]
    rfl
  · rw [settleRed_stays (by simpa using ho), h.asks, List.append_nil, Bool.eq_false_iff.2 ho]
    exact (List.filter_eq_self.2 fun _ _ => rfl).symm

theorem Unheard.settleRed {s : State} (h : Unheard s) (l : Lane) : Unheard (settleRed l s) where
  shut := by rw [show (Machine.settleRed l s).arb = s.arb from (settleRed_only l s).same .arb, h.shut]
  unqueued m := by
    have view := congrArg (fun v => v.1.1.inQueue) (turnView_own (RedsFrom.refl s) m)
    by_cases hm : m = l
    · subst hm
      by_cases ho : s.redOpens m = true
      · rw [turnView_eq s, turned_opens ho] at view
        exact view.trans (h.unqueued m)
      · rw [settleRed_stays (by simpa using ho)]
        exact h.unqueued m
    · rw [(settleRed_alone l s).2 m hm, h.unqueued]

/-- Of what waits, the messages of the lanes that open are taken back, and nothing is added. -/
theorem forAll_settleRed_unheard {ls : List Lane} (hn : ls.Nodup) {s : State} (h : Unheard s) :
    (forAll ls settleRed s).handoffs = s.handoffs.filter (fun x => ls.all fun l => !(s.redOpens l && isAsking l x)) := by
  induction ls generalizing s with
  | nil => exact (List.filter_eq_self.2 fun _ _ => rfl).symm
  | cons l ls ih =>
    obtain ⟨hl, hls⟩ := List.nodup_cons.1 hn
    have others : ∀ m ∈ ls, (settleRed l s).redOpens m = s.redOpens m := fun m hm =>
      redOpens_of_lane (settleRed_from (RedsFrom.refl s) l)
        ((settleRed_alone l s).2 m fun e => hl (e ▸ hm))
    show (forAll ls settleRed (settleRed l s)).handoffs = _
    rw [ih hls (h.settleRed l), settleRed_handoffs_unheard h, List.filter_filter]
    refine List.filter_congr fun x _ => ?_
    rw [List.all_cons, Bool.and_comm]
    refine congrArg _ ?_
    rw [Bool.eq_iff_iff, List.all_eq_true, List.all_eq_true]
    exact forall₂_congr fun m hm => by rw [others m hm]

end Sys2Proof.Machine
end

section
/-! PROOFS. The arbiter takes a new governing entry (R92, R93, R94, R100, R107, R112). -/

namespace Sys2Proof.Machine

set_option Elab.async false

/-! ### The entry is read -/

/-- The state in which the arbiter has taken the entry `g`, and done nothing with it yet. -/
def State.govHeard (s : State) (g : Option Gov) : State :=
  (s.without (.arbiterGov g)).modArb (fun a => { a with gov := g })

theorem govHeard_only (s : State) (g : Option Gov) : Only [.arb, .handoffs] s (s.govHeard g) :=
  (without_only s _).mono.step (modArb_only _ _)

theorem exec_arbiterGoverningChange {s : State} {g : Option Gov} (hr : s.resetIn = false)
    (hw : s.waiting isArbiterGov = some (.arbiterGov g)) :
    exec .arbiterGoverningChange s = .next (arbiterTakes g (s.without (.arbiterGov g))) := by
  have taken : takeArbiterGov s = arbiterTakes g (s.without (.arbiterGov g)) := by
    unfold takeArbiterGov
    rw [hw, ← takeOff_without hw]
  exact (taken_now hr (by rw [hw]; rfl)).trans (congrArg Host.Outcome.next taken)

theorem metering_iff (s : State) : s.metering = true ↔ s.site.state = .metering := by simp [State.metering]

section
variable {s : State} {g : Option Gov}

theorem arbiterTakes_read (h : s.site.state ≠ .metering) :
    arbiterTakes g (s.without (.arbiterGov g)) = s.govHeard g :=
  if_neg fun k => h ((metering_iff s).1 k)

theorem arbiterTakes_metering (h : s.site.state = .metering) : arbiterTakes g (s.without (.arbiterGov g)) =
    if govShuts g then if s.arb.own = .shut then s.govHeard g else settleReds (enterShut true (s.govHeard g))
    else if s.arb.own = .shut then leaveShut (s.govHeard g) else rederive (checkInterval (s.govHeard g)) :=
  if_pos ((metering_iff s).2 h)

end

theorem govShuts_true {g : Option Gov} (h : govIs g .close = true ∨ govIs g .clearout = true) : govShuts g = true := by
  simpa [govShuts] using h

theorem govShuts_false {g : Option Gov} (hc : govIs g .close = false) (ho : govIs g .clearout = false) :
    govShuts g = false := by simp [govShuts, hc, ho]

/-! ### Into SHUT (R93) -/

theorem lane_enterShut (k : Bool) (s : State) (l : Lane) :
    (enterShut k s).lane l = { s.lane l with inQueue := false } := Quad.get_map _ _ l

theorem enterShut_unheard (k : Bool) (s : State) : Unheard (enterShut k s) :=
  ⟨rfl, fun l => by rw [lane_enterShut]⟩

/-- Out of the queue in METERING, a red past min_red opens that has taken CLEAROUT. -/
theorem enterShut_redOpens {s : State} (hm : s.site.state = .metering) (k : Bool) (l : Lane) :
    (enterShut k s).redOpens l =
      ((s.lane l).state == .red && (s.lane l).minRed && govIs (s.lane l).gov .clearout) := by
  have site : (enterShut k s).site = s.site := (enterShut_only k s).same .site
  have state : (SiteState.metering == SiteState.stopping) = false := rfl
  simp [State.redOpens, State.laneGovIs, State.metering, lane_enterShut, site, hm, state]

/-- A part found unchanged leaves the frame. -/
theorem Only.drop {bs : List Part} {b : Part} {s t : State} (h : Only (b :: bs) s t) (hb : agree s t b) :
    Only bs s t := by
  intro c hc
  by_cases e : c = b
  · exact e ▸ hb
  · exact h c (List.not_mem_cons_of_ne_of_not_mem e hc)

/-- What the way into SHUT leaves, in METERING (R63, R93, log 10). -/
structure ShutTaken (s t : State) : Prop where
  only : Only [.arb, .lanes, .lamps, .handoffs] s t
  arb : t.arb = s.arb.emptied true
  unqueued : ∀ l, (t.lane l).inQueue = false
  opens : ∀ l, (s.lane l).state = .red → (s.lane l).minRed = true → govIs (s.lane l).gov .clearout = true →
    t.lane l = { (s.lane l).toOpen s.now with inQueue := false } ∧ (t.head l).shows .opened
  stays : ∀ l, (s.lane l).state ≠ .red ∨ (s.lane l).minRed = false ∨ govIs (s.lane l).gov .clearout = false →
    t.lane l = { s.lane l with inQueue := false } ∧ t.head l = s.head l
  handoffs : t.handoffs = s.handoffs.filter (fun h => [0, 1, 2, 3].all (fun l =>
    !((s.lane l).state == .red && (s.lane l).minRed && govIs (s.lane l).gov .clearout && isAsking l h)))

theorem settleReds_enterShut {s : State} (hm : s.site.state = .metering) :
    ShutTaken s (settleReds (enterShut true s)) := by
  have ku := enterShut_only true s
  have site : (enterShut true s).site = s.site := ku.same .site
  have opens := enterShut_redOpens hm true
  have lane := lane_enterShut true s
  have heard : (settleReds (enterShut true s)).handoffs = _ :=
    forAll_settleRed_unheard (by decide) (enterShut_unheard true s)
  have k := settleReds_settled (enterShut true s)
  have kept : Only [.arb, .lanes, .lamps, .handoffs, .site] s (settleReds (enterShut true s)) := ku.mono.step k.only
  refine ⟨(kept.mono (cs := [.site, .arb, .lanes, .lamps, .handoffs])).drop ?_, ?_, ?_, fun l hs hf hg => ?_,
    fun l h => ?_, ?_⟩
  · exact (k.site (by rw [site, hm]; decide)).trans site
  · rw [show (settleReds (enterShut true s)).arb = _ from k.only.same .arb, enterShut_arb]
  · exact (forAll_keeps (fun l _ h => h.settleRed l) allLanes (enterShut_unheard true s)).unqueued
  · obtain ⟨own, head, -⟩ := k.opens l (by rw [opens, hs, hf, hg]; rfl)
    rw [lane, ku.now] at own
    exact ⟨own, head⟩
  · have hn : (enterShut true s).redOpens l = false := by
      rw [opens]
      rcases h with h | h | h <;> simp [h]
    obtain ⟨own, head, -⟩ := k.stays l hn
    exact ⟨own.trans (lane l), head⟩
  · rw [heard]
    refine List.filter_congr fun x _ => ?_
    exact List.all_congr rfl fun l => by rw [opens]

/-! ### Out of SHUT (R94) -/

/-- The way out of SHUT leaves the reservation and the open release. -/
theorem leaveShut_keeps (s : State) : (leaveShut s).arb.reservation = s.arb.reservation ∧
    (leaveShut s).arb.openRelease = s.arb.openRelease := by
  have arb : (leaveShut s).arb = (settle (openedArb s)).arb := (settleRequests_only _).same .arb
  rw [arb, settle_arb]
  exact ⟨rfl, rfl⟩

/-- A settled arbiter is not in RELEASING. -/
theorem SettledFrom.not_releasing {s t : State} (h : SettledFrom s t) : t.arb.own ≠ .releasing := by
  obtain ⟨own, -, -⟩ := h
  rw [own]
  split
  · decide
  · split <;> decide

theorem SettledFrom.not_shut {s t : State} (h : SettledFrom s t) : t.arb.own ≠ .shut := by
  obtain ⟨own, -, -⟩ := h
  rw [own]
  split
  · decide
  · split <;> decide

/-! ### The interval compared, the hold derived (R100, R107) -/

theorem checkInterval_arb (s : State) :
    (checkInterval s).arb = { s.arb with expired := s.arb.expired || s.intervalReached } := by
  unfold checkInterval
  split
  · next h => simp [h]
  · next h => simp [Bool.eq_false_iff.2 h]

theorem governingInterval_congr {s t : State} (hg : t.arb.gov = s.arb.gov) (hp : t.plans = s.plans) :
    t.governingInterval = s.governingInterval := by
  have slot : t.slot = s.slot := by
    funext i
    simp only [State.slot, hp]
  simp only [State.governingInterval, State.activePlan, slot, hg, hp]

theorem intervalReached_congr {s t : State} (hg : t.arb.gov = s.arb.gov) (ha : t.arb.armed = s.arb.armed)
    (he : t.arb.elapsed = s.arb.elapsed) (hp : t.plans = s.plans) : t.intervalReached = s.intervalReached := by
  simp only [State.intervalReached, State.intervalInForce, ha, he, governingInterval_congr hg hp]

/-- The cause of the hold in METERING: a reservation, or a FLUSH of one lane (R107). -/
theorem holdNow_cause {s : State} (hm : s.site.state = .metering) : s.holdNow.1 =
    if s.arb.reservation ≠ .none then .reserve
    else if govIs s.arb.gov .flush = true ∧ (s.arb.gov.bind Gov.lanes).isSome = true then .flush else .none := by
  unfold State.holdNow
  by_cases hr : s.arb.reservation ≠ .none
  · rw [if_pos hr, if_pos hr]
  · rw [if_neg hr, if_neg hr]
    cases hg : s.arb.gov with
    | none => rfl
    | some g =>
      simp only [govIs, Option.bind_some, State.metering, hm]
      simp only [beq_self_eq_true, and_true, beq_iff_eq]
      split <;> rfl

/-- Settles O38: outside METERING the entry is read; in METERING it puts the arbiter in SHUT, keeps it there, takes it out,
or is compared with the interval. -/
theorem theArbiterTakesTheGoverningEntry : Obligations.TheArbiterTakesTheGoverningEntry := by
  intro s g hr hw
  have ku := govHeard_only s g
  rw [exec_arbiterGoverningChange hr hw]
  by_cases hm : s.site.state = .metering
  · rw [arbiterTakes_metering hm]
    have out : ¬s.site.state ≠ .metering := fun h => h hm
    cases hs : govShuts g with
    | true =>
      have open_ : ¬(govIs g .close = false ∧ govIs g .clearout = false) := fun ⟨hc, ho⟩ => by
        rw [govShuts_false hc ho] at hs
        exact absurd hs (by decide)
      by_cases ho : s.arb.own = .shut
      · rw [if_pos rfl, if_pos ho]
        exact ⟨_, rfl, rfl, fun h => absurd h out, fun _ _ h => absurd ho h, fun _ _ _ => ⟨ku, rfl, rfl⟩,
          fun _ hc hk => absurd ⟨hc, hk⟩ open_, fun _ hc hk => absurd ⟨hc, hk⟩ open_⟩
      · rw [if_pos rfl, if_neg ho]
        have k := settleReds_enterShut (s := s.govHeard g) hm
        generalize settleReds (enterShut true (s.govHeard g)) = t at k
        have arb := k.arb
        refine ⟨t, rfl, by rw [arb]; rfl, fun h => absurd h out, fun _ _ _ => ?_, fun _ _ h => absurd h ho,
          fun _ hc hk => absurd ⟨hc, hk⟩ open_, fun _ hc hk => absurd ⟨hc, hk⟩ open_⟩
        refine ⟨ku.mono.step k.only, by rw [arb]; rfl, by rw [arb]; exact emptied_shutSound _ _, by rw [arb]; rfl,
          by rw [arb]; rfl, by rw [arb]; rfl, by rw [arb]; rfl, k.unqueued, k.opens, k.stays, k.handoffs⟩
    | false =>
      have shut : ¬(govIs g .close = true ∨ govIs g .clearout = true) := fun h => by
        rw [govShuts_true h] at hs
        exact absurd hs (by decide)
      rw [if_neg Bool.false_ne_true]
      by_cases ho : s.arb.own = .shut
      · rw [if_pos ho]
        have left := leaveShut_left (s.govHeard g)
        have settled : SettledFrom s (leaveShut (s.govHeard g)) := left.settled.from rfl rfl
        obtain ⟨reservation, release⟩ := leaveShut_keeps (s.govHeard g)
        refine ⟨_, rfl, left.gov, fun h => absurd h out, fun _ h => absurd h shut, fun _ h => absurd h shut,
          fun _ _ _ _ => ?_, fun _ _ _ h => absurd ho h⟩
        exact ⟨ku.mono.step (leaveShut_only _), left.opened, settled.not_releasing, left.hold, settled, reservation,
          left.laneCounts, leaveShut_asked _, left.credits, left.prioCount, left.armed, left.elapsed, left.expired,
          release⟩
      · rw [if_neg ho]
        have kc := checkInterval_only (s.govHeard g)
        have compared := checkInterval_arb (s.govHeard g)
        have site : (checkInterval (s.govHeard g)).site = s.site := kc.same .site
        have k := rederive_rederived (s := checkInterval (s.govHeard g)) (by rw [compared]; exact ho)
        have kt : Only [.arb, .counts] (s.govHeard g) _ := kc.mono.step k.follows.only
        have cause := holdNow_cause (s := checkInterval (s.govHeard g)) (by rw [site]; exact hm)
        generalize rederive _ = t at k kt
        have arb := k.follows.arb
        rw [cause, compared] at arb
        have reached : t.intervalReached = (s.govHeard g).intervalReached :=
          intervalReached_congr (by rw [arb]) (by rw [arb]) (by rw [arb]) (kt.same .plans)
        have settled : s.arb.own ≠ .releasing → SettledFrom s t := fun h =>
          (k.settled (by rw [compared]; exact h)).from (by rw [compared]; rfl) kc.log
        have stands : s.arb.own = .releasing →
            t.arb.own = .releasing ∧ t.arb.owner = s.arb.owner ∧ t.log.slip = s.log.slip := fun h => by
          obtain ⟨own, owner, log⟩ := k.releasing (by rw [compared]; exact h)
          exact ⟨own, by rw [owner, compared]; rfl, by rw [log, kc.log]; rfl⟩
        refine ⟨t, rfl, by rw [arb]; rfl, fun h => absurd h out, fun _ h => absurd h shut, fun _ h => absurd h shut,
          fun _ _ _ h => absurd h ho, fun _ _ _ _ => ?_⟩
        refine ⟨ku.mono.step kt, ?_, fun h => (stands h).1, by rw [arb, reached]; rfl, by rw [arb]; rfl, k.follows.hold,
          kt.same .handoffs, by rw [arb]; rfl, by rw [arb]; rfl, ?_, fun h => (stands h).2, settled, by rw [arb]; rfl⟩
        · by_cases h : s.arb.own = .releasing
          · rw [(stands h).1]
            decide
          · exact (settled h).not_shut
        · rw [k.follows.laneCounts, kc.log]
          rfl
  · rw [arbiterTakes_read hm]
    exact ⟨_, rfl, rfl, fun _ => ⟨ku, rfl, rfl⟩, fun h => absurd h hm, fun h => absurd h hm, fun h => absurd h hm,
      fun h => absurd h hm⟩

end Sys2Proof.Machine
end

section
/-! PROOFS. A grant, from the refill to the turns of the other lanes (R55, R63, R68, R69, R103, R104). -/

namespace Sys2Proof.Machine

set_option Elab.async false

/-! ### Lanes leave the queue (R97, R98) -/

theorem forAll_unqueue_arb (ls : List Lane) (s : State) : (forAll ls unqueue s).arb = { s.arb with
    queue := s.arb.queue.filter (fun m => !ls.contains m)
    prioWaiting := s.arb.prioWaiting && !ls.any (fun l => s.desc.priority == some l) } := by
  induction ls generalizing s with
  | nil => simp [forAll]
  | cons l ls ih =>
    show (forAll ls unqueue (unqueue l s)).arb = _
    rw [ih]
    have desc : (unqueue l s).desc = s.desc := rfl
    have queue : (s.arb.queue.filter (fun m => m != l)).filter (fun m => !ls.contains m) =
        s.arb.queue.filter (fun m => !(l :: ls).contains m) := by
      rw [List.filter_filter]
      refine List.filter_congr fun m _ => ?_
      rw [List.contains_cons, Bool.not_or, Bool.and_comm]
      rfl
    have waiting : ((if s.desc.priority = some l then false else s.arb.prioWaiting) &&
        !ls.any (fun l => s.desc.priority == some l)) =
        (s.arb.prioWaiting && !(l :: ls).any (fun l => s.desc.priority == some l)) := by
      rw [List.any_cons]
      by_cases h : s.desc.priority = some l
      · simp [h]
      · rw [if_neg h, beq_eq_false_iff_ne.2 h, Bool.false_or]
    rw [desc, ← queue, ← waiting]
    rfl

theorem forAll_unqueue_lane (ls : List Lane) (s : State) (m : Lane) :
    (forAll ls unqueue s).lane m = { s.lane m with inQueue := (s.lane m).inQueue && !ls.contains m } := by
  induction ls generalizing s with
  | nil => simp [forAll]
  | cons l ls ih =>
    show (forAll ls unqueue (unqueue l s)).lane m = _
    rw [ih, lane_unqueue]
    by_cases h : m = l
    · subst h
      simp
    · have ne : (m == l) = false := by simpa using h
      rw [if_neg h, List.contains_cons, ne, Bool.false_or]

/-! ### The promotion (R104 step 1) -/

/-- The promotion takes the place of a queued lane other than the candidate that the promoted plan gives no weight. -/
def State.drops (s : State) (c : Lane) (p : Plan) (l : Lane) : Bool :=
  l != c && s.plans.staged.isSome && p.weights.get l == 0

/-- What the promotion of `p`, or its absence, leaves. -/
structure Promoted (c : Lane) (p : Plan) (s t : State) : Prop where
  only : Only [.plans, .arb, .lanes] s t
  active : t.plans.active = if s.plans.staged = none then s.plans.active else s.plans.staged
  staged : t.plans.staged = none
  arb : t.arb = { s.arb with
    queue := s.arb.queue.filter (fun l => !s.drops c p l), prioWaiting := t.arb.prioWaiting, credit := t.arb.credit }
  prioWaiting : (∀ l, s.desc.priority = some l → l ∉ s.arb.queue) → t.arb.prioWaiting = s.arb.prioWaiting
  credit : ∀ l, s.desc.priority ≠ some l → t.arb.credit.get l =
    if s.plans.staged = none then s.arb.credit.get l else min (s.arb.credit.get l) (p.weights.get l)
  lane : ∀ l, t.lane l =
    { s.lane l with inQueue := (s.lane l).inQueue && !(s.arb.queue.contains l && s.drops c p l) }

/-- The state in which the staged slot has become active and the credits are clamped. -/
def State.activated (s : State) (i : Slot) : State :=
  clampCredits (s.modPlans (fun p => { p with active := some i, staged := none }))

theorem promote_none {s : State} (c : Lane) (h : s.plans.staged = none) : promote c s = s := by
  unfold promote
  rw [h]

/-- The queued lanes other than the candidate that have no weight. -/
def State.weightless (s : State) (c : Lane) : List Lane := s.arb.queue.filter (fun l => l != c && s.weight l == 0)

theorem promote_some {s : State} (c : Lane) {i : Slot} (h : s.plans.staged = some i) :
    promote c s = forAll ((s.activated i).weightless c) unqueue (s.activated i) := by
  unfold promote
  rw [h]
  rfl

section
variable {s : State} {i : Slot} {p : Plan}

theorem activated_weight (hi : s.slot i = some p) (l : Lane) : (s.activated i).weight l = p.weights.get l :=
  weight_active (s := s.activated i) rfl hi l

theorem activated_credit (hi : s.slot i = some p) {l : Lane} (hl : s.desc.priority ≠ some l) :
    (s.activated i).arb.credit.get l = min (s.arb.credit.get l) (p.weights.get l) :=
  have weight : (s.modPlans (fun q => { q with active := some i, staged := none })).weight l = p.weights.get l :=
    weight_active (s := s.modPlans (fun q => { q with active := some i, staged := none })) (i := i) rfl hi l
  (Quad.get_tab _ l).trans ((if_neg hl).trans (congrArg _ weight))

theorem weightless_contains (hs : s.plans.staged = some i) (hi : s.slot i = some p) (c l : Lane) :
    ((s.activated i).weightless c).contains l = (s.arb.queue.contains l && s.drops c p l) := by
  have drops : s.drops c p l = (l != c && (s.activated i).weight l == 0) := by
    rw [activated_weight hi, State.drops, hs, Option.isSome_some, Bool.and_true]
  rw [drops, Bool.eq_iff_iff, Bool.and_eq_true, List.contains_iff_mem, List.contains_iff_mem]
  exact List.mem_filter

/-- The queue without the weightless lanes is the queue without the lanes dropped. -/
theorem filter_weightless (hs : s.plans.staged = some i) (hi : s.slot i = some p) (c : Lane) :
    s.arb.queue.filter (fun l => !((s.activated i).weightless c).contains l) =
      s.arb.queue.filter (fun l => !s.drops c p l) :=
  List.filter_congr fun l hl => by
    rw [weightless_contains hs hi, List.contains_iff_mem.2 hl, Bool.true_and]

/-- Where the priority lane is not queued, it is not dropped. -/
theorem weightless_priority (c : Lane) (h : ∀ l, s.desc.priority = some l → l ∉ s.arb.queue) :
    ((s.activated i).weightless c).any (fun l => s.desc.priority == some l) = false :=
  List.any_eq_false.2 fun l hl => by
    have queued : l ∈ s.arb.queue := List.mem_of_mem_filter hl
    rw [beq_iff_eq]
    exact fun e => h l e queued

end

theorem promote_promoted {s : State} {p : Plan} (c : Lane) (hp : s.planAfterPromotion = some p) :
    Promoted c p s (promote c s) := by
  have only := promote_only c s
  cases hs : s.plans.staged with
  | none =>
    rw [promote_none c hs] at only ⊢
    have stays : ∀ l, s.drops c p l = false := fun l => by simp [State.drops, hs]
    refine ⟨only, by simp [hs], hs, by simp [stays], fun _ => rfl, fun l _ => by simp [hs], fun l => by simp [stays]⟩
  | some i =>
    have hi : s.slot i = some p := by simpa [State.planAfterPromotion, hs] using hp
    have plans : (promote c s).plans = (s.activated i).plans := by
      rw [promote_some c hs]
      exact (Only.forAll unqueue_only _ _).same .plans
    have arb := forAll_unqueue_arb ((s.activated i).weightless c) (s.activated i)
    have lane := forAll_unqueue_lane ((s.activated i).weightless c) (s.activated i)
    rw [← promote_some c hs] at arb lane
    have queue : (s.activated i).arb.queue = s.arb.queue := rfl
    rw [queue, filter_weightless hs hi] at arb
    refine ⟨only, ?_, ?_, ?_, fun h => ?_, fun l hl => ?_, fun l => ?_⟩
    · rw [plans, hs]
      rfl
    · rw [plans]
      rfl
    · rw [arb]
      rfl
    · have desc : (s.activated i).desc = s.desc := rfl
      rw [arb, desc, weightless_priority c h]
      exact Bool.and_true _
    · rw [arb, hs]
      exact activated_credit hi hl
    · rw [lane, weightless_contains hs hi]
      rfl

/-! ### The grant at the arbiter and at its lane (R55, R104 steps 2 to 7) -/

/-- What the grant leaves at the arbiter, said of the priority lane (R104). -/
theorem granted_eq (s : State) (c : Lane) (n : Option Nat) (a : Arbiter) : a.granted c (s.isPriority c) n = { a with
    grantNo := a.grantNo + 1, armed := n, elapsed := 0, expired := false
    credit := if s.desc.priority = some c then a.credit else a.credit.modify c (fun k => k - 1)
    prioCount := if s.desc.priority = some c then 0 else min 15 (a.prioCount + 1)
    openRelease := some (c, a.grantNo + 1), own := .releasing, owner := some c
    reservation := if s.desc.priority = some c ∧ a.reservation = .pending then .granted else a.reservation } := by
  by_cases h : s.desc.priority = some c <;> simp [Arbiter.granted, State.isPriority, satAdd, h]

/-- The state in which the arbiter has made the grant and counted it, and its lane has not taken it yet. -/
def State.granting (s : State) (c : Lane) : State :=
  countGrant c (unqueue c (s.modArb (Arbiter.granted c (s.isPriority c) s.governingInterval)))

/-- The state in which the lane has taken the grant, before the other lanes hear of it. -/
def State.greened (s : State) (p : Plan) (c : Lane) : State := takeGrant c (s.arb.grantNo + 1) p.size (s.granting c)

theorem grantUnder_eq (p : Plan) (c : Lane) (s : State) : grantUnder p c s = settleReds (s.greened p c) := rfl

/-- The fields of a grant in the record of its lane (R55). -/
def LaneRec.openGrant (now : Nat) (g : BitVec 16) (n time : Nat) (r : LaneRec) : LaneRec :=
  { r with
    onsetAt := some now, grant := some g, size := some n, greenFor := some time, passages := 0, cut := false
    inQueue := false }

/-- The record of a lane that takes a grant and goes to GREEN (R55). -/
def LaneRec.toGreen (now : Nat) (g : BitVec 16) (n time : Nat) (r : LaneRec) : LaneRec :=
  LaneRec.openGrant now g n time { r with state := .green, entryAt := now, minRed := false }

/-- The lane in GREEN with its grant: what `takeGrant` leaves where no CLEAROUT takes it on to OPEN. -/
def State.greenLane (s : State) (c : Lane) (g : BitVec 16) (n : Nat) : State :=
  (enterState c .green s).modLane c (LaneRec.openGrant s.now g n (s.greenTime n))

theorem greenLane_becomes (s : State) (c : Lane) (g : BitVec 16) (n : Nat) :
    LaneBecomes c ((s.lane c).toGreen s.now g n (s.greenTime n)) .green s (s.greenLane c g n) :=
  enterState_becomes s c .green _

theorem greenLane_only (s : State) (c : Lane) (g : BitVec 16) (n : Nat) : Only [.lanes, .lamps] s (s.greenLane c g n) :=
  (enterState_only c .green s).step (modLane_only _ c _)

theorem takeGrant_green {s : State} {c : Lane} (g : BitVec 16) (n : Nat) (h : s.laneGovIs c .clearout = false) :
    takeGrant c g n s = s.greenLane c g n := by
  have stays : (s.greenLane c g n).laneGovIs c .clearout = false := by
    obtain ⟨own, -, -⟩ := greenLane_becomes s c g n
    unfold State.laneGovIs
    rw [own]
    exact h
  exact if_neg (Bool.eq_false_iff.1 stays)

/-- What the grant leaves, with no CLEAROUT taken at its lane. -/
structure Greened (c : Lane) (p : Plan) (s t : State) : Prop where
  only : Only [.arb, .lanes, .lamps, .counts] s t
  arb : t.arb = { s.arb.granted c (s.isPriority c) s.governingInterval with
    queue := s.arb.queue.filter (fun m => m != c)
    prioWaiting := if s.desc.priority = some c then false else s.arb.prioWaiting }
  lane : LaneBecomes c ((s.lane c).toGreen s.now (s.arb.grantNo + 1) p.size (s.greenTime p.size)) .green s t
  laneCounts : t.log.lanes = s.log.lanes.set c { s.log.lanes.get c with grants := (s.log.lanes.get c).grants + 1 }
  slipCounts : t.log.slip = { s.log.slip with grants := s.log.slip.grants + 1 }

theorem granting_only (s : State) (c : Lane) : Only [.arb, .lanes, .counts] s (s.granting c) :=
  (((modArb_only s _).mono (cs := [.arb, .lanes, .counts])).step (unqueue_only _ _)).step (countGrant_only _ _)

theorem granting_arb (s : State) (c : Lane) : (s.granting c).arb =
    { s.arb.granted c (s.isPriority c) s.governingInterval with
      queue := s.arb.queue.filter (fun m => m != c)
      prioWaiting := if s.desc.priority = some c then false else s.arb.prioWaiting } := rfl

theorem granting_lane (s : State) (c m : Lane) :
    (s.granting c).lane m = if m = c then { s.lane c with inQueue := false } else s.lane m :=
  lane_unqueue c m (s.modArb (Arbiter.granted c (s.isPriority c) s.governingInterval))

theorem granting_laneCounts (s : State) (c : Lane) : (s.granting c).log.lanes =
    s.log.lanes.set c { s.log.lanes.get c with grants := (s.log.lanes.get c).grants + 1 } := rfl

theorem granting_slipCounts (s : State) (c : Lane) :
    (s.granting c).log.slip = { s.log.slip with grants := s.log.slip.grants + 1 } := rfl

theorem greened_greened {s : State} {c : Lane} (p : Plan) (h : s.laneGovIs c .clearout = false) :
    Greened c p s (s.greened p c) := by
  have ku := granting_only s c
  have arb := granting_arb s c
  have lane := granting_lane s c
  have lanes := granting_laneCounts s c
  have slip := granting_slipCounts s c
  unfold State.greened
  generalize s.granting c = u at ku arb lane lanes slip
  have own : u.lane c = { s.lane c with inQueue := false } := (lane c).trans (if_pos rfl)
  have gov : u.laneGovIs c .clearout = false := by
    have site : u.site = s.site := ku.same .site
    unfold State.laneGovIs State.metering
    rw [own, site]
    exact h
  have becomes := greenLane_becomes u c (s.arb.grantNo + 1) p.size
  have kg := greenLane_only u c (s.arb.grantNo + 1) p.size
  have time : u.greenTime p.size = s.greenTime p.size := by simp only [State.greenTime, ku.par]
  rw [own, ku.now, time] at becomes
  rw [takeGrant_green _ _ gov]
  generalize u.greenLane c (s.arb.grantNo + 1) p.size = t at becomes kg
  refine ⟨ku.mono.step kg, by rw [show t.arb = u.arb from kg.same .arb, arb], ?_, by rw [kg.log, lanes], by rw [kg.log, slip]⟩
  exact becomes.since (fun m hm => (lane m).trans (if_neg hm)) (ku.same .lamps)

/-! ### The grant as a whole, before the lanes hear of it -/

/-- The state after the round refill, where the choice asks it (R103). -/
def State.refilled (s : State) (refill : Bool) : State := if refill then refillCredits s else s

theorem refilled_only (s : State) (refill : Bool) : Only [.arb] s (s.refilled refill) :=
  Only.ite (fun _ => refillCredits_only s) (fun _ => Only.refl _ s)

theorem refilled_arb (s : State) (refill : Bool) :
    (s.refilled refill).arb = { s.arb with credit := (s.refilled refill).arb.credit } := by
  cases refill <;> rfl

theorem refilled_credit {s : State} (refill : Bool) {l : Lane} (hl : s.desc.priority ≠ some l) :
    (s.refilled refill).arb.credit.get l = if refill then s.weight l else s.arb.credit.get l := by
  cases refill with
  | true => exact (Quad.get_tab _ l).trans (if_neg hl)
  | false => rfl

/-- The refill leaves the plans and the queue, on which the promotion rests. -/
theorem refilled_drops (s : State) (refill : Bool) (c : Lane) (p : Plan) (l : Lane) :
    (s.refilled refill).drops c p l = s.drops c p l := by
  cases refill <;> rfl

theorem refilled_planAfterPromotion (s : State) (refill : Bool) :
    (s.refilled refill).planAfterPromotion = s.planAfterPromotion := by
  cases refill <;> rfl

/-- What a grant of `p` to `c` leaves of the arbiter's and the lanes' state of `s`. -/
structure GrantMade (c : Lane) (refill : Bool) (p : Plan) (s v : State) : Prop where
  only : Only [.plans, .arb, .lanes, .lamps, .counts] s v
  active : v.plans.active = if s.plans.staged = none then s.plans.active else s.plans.staged
  staged : v.plans.staged = none
  arb : v.arb = { s.arb with
    grantNo := s.arb.grantNo + 1, armed := v.governingInterval, elapsed := 0, expired := false
    openRelease := some (c, s.arb.grantNo + 1), own := .releasing, owner := some c
    prioCount := if s.desc.priority = some c then 0 else min 15 (s.arb.prioCount + 1)
    reservation := if s.desc.priority = some c ∧ s.arb.reservation = .pending then .granted else s.arb.reservation
    queue := s.arb.queue.filter (fun l => l != c && (s.plans.staged.isNone || p.weights.get l != 0))
    prioWaiting := v.arb.prioWaiting, credit := v.arb.credit }
  prioTaken : s.desc.priority = some c → v.arb.prioWaiting = false
  prioStays : (∀ l, s.desc.priority = some l → l ≠ c ∧ l ∉ s.arb.queue) → v.arb.prioWaiting = s.arb.prioWaiting
  credit : ∀ l, s.desc.priority ≠ some l → ∀ before, before = (if refill then s.weight l else s.arb.credit.get l) →
    v.arb.credit.get l =
      (if s.plans.staged = none then before else min before (p.weights.get l)) - (if l = c then 1 else 0)
  own : v.lane c = (s.lane c).toGreen s.now (s.arb.grantNo + 1) p.size (s.greenTime p.size)
  head : (v.head c).shows .green
  others : ∀ l, l ≠ c → v.head l = s.head l ∧ v.lane l =
    { s.lane l with inQueue := (s.lane l).inQueue && !(s.arb.queue.contains l && s.drops c p l) }
  laneCounts : v.log.lanes = s.log.lanes.set c { s.log.lanes.get c with grants := (s.log.lanes.get c).grants + 1 }
  slipCounts : v.log.slip = { s.log.slip with grants := s.log.slip.grants + 1 }

/-- The lanes that keep their place past the grant. -/
theorem queue_granted (s : State) (c : Lane) (p : Plan) :
    (s.arb.queue.filter (fun l => !s.drops c p l)).filter (fun l => l != c) =
      s.arb.queue.filter (fun l => l != c && (s.plans.staged.isNone || p.weights.get l != 0)) := by
  rw [List.filter_filter]
  refine List.filter_congr fun l _ => ?_
  by_cases h : l = c
  · simp [h]
  · have ne : (l == c) = false := beq_eq_false_iff_ne.2 h
    cases hs : s.plans.staged <;> simp [State.drops, bne, ne, hs]

/-- The refill, the promotion and the grant, one after the other. -/
theorem grantMade_of {c : Lane} {refill : Bool} {p : Plan} {s u v : State} (ku : Promoted c p (s.refilled refill) u)
    (kv : Greened c p u v) : GrantMade c refill p s v := by
  have kr := refilled_only s refill
  have arb := refilled_arb s refill
  have credit := fun l => refilled_credit (s := s) refill (l := l)
  have drops := refilled_drops s refill c p
  generalize s.refilled refill = r at ku kr arb credit drops
  have plans : r.plans = s.plans := kr.same .plans
  have desc : r.desc = s.desc := kr.same .desc
  have queue : r.arb.queue = s.arb.queue := by rw [arb]
  have kept : Only [.plans, .arb, .lanes] s u := kr.mono.step ku.only
  have descU : u.desc = s.desc := kept.same .desc
  have plansV : v.plans = u.plans := kv.only.same .plans
  have whole := kv.arb
  rw [granted_eq, descU] at whole
  have interval : u.governingInterval = v.governingInterval :=
    (governingInterval_congr (by rw [whole]) plansV).symm
  have only : Only [.plans, .arb, .lanes, .lamps, .counts] s v := kept.mono.step kv.only
  obtain ⟨own, head, others⟩ := kv.lane
  have lane : ∀ l, u.lane l =
      { s.lane l with inQueue := (s.lane l).inQueue && !(s.arb.queue.contains l && s.drops c p l) } := fun l => by
    rw [ku.lane, lane_of_lanes (kr.same .lanes), queue, drops]
  refine ⟨only, by rw [plansV, ku.active, plans], by rw [plansV, ku.staged], ?_, fun h => ?_, fun h => ?_,
    fun l hl before hb => ?_, ?_, head, fun l hl => ?_, ?_, ?_⟩
  · have dropped : r.arb.queue.filter (fun l => !r.drops c p l) = s.arb.queue.filter (fun l => !s.drops c p l) := by
      rw [queue]
      exact List.filter_congr fun l _ => by rw [drops]
    rw [← queue_granted, ← dropped, ← interval]
    generalize u.governingInterval = n at whole
    rw [whole, ku.arb, arb]
  · rw [whole]
    exact if_pos h
  · have none : ¬s.desc.priority = some c := fun e => (h c e).1 rfl
    rw [whole]
    refine (if_neg none).trans ((ku.prioWaiting fun l hl => ?_).trans (by rw [arb]))
    rw [desc] at hl
    rw [queue]
    exact (h l hl).2
  · have clamped := ku.credit l (by rw [desc]; exact hl)
    rw [credit l hl, ← hb, plans] at clamped
    rw [← clamped, whole]
    by_cases hc : s.desc.priority = some c
    · have ne : l ≠ c := fun e => hl (e ▸ hc)
      simp [hc, ne]
    · simp only [if_neg hc, Quad.get_modify]
      by_cases ne : l = c
      · subst ne
        simp
      · simp [ne]
  · have time : u.greenTime p.size = s.greenTime p.size := by simp only [State.greenTime, kept.par]
    have grantNo : u.arb.grantNo = s.arb.grantNo := by rw [ku.arb, arb]
    rw [own, lane, kept.now, grantNo, time]
    rfl
  · obtain ⟨ownL, headL⟩ := others l hl
    exact ⟨headL.trans (by simp only [State.head, show u.lamps = s.lamps from kept.same .lamps]), ownL.trans (lane l)⟩
  · rw [kv.laneCounts, kept.log]
  · rw [kv.slipCounts, kept.log]

/-! ### The lanes hear of the grant (R63, R68, R69, log 10) -/

/-- The candidate of a grant, and its round refill, in HELD and in FREE (R103). -/
theorem grantee_eq {s : State} {c : Lane} {refill : Bool} (hm : s.det.merge.state = .clear) (he : s.arb.expired = true)
    (ho : s.arb.openRelease = none)
    (h : (s.arb.own = .held ∧ s.arb.owner = some c ∧ s.waits c = true ∧ refill = false) ∨
      (s.arb.own = .free ∧ s.freeCandidate = some (c, refill))) : s.grantee = some (c, refill) := by
  have candidate : s.candidate = some (c, refill) := by
    unfold State.candidate
    obtain ⟨own, owner, waits, rfl⟩ | ⟨own, free⟩ := h
    · simp [own, owner, waits]
    · rw [own]
      exact free
  exact (if_pos ((mayGrant_iff s).2 ⟨hm, he, ho⟩)).trans candidate

theorem exec_grant {s : State} {c : Lane} {refill : Bool} {p : Plan} (hr : s.resetIn = false)
    (hg : s.grantee = some (c, refill)) (hp : s.planAfterPromotion = some p) :
    exec .grant s = .next (settleReds ((promote c (s.refilled refill)).greened p c)) := by
  have now : grantNow s = settleReds ((promote c (s.refilled refill)).greened p c) := by
    unfold grantNow
    rw [hg]
    show makeGrant (c, refill) s = _
    unfold makeGrant
    rw [hp]
    rfl
  rw [← now]
  exact taken_now hr (by rw [State.canGrant, hg, hp]; rfl)

/-- The lanes that open when a grant has been made: reds past min_red out of the queue, whose target is OPEN. -/
theorem GrantMade.redOpens {s v : State} {c : Lane} {refill : Bool} {p : Plan} (k : GrantMade c refill p s v) (l : Lane) :
    v.redOpens l = true ↔ l ≠ c ∧ (s.lane l).state = .red ∧ (s.lane l).minRed = true ∧
      ((s.lane l).inQueue = false ∨ (l ∈ s.arb.queue ∧ s.plans.staged ≠ none ∧ p.weights.get l = 0)) ∧
      (s.site.state = .stopping ∨ (s.site.state = .metering ∧ govIs (s.lane l).gov .clearout = true)) := by
  have site : v.site = s.site := k.only.same .site
  rw [redOpens_iff, site]
  by_cases hl : l = c
  · subst hl
    simp [k.own, LaneRec.toGreen, LaneRec.openGrant]
  · obtain ⟨-, lane⟩ := k.others l hl
    have place : ((s.lane l).inQueue && !(s.arb.queue.contains l && s.drops c p l)) = false ↔
        (s.lane l).inQueue = false ∨ (l ∈ s.arb.queue ∧ s.plans.staged ≠ none ∧ p.weights.get l = 0) := by
      cases (s.lane l).inQueue with
      | false => simp
      | true => cases hs : s.plans.staged <;> simp [State.drops, hl, hs]
    rw [lane]
    simp only [place, ne_eq, hl, not_false_eq_true, true_and]

theorem exec_grantMade {s : State} {c : Lane} {refill : Bool} {p : Plan} (hr : s.resetIn = false)
    (hg : s.grantee = some (c, refill)) (hp : s.planAfterPromotion = some p) (hc : s.laneGovIs c .clearout = false) :
    ∃ v, exec .grant s = .next (settleReds v) ∧ GrantMade c refill p s v := by
  have promoted := promote_promoted (s := s.refilled refill) c (by rw [refilled_planAfterPromotion, hp])
  have kr := refilled_only s refill
  have ku : Only [.plans, .arb, .lanes] s (promote c (s.refilled refill)) := kr.mono.step promoted.only
  have site : (promote c (s.refilled refill)).site = s.site := ku.same .site
  have gov : (promote c (s.refilled refill)).laneGovIs c .clearout = false := by
    unfold State.laneGovIs State.metering
    rw [promoted.lane, site, lane_of_lanes (kr.same .lanes)]
    exact hc
  exact ⟨_, exec_grant hr hg hp, grantMade_of promoted (greened_greened p gov)⟩

/-- Settles O48: the grant is made under the promoted plan, and the lanes then take their turns. -/
theorem grantsFollowTheirOrder : Obligations.GrantsFollowTheirOrder := by
  intro s c refill p hr hm he ho hcand hp hc
  obtain ⟨v, hv, k⟩ := exec_grantMade hr (grantee_eq hm he ho hcand) hp hc
  have kt := settleReds_settled v
  have quiet := settleReds_none (s := v)
  refine ⟨settleReds v, hv, ?_⟩
  generalize settleReds v = t at kt quiet
  have arb : t.arb = v.arb := kt.only.same .arb
  have plans : t.plans = v.plans := kt.only.same .plans
  have log : t.log = v.log := kt.only.log
  have handoffs : v.handoffs = s.handoffs := k.only.same .handoffs
  have siteV : v.site = s.site := k.only.same .site
  have interval : t.governingInterval = v.governingInterval := governingInterval_congr (by rw [arb]) plans
  have closed : v.redOpens c = false := Bool.eq_false_iff.2 fun h => ((k.redOpens c).1 h).1 rfl
  obtain ⟨laneC, headC, -⟩ := kt.stays c closed
  have whole := k.arb
  rw [interval, arb, plans, log, laneC, headC]
  refine ⟨(k.only.mono (cs := [.site, .plans, .arb, .lanes, .lamps, .counts, .handoffs])).step kt.only,
    fun h => (kt.site (by rw [siteV]; exact h)).trans siteV, k.active, k.staged, by rw [whole], by rw [whole],
    by rw [whole], by rw [whole], by rw [whole], by rw [whole], by rw [whole], by rw [whole], by rw [whole],
    by rw [whole], by rw [whole], by rw [whole], k.prioTaken, k.prioStays, k.credit, k.own, k.head,
    fun opens hopens => ?_, k.laneCounts, k.slipCounts⟩
  have opens_iff : ∀ l, opens l ↔ v.redOpens l = true := fun l => (hopens l).trans (k.redOpens l).symm
  refine ⟨fun l h => ?_, fun l hl h => ?_, fun l h => ?_, ?_, fun h => ?_⟩
  · obtain ⟨hl, -⟩ := (hopens l).1 h
    have red := (opens_iff l).1 h
    obtain ⟨lane, head, taken⟩ := kt.opens l red
    obtain ⟨-, -, out, -⟩ := (redOpens_iff v l).1 red
    refine ⟨?_, head, taken⟩
    obtain ⟨-, laneV⟩ := k.others l hl
    rw [laneV] at out
    rw [lane, laneV, k.only.now]
    exact congrArg (fun q => { (s.lane l).toOpen s.now with inQueue := q }) out
  · obtain ⟨lane, head, -⟩ := kt.stays l (by simpa [opens_iff] using h)
    obtain ⟨headV, laneV⟩ := k.others l hl
    have ne : (l != c) = true := bne_iff_ne.2 hl
    refine ⟨head.trans headV, lane.trans (laneV.trans ?_)⟩
    rw [State.drops, ne, Bool.true_and, Bool.and_assoc]
  · obtain ⟨-, -, messages⟩ := kt.stays l (by simpa [opens_iff] using h)
    rw [handoffs, arb, plans, log] at messages
    exact messages
  · rw [← handoffs]
    exact kt.others
  · rw [quiet fun l => by simpa [opens_iff] using h l, ← handoffs]
    exact settleRequests_asked v

end Sys2Proof.Machine
end

section
/-! PROOFS. The plan store over every step (R116, R121): what keeps every slot's record valid, and the slots in use full
and different, said once for the store; then for the operations and the rows that touch it. -/

namespace Sys2Proof.Machine

set_option Elab.async false

/-! ### The plan store alone -/

/-- Every slot holds a valid record or none, and the slots in use hold plans and differ (R116, R121). -/
structure PlanStore.Sound (q : PlanStore) : Prop where
  valid : ∀ (i : Slot) (p : Plan), Bank.at q.slots i = some p → p.valid = true
  active : ∀ i, q.active = some i → (Bank.at q.slots i).isSome = true
  staged : ∀ i, q.staged = some i → (Bank.at q.slots i).isSome = true ∧ q.active ≠ some i

theorem plansSound_iff (s : State) : s.plans.Sound ↔ s.plansValid ∧ s.plansInUse :=
  ⟨fun h => ⟨h.valid, h.active, h.staged⟩, fun ⟨valid, active, staged⟩ => ⟨valid, active, staged⟩⟩

theorem PlanStore.reset_sound : PlanStore.reset.Sound where
  valid i p h := by simp [PlanStore.reset] at h
  active i h := by simp [PlanStore.reset] at h
  staged i h := by simp [PlanStore.reset] at h

namespace PlanStore.Sound

variable {q : PlanStore} (h : q.Sound)
include h

/-- A slot that is not in use takes a valid record, or none (R117, R119). -/
theorem put {i : Slot} {o : Option Plan} (ho : ∀ p, o = some p → p.valid = true) (ha : q.active ≠ some i)
    (hs : q.staged ≠ some i) : PlanStore.Sound { q with slots := Bank.put q.slots i o } := by
  have other : ∀ j, j ≠ i → Bank.at (Bank.put q.slots i o) j = Bank.at q.slots j := fun j hj => by
    rw [Bank.at_put, if_neg hj]
  refine ⟨fun j p hj => ?_, fun j hj => ?_, fun j hj => ?_⟩
  · by_cases e : j = i
    · subst e
      exact ho p (by simpa using hj)
    · exact h.valid j p (other j e ▸ hj)
  · have e : j ≠ i := fun e => ha (e ▸ hj)
    exact (congrArg Option.isSome (other j e)).trans (h.active j hj)
  · have e : j ≠ i := fun e => hs (e ▸ hj)
    obtain ⟨full, differ⟩ := h.staged j hj
    exact ⟨(congrArg Option.isSome (other j e)).trans full, differ⟩

/-- The flags say nothing of the slots (R120). -/
theorem guard (f : Quad Bool) : PlanStore.Sound { q with guarded := f } := ⟨h.valid, h.active, h.staged⟩

theorem unstage : PlanStore.Sound { q with staged := none } := ⟨h.valid, h.active, nofun⟩

/-- A slot that holds a plan becomes active, and nothing is staged (R122, R125). -/
theorem activate {i : Slot} (hi : (Bank.at q.slots i).isSome = true) :
    PlanStore.Sound { q with active := some i, staged := none } :=
  ⟨h.valid, fun _ e => Option.some.inj e ▸ hi, nofun⟩

/-- A slot that holds a plan is staged, unless it is the active one (R123). -/
theorem stage {i : Slot} (hi : (Bank.at q.slots i).isSome = true) :
    PlanStore.Sound { q with staged := if q.active = some i then none else some i } := by
  refine ⟨h.valid, h.active, fun j hj => ?_⟩
  split at hj
  · cases hj
  · next differ =>
    obtain rfl := Option.some.inj hj
    exact ⟨hi, differ⟩

end PlanStore.Sound

/-! ### The relation -/

/-- The plan store is sound in `t` where it was in `s`. -/
def PlansKept (s t : State) : Prop := s.plans.Sound → t.plans.Sound

theorem PlansKept.refl (s : State) : PlansKept s s := id

theorem PlansKept.trans {s t u : State} (h : PlansKept s t) (k : PlansKept t u) : PlansKept s u := k ∘ h

theorem PlansKept.ite {s t u : State} {p : Prop} [Decidable p] (ht : p → PlansKept s t) (hu : ¬p → PlansKept s u) :
    PlansKept s (if p then t else u) := by
  split
  · exact ht (by assumption)
  · exact hu (by assumption)

/-- An operation that leaves the plan store alone. -/
theorem Only.plansKept {bs : List Part} {s t : State} (h : Only bs s t) (hp : Part.plans ∉ bs := by decide) :
    PlansKept s t := by
  have plans : t.plans = s.plans := h _ hp
  exact fun hs => plans ▸ hs

theorem plansKept_stepRel : StepRel PlansKept where
  trans := PlansKept.trans
  tenths _ _ := id
  onLine h := h.plansKept

/-- A power-on empties the plan store. -/
theorem powerUp_plansKept (r s : State) : PlansKept r (powerUp s) := fun _ => PlanStore.reset_sound

/-! ### Writing, selecting, promoting (R117, R119, R122, R123, R125) -/

theorem inUse_iff (s : State) (i : Slot) : s.inUse i = true ↔ s.plans.active = some i ∨ s.plans.staged = some i := by
  simp [State.inUse]

theorem changeSlot_plansKept (i : Slot) {o : Option Plan} (ho : ∀ p, o = some p → p.valid = true) (s : State) :
    PlansKept s (changeSlot i o s).2 := by
  unfold changeSlot
  split
  · exact PlansKept.refl s
  · split
    · exact PlansKept.refl s
    · next free =>
      rw [inUse_iff, not_or] at free
      exact fun h => h.put ho free.1 free.2

theorem selectSlot_plansKept {i : Slot} {s : State} (hi : (s.slot i).isSome = true) : PlansKept s (selectSlot i s) :=
  PlansKept.ite (fun _ h => h.stage hi) (fun _ h => h.activate hi)

theorem clearStaged_plansKept (s : State) : PlansKept s (clearStaged s) := fun h => h.unstage

theorem guardGroup_plansKept (on : Bool) (args : List Byte) (s : State) : PlansKept s (guardGroup on args s).2 := by
  unfold guardGroup
  split
  · split
    · exact fun h => h.guard _
    · exact PlansKept.refl s
  · exact PlansKept.refl s

/-- The staged slot that a promotion makes active holds a plan (R121, R125). -/
theorem promote_plansKept (l : Lane) (s : State) : PlansKept s (promote l s) := by
  cases hs : s.plans.staged with
  | none =>
    rw [promote_none l hs]
    exact PlansKept.refl s
  | some i =>
    rw [promote_some l hs]
    have activated : PlansKept s (s.activated i) := fun h => h.activate (h.staged i hs).1
    exact activated.trans (Only.forAll unqueue_only _ _).plansKept

theorem grantUnder_plansKept (p : Plan) (l : Lane) (s : State) : PlansKept s (grantUnder p l s) :=
  ((((modArb_only s _).plansKept.trans (unqueue_only l _).plansKept).trans (countGrant_only l _).plansKept).trans
    (takeGrant_only l _ _ _).plansKept).trans (settleReds_only _).plansKept

theorem grantNow_plansKept (s : State) : PlansKept s (grantNow s) := by
  unfold grantNow
  split
  · unfold makeGrant
    split
    · exact PlansKept.refl s
    · refine PlansKept.trans (PlansKept.trans ?_ (promote_plansKept _ _)) (grantUnder_plansKept _ _ _)
      exact PlansKept.ite (fun _ => (refillCredits_only s).plansKept) (fun _ => PlansKept.refl s)
  · exact PlansKept.refl s

/-! ### The close of a period (R35, R148) -/

theorem localPlan_plansKept {i : Slot} {s : State} (hi : (s.slot i).isSome = true) : PlansKept s (localPlan i s) := by
  have selected := selectSlot_plansKept hi
  unfold localPlan
  cases s.site.state with
  | dark =>
    exact selected.trans (PlansKept.ite (fun _ => (enterStarting_only _).plansKept) (fun _ => PlansKept.refl _))
  | starting | metering | stopping | failsafe => exact selected
  | start | lamptest => exact PlansKept.refl s

/-- The local selector selects only a slot that holds a plan (R148). -/
theorem localAct_plansKept (e : Option Slot) (s : State) : PlansKept s (localAct e s) := by
  unfold localAct
  split
  · split
    · next p hp => exact localPlan_plansKept (by rw [hp]; rfl)
    · exact PlansKept.refl s
  · exact (stopMetering_only s).plansKept

theorem periodCloses_plansKept (s : State) : PlansKept s (periodCloses s) := by
  have closed : PlansKept s (closePeriod s) := (closePeriod_only s).plansKept
  refine closed.trans ?_
  show PlansKept _ (selectorClose (closePeriod s))
  unfold selectorClose
  split
  · exact PlansKept.refl _
  · exact PlansKept.ite (fun _ => (modSel_only _ _).plansKept.trans (localAct_plansKept _ _))
      (fun _ => (modSel_only _ _).plansKept)

/-! ### The acts of the command frames -/

/-- A new occupancy_period can close the period, and the local selector then selects (R14). -/
theorem reachedAtChange_plansKept (p : Param) (s : State) : PlansKept s (reachedAtChange p s) := by
  unfold reachedAtChange
  split
  · exact PlansKept.ite (fun _ => (setMerge_only _ s).plansKept) (fun _ => PlansKept.refl s)
  · exact PlansKept.ite (fun _ => periodCloses_plansKept s) (fun _ => PlansKept.refl s)
  · exact (Only.forAll straysOfLane_only allLanes s).plansKept
  · exact PlansKept.refl s

theorem actSetTiming_followsPlans : actSetTiming.Follows PlansKept := by
  intro args held s
  unfold actSetTiming inWindow
  split
  · split
    · exact PlansKept.ite (fun _ => PlansKept.refl s)
        (fun _ => (modDesc_only s _).plansKept.trans (reachedAtChange_plansKept _ _))
    · exact PlansKept.refl s
  · exact PlansKept.refl s

/-- Only a valid record is written (R116, R117). -/
theorem actWritePlan_followsPlans : actWritePlan.Follows PlansKept := by
  intro args held s
  unfold actWritePlan
  split
  · split
    · next valid => exact changeSlot_plansKept _ (fun _ e => Option.some.inj e ▸ valid) s
    · exact PlansKept.refl s
  · exact PlansKept.refl s

theorem actErasePlan_followsPlans : actErasePlan.Follows PlansKept := fun _ _ s => changeSlot_plansKept _ (by simp) s

/-- Only a slot that holds a plan is selected (R122, R123). -/
theorem actSelectPlan_followsPlans : actSelectPlan.Follows PlansKept := by
  intro args held s
  unfold actSelectPlan
  split
  · split
    · next p hp => exact selectSlot_plansKept (by rw [hp]; rfl)
    · exact PlansKept.refl s
  · exact clearStaged_plansKept s

/-! ### What the other acts and rows can change -/

theorem actBegin_only : Act.Only [.site, .notices, .stream, .link] actBegin := fun _ _ s =>
  Only.ite (fun _ => ((modLink_only s _).mono (cs := [.site, .notices, .stream, .link])).step (modSite_only _ _))
    (fun _ => (modLink_only s _).mono)

theorem actSiteReset_only : Act.Only darkParts actSiteReset := by
  intro args held s
  unfold actSiteReset
  split
  · exact Only.refl _ s
  · exact siteToDark_only s

theorem setPriority_only (p : Option Lane) (s : State) : Only [.desc, .arb] s (setPriority p s) :=
  Only.ite (fun _ => Only.refl _ s)
    (fun _ => ((modDesc_only s _).mono (cs := [.desc, .arb])).step (modArb_only _ _))

theorem actSetPriorityLane_only : Act.Only [.desc, .arb] actSetPriorityLane := by
  intro args held s
  refine inWindow_only ?_
  split
  · split
    · split
      · exact Only.refl _ s
      · exact setPriority_only _ s
    · exact Only.refl _ s
  · exact Only.refl _ s

theorem actStartMetering_only : Act.Only [.site, .lanes, .lamps] actStartMetering := by
  intro args held s
  unfold actStartMetering
  cases s.startCheck with
  | passes => exact enterStarting_only s
  | wrongState | noPlan | noLane => exact Only.refl _ s

theorem actClearFailsafe_only : Act.Only [.site, .lamps, .entries, .notices, .handoffs] actClearFailsafe := by
  intro args held s
  unfold actClearFailsafe
  split
  · exact clearFailsafe_only s
  · exact Only.refl _ s

/-- What the arbiter's taking of a governing entry can change. -/
abbrev governingParts : List Part := [.site, .lanes, .lamps, .arb, .counts, .handoffs]

theorem arbiterTakes_only (g : Option Gov) (s : State) : Only governingParts s (arbiterTakes g s) := by
  have read : Only governingParts s (s.modArb (fun a => { a with gov := g })) := (modArb_only s _).mono
  refine Only.ite (fun _ => Only.ite (fun _ => Only.ite (fun _ => read) (fun _ => ?_))
    (fun _ => Only.ite (fun _ => ?_) (fun _ => ?_))) (fun _ => read)
  · exact (read.step (enterShut_only true _)).step (settleReds_only _)
  · exact read.step (leaveShut_only _)
  · exact (read.step (checkInterval_only _)).step (rederive_only _)

theorem takeArbiterGov_only (s : State) : Only governingParts s (takeArbiterGov s) := by
  unfold takeArbiterGov
  split
  · exact ((takeOff_only _ s).mono (cs := governingParts)).andThen (arbiterTakes_only _ _)
  · exact Only.refl _ s

theorem takeReleaseEnd_only (l : Lane) (s : State) : Only [.arb, .counts, .handoffs] s (takeReleaseEnd l s) := by
  have off : Only [.arb, .counts, .handoffs] s (takeOff (isReleaseEnd l) s) := (takeOff_only _ s).mono
  unfold takeReleaseEnd
  split
  · exact Only.ite (fun _ => off.step (releaseEnded_only _)) (fun _ => off)
  · exact Only.refl _ s

theorem takeAdvance_only (s : State) : Only [.arb, .counts] s (takeAdvance s) :=
  Only.ite (fun _ => ((modArb_only s _).mono (cs := [.arb, .counts])).andThen (rederive_only _))
    (fun _ => Only.refl _ s)

theorem reservationOver_only (s : State) : Only [.arb, .counts, .notices] s (reservationOver s) :=
  ((((modArb_only s _).mono (cs := [.arb, .counts, .notices])).step (countSlip_only _ _)).step (raise_only _ _)).step
    (rederive_only _)

theorem detectorInput_only {c : Chan} {on : Bool} {s t : State} (h : execDetectorInputChange c on s = .next t) :
    Only chanParts s t := by
  unfold execDetectorInputChange at h
  split at h <;> injection h with h <;> subst h
  · exact (modChan_only s c _).mono
  · exact inputChange_only c on s

theorem preemptInput_only {on : Bool} {s t : State} (h : execPreemptionInputChange on s = .next t) :
    Only [.entries, .preempt] s t := by
  unfold execPreemptionInputChange at h
  split at h <;> injection h with h <;> subst h
  · exact modOvr_only s _
  · exact Only.ite (fun _ => Only.refl _ s) (fun _ => modOvr_only s _)

theorem lampSense_only {l : Lane} {col : Colour} {on : Bool} {s t : State}
    (h : execLampSenseChange l col on s = .next t) : Only [.lamps, .handoffs] s t := by
  unfold execLampSenseChange at h
  split at h
  · injection h with h
    exact h ▸ Only.refl _ s
  · split at h <;> injection h with h <;> subst h
    · exact (modLamp_only s l col _).mono
    · exact senseChange_only l col on s

/-! ### The rows that leave the plan store alone -/

/-- The rows that can change the plan store: the resets, the commands on plans, and what ends in a selection or a
promotion. -/
def reachesPlans : Instr → Bool
  | .powerOn | .resetInputAsserted | .resetInputReleased | .setTiming _ | .writePlan _ | .erasePlan _ | .selectPlan _
  | .protectGroup _ | .unprotectGroup _ | .occupancyPeriodClose | .grant => true
  | _ => false

/-- The plan store is the same in both states. -/
def SamePlans (s t : State) : Prop := t.plans = s.plans

theorem SamePlans.trans {s t u : State} (h : SamePlans s t) (k : SamePlans t u) : SamePlans s u := Eq.trans k h

theorem Only.samePlans {bs : List Part} {s t : State} (h : Only bs s t) (hp : Part.plans ∉ bs := by decide) :
    SamePlans s t := h _ hp

theorem samePlans_stepRel : StepRel SamePlans where
  trans := SamePlans.trans
  tenths _ _ := rfl
  onLine h := h.samePlans

/-- An act that leaves the plan store alone. -/
theorem Act.Only.samePlans {bs : List Part} {act : Act} (h : Act.Only bs act) (hp : Part.plans ∉ bs := by decide) :
    act.Follows SamePlans := fun args held s => (h args held s).samePlans hp

/-- Every other row leaves the plan store as it was: the frames by their acts, the events by their operations. -/
theorem exec_samePlans (i : Instr) (hi : reachesPlans i = false) {s t : State} (h : exec i s = .next t) :
    SamePlans s t := by
  have rel := samePlans_stepRel
  cases i with
  | powerOn | resetInputAsserted | resetInputReleased | setTiming | writePlan | erasePlan | selectPlan | protectGroup
  | unprotectGroup | occupancyPeriodClose | grant => simp [reachesPlans] at hi
  | beginCmd args => exact rel.hostFrame actBegin_only.samePlans h
  | takeNotice args => exact rel.hostFrame actTakeNotice_only.samePlans h
  | setNoticeMask args => exact rel.hostFrame actSetNoticeMask_only.samePlans h
  | siteReset args => exact rel.hostFrame actSiteReset_only.samePlans h
  | setTime args => exact rel.hostFrame actSetTime_only.samePlans h
  | pfxLane args => exact rel.hostFrame actPfxLane_only.samePlans h
  | pfxPlan args => exact rel.hostFrame actPfxPlan_only.samePlans h
  | pfxChannel args => exact rel.hostFrame actPfxChannel_only.samePlans h
  | setLane args => exact rel.hostFrame actSetLane_only.samePlans h
  | setPriorityLane args => exact rel.hostFrame actSetPriorityLane_only.samePlans h
  | setChannel args => exact rel.hostFrame actSetChannel_only.samePlans h
  | resetChannel args => exact rel.hostFrame actResetChannel_only.samePlans h
  | startMetering args => exact rel.hostFrame actStartMetering_only.samePlans h
  | stopMetering args => exact rel.hostFrame (act := actStopMetering) (fun _ _ u => (stopMetering_only u).samePlans) h
  | clearFailsafe args => exact rel.hostFrame actClearFailsafe_only.samePlans h
  | clearAmberFault args => exact rel.hostFrame actClearAmberFault_only.samePlans h
  | readPlan args => exact rel.hostFrame actReadPlan_only.samePlans h
  | pushOverride args => exact rel.hostFrame actPushOverride_only.samePlans h
  | removeOverride args => exact rel.hostFrame actRemoveOverride_only.samePlans h
  | mapFrom args => exact rel.hostFrame actMapFrom_only.samePlans h
  | mapTo args => exact rel.hostFrame actMapTo_only.samePlans h
  | mapSkip args => exact rel.hostFrame actMapSkip_only.samePlans h
  | mapAssign args => exact rel.hostFrame actMapAssign_only.samePlans h
  | streamLog args => exact rel.hostFrame actStreamLog_only.samePlans h
  | readLogState args => exact rel.hostFrame actReadLogState_only.samePlans h
  | clearCounts args => exact rel.hostFrame actClearCounts_only.samePlans h
  | readArbiter args => exact rel.hostFrame actReadArbiter_only.samePlans h
  | getStatus args | readConfig args | readChannel args | readLamps args | readOverrides args | readMap args
  | stopStream args | readCounts args => exact rel.hostFrame (reads_only _).samePlans h
  | undefinedCodeFrame code args => exact rel.taken (fun u => (takeUndefined_only code u).samePlans) h
  | badCheckFrame => exact rel.taken (fun u => (takeBadCheck_only u).samePlans) h
  | frameGapTimeout => exact rel.timed (fun u => (discardAll_only u).samePlans) h
  | lenOutOfRange len =>
    exact rel.taken (f := breakOff len)
      (fun u => (discardAll_only u).samePlans.trans (modLink_only _ _).samePlans) h
  | frameOverrun => exact rel.taken (fun u => (discardAll_only u).samePlans) h
  | prefixHoldExpiry => exact rel.timed (fun u => (discardHeld_only u).samePlans) h
  | linkLossExpiry =>
    exact rel.timed (f := loseLink) (fun u => (modLink_only u _).samePlans.trans (raise_only _ _).samePlans) h
  | recordFrameCompletion => exact rel.taken (fun u => (recordSent_only u).samePlans) h
  | detectorInputChange c on => exact (detectorInput_only h).samePlans
  | actuation c => exact rel.timed (fun u => (takeActuation_only c u).samePlans) h
  | clearing c => exact rel.timed (fun u => (takeClearing_only c u).samePlans) h
  | stuckOnExpiry c | stuckOffExpiry c => exact rel.timed (fun u => (becomeStuck_only c _ _ u).samePlans) h
  | noShowClaim l => exact rel.taken (fun u => (takeClaimOf_only l u).samePlans) h
  | mergeSettleExpiry => exact rel.timed (fun u => (setMerge_only _ u).samePlans) h
  | queueOnReached l =>
    exact rel.timed (fun u => (modQueueMon_only l _ u).samePlans.trans (automaticPush_only _ _).samePlans) h
  | queueOffReached l => exact rel.timed (fun u => (queueClears_only l u).samePlans) h
  | spillOnReached =>
    exact rel.timed (fun u => (modSpillMon_only _ u).samePlans.trans (automaticPush_only _ _).samePlans) h
  | spillOffReached => exact rel.timed (fun u => (spillClears_only u).samePlans) h
  | preemptionInputChange on => exact (preemptInput_only h).samePlans
  | preemptionAssertion => exact rel.timed (fun u => (preemptAsserted_only u).samePlans) h
  | preemptionRelease => exact rel.timed (fun u => (preemptReleased_only u).samePlans) h
  | overrideLimitExpiry k src =>
    exact rel.timed (fun u => (removeEntry_only k src u).samePlans.trans (tellMonitor_only src _).samePlans) h
  | arbiterGoverningChange => exact rel.taken (fun u => (takeArbiterGov_only u).samePlans) h
  | laneGoverningChange l => exact rel.taken (fun u => (takeLaneGov_only l u).samePlans) h
  | lampTestExpiry => exact rel.timed (fun u => (endLampTest_only u).samePlans) h
  | warningExpiry => exact rel.timed (fun u => (enterMetering_only u).samePlans) h
  | stopFlushExpiry => exact rel.timed (fun u => (finishToDark_only u).samePlans) h
  | lampFailureReport => exact rel.taken (fun u => (takeOff_only _ u).samePlans.trans (takeReport_only _).samePlans) h
  | lampSenseChange l col on => exact (lampSense_only h).samePlans
  | provingWindowEnd l col => exact rel.timed (fun u => (attemptFailed_only l col u).samePlans) h
  | flashOnPhaseEnd l col => exact rel.timed (fun u => (phaseEnds_only l col u).samePlans) h
  | strayMeasureExpiry l col => exact rel.timed (fun u => (strayFound_only l col u).samePlans) h
  | lossOfProof l col => exact rel.timed (fun u => (proofLost_only l col u).samePlans) h
  | minGreenElapsed l =>
    exact rel.timed (fun u => (tryEndGreen_only l u).samePlans.trans (tryCloseOpen_only l _).samePlans) h
  | greenDurationElapsed l => exact rel.timed (fun u => (tryEndGreen_only l u).samePlans) h
  | amberTimeElapsed l => exact rel.timed (fun u => (goRed_only l u).samePlans) h
  | minRedElapsed l =>
    exact rel.timed (fun u => (modLane_only u l _).samePlans.trans (settleRed_only l _).samePlans) h
  | redGraceExpiry l => exact rel.timed (fun u => (modLane_only u l _).samePlans) h
  | releaseCut l => exact rel.taken (fun u => (takeOff_only _ u).samePlans.trans (takeBusy_only l _).samePlans) h
  | releaseEnd l => exact rel.taken (fun u => (takeReleaseEnd_only l u).samePlans) h
  | request l =>
    exact rel.taken (fun u => ((takeOff_only _ u).samePlans.trans (takeRequest_only l _).samePlans).trans
      (settleRed_only l _).samePlans) h
  | withdrawal l =>
    exact rel.taken (fun u => ((takeOff_only _ u).samePlans.trans (takeWithdrawal_only l _).samePlans).trans
      (settleRed_only l _).samePlans) h
  | mergeMonitorChange =>
    exact rel.taken (fun u => (takeOff_only _ u).samePlans.trans (settleIfLoose_only _).samePlans) h
  | intervalExpiry => exact rel.timed (fun u => (modArb_only u _).samePlans) h
  | advanceActuation => exact rel.taken (fun u => (takeOff_only _ u).samePlans.trans (takeAdvance_only _).samePlans) h
  | reservationExpiry => exact rel.timed (fun u => (reservationOver_only u).samePlans) h
  | replyFrameTransmitted => exact rel.taken (fun u => (replySent_only u).samePlans) h

/-! ### The rows of the table -/

theorem resetReleased_plansKept {s t : State} (h : execResetInputReleased s = .next t) : PlansKept s t := by
  unfold execResetInputReleased at h
  split at h <;> injection h with h <;> subst h
  · exact powerUp_plansKept s _
  · exact PlansKept.refl s

/-- Every row keeps the plan store sound: one that reaches it by its act or its operation, any other as it leaves the
store alone. -/
theorem exec_plansKept (i : Instr) {s t : State} (h : exec i s = .next t) : PlansKept s t := by
  have rel := plansKept_stepRel
  cases reaches : reachesPlans i with
  | false =>
    have plans : t.plans = s.plans := exec_samePlans i reaches h
    exact fun hs => plans ▸ hs
  | true =>
    cases i with
    | powerOn =>
      injection h with h
      exact h ▸ powerUp_plansKept s s
    | resetInputAsserted =>
      injection h with h
      exact h ▸ powerUp_plansKept s _
    | resetInputReleased => exact resetReleased_plansKept h
    | setTiming args => exact rel.hostFrame actSetTiming_followsPlans h
    | writePlan args => exact rel.hostFrame actWritePlan_followsPlans h
    | erasePlan args => exact rel.hostFrame actErasePlan_followsPlans h
    | selectPlan args => exact rel.hostFrame actSelectPlan_followsPlans h
    | protectGroup args => exact rel.hostFrame (act := actProtectGroup) (fun b _ u => guardGroup_plansKept true b u) h
    | unprotectGroup args =>
      exact rel.hostFrame (act := actUnprotectGroup) (fun b _ u => guardGroup_plansKept false b u) h
    | occupancyPeriodClose => exact rel.timed periodCloses_plansKept h
    | grant => exact rel.taken grantNow_plansKept h
    | _ => simp [reachesPlans] at reaches

/-- Settles O55: every row keeps the plan store sound, and so does a step. -/
theorem everyStepKeepsThePlansInUse : Obligations.EveryStepKeepsThePlansInUse := fun s t valid used h =>
  (plansSound_iff t).1 (plansKept_stepRel.step exec_plansKept h ((plansSound_iff s).2 ⟨valid, used⟩))

end Sys2Proof.Machine
end

section
/-! PROOFS. The commands on plans: the record's bytes (R116, R174), WRITE-PLAN and ERASE-PLAN (R117, R119, R121),
SELECT-PLAN (R122, R123), and the protection of a group (R120). -/

namespace Sys2Proof.Machine

set_option Elab.async false

/-! ### The plan record and its bytes (R116, R174) -/

theorem be16_bytes {n : Nat} (h : n < 65536) : be16 (BitVec.ofNat 8 (n / 256)) (BitVec.ofNat 8 n) = n := by
  simp only [be16, BitVec.toNat_ofNat]
  omega

theorem byte1_toNat {n : Nat} (h : n < 256) : (byte1 n).toNat = n := by
  simp only [byte1, BitVec.toNat_ofNat]
  omega

theorem valid_iff (p : Plan) : p.valid = true ↔
    (8 ≤ p.interval ∧ p.interval ≤ 600 ∧ 8 ≤ p.flushInterval ∧ p.flushInterval ≤ 600 ∧ p.flushInterval ≤ p.interval ∧
      1 ≤ p.size ∧ p.size ≤ 3 ∧ p.prioEvery ≤ 15) ∧
    (∀ w ∈ p.weights.toList, w ≤ 7) ∧ ∃ w ∈ p.weights.toList, 0 < w := by
  simp only [Plan.valid, Bool.and_eq_true, decide_eq_true_eq, List.all_eq_true, List.any_eq_true, and_assoc]

/-- A valid record reads back from the bytes that READ-PLAN gives of it. -/
theorem planArgs_data {p : Plan} (h : p.valid = true) : planArgs p.data = some p := by
  obtain ⟨⟨-, interval, -, flush, -, -, size, every⟩, weights, -⟩ := (valid_iff p).1 h
  have weight : ∀ w ∈ p.weights.toList, (byte1 w).toNat = w := fun w hw =>
    byte1_toNat (Nat.lt_of_le_of_lt (weights w hw) (by decide))
  simp only [Quad.toList, List.forall_mem_cons] at weight
  obtain ⟨w0, w1, w2, w3, -⟩ := weight
  have e : planArgs p.data = some
      { interval := be16 (BitVec.ofNat 8 (p.interval / 256)) (BitVec.ofNat 8 p.interval)
        flushInterval := be16 (BitVec.ofNat 8 (p.flushInterval / 256)) (BitVec.ofNat 8 p.flushInterval)
        size := (byte1 p.size).toNat
        weights := ⟨(byte1 p.weights.q0).toNat, (byte1 p.weights.q1).toNat, (byte1 p.weights.q2).toNat,
          (byte1 p.weights.q3).toNat⟩
        prioEvery := (byte1 p.prioEvery).toNat } := rfl
  rw [e, be16_bytes (by omega), be16_bytes (by omega), byte1_toNat (n := p.size) (by omega), w0, w1, w2, w3,
    byte1_toNat (by omega)]

/-- A field out of its range, a flush_interval above the interval, or four weights of 0 make a record invalid. -/
theorem planArgs_invalid {iHi iLo fHi fLo n w0 w1 w2 w3 every : Byte}
    (h : be16 iHi iLo < 8 ∨ 600 < be16 iHi iLo ∨ be16 fHi fLo < 8 ∨ be16 iHi iLo < be16 fHi fLo ∨ n.toNat = 0 ∨
      3 < n.toNat ∨ (∃ w ∈ [w0, w1, w2, w3], 7 < w.toNat) ∨ (∀ w ∈ [w0, w1, w2, w3], w = 0) ∨ 15 < every.toNat) :
    ∃ p, planArgs [iHi, iLo, fHi, fLo, n, w0, w1, w2, w3, every] = some p ∧ p.valid = false := by
  refine ⟨_, rfl, ?_⟩
  rw [← Bool.not_eq_true, valid_iff]
  rintro ⟨fields, weights, w, hw, above⟩
  have map : (⟨w0.toNat, w1.toNat, w2.toNat, w3.toNat⟩ : Quad Nat).toList = [w0, w1, w2, w3].map BitVec.toNat := rfl
  rw [map] at weights hw
  obtain ⟨b, hb, rfl⟩ := List.mem_map.1 hw
  have low : ¬∃ c ∈ [w0, w1, w2, w3], 7 < c.toNat := fun ⟨_, hc, high⟩ =>
    Nat.not_le.2 high (weights _ (List.mem_map_of_mem hc))
  have nonzero : ¬∀ c ∈ [w0, w1, w2, w3], c = 0 := fun zero => by simp [zero b hb] at above
  dsimp only at fields
  simp only [low, nonzero, false_or] at h
  omega

/-! ### A change of a slot's content (R117, R119, R121) -/

section

variable {s : State} {i : Slot} (o : Option Plan) (c : Cmd)

theorem changeSlot_guarded (h : s.plans.guarded.get (groupOf i) = true) :
    changeSlot i o (openFrame c s) = (.refused .guarded, openFrame c s) :=
  if_pos (by rw [State.guardedSlot, openFrame_plans, h])

theorem changeSlot_inUse (h : s.plans.guarded.get (groupOf i) = false)
    (used : s.plans.active = some i ∨ s.plans.staged = some i) :
    changeSlot i o (openFrame c s) = (.refused .inUse, openFrame c s) :=
  (if_neg (by simp [State.guardedSlot, h])).trans (if_pos (by rw [inUse_iff, openFrame_plans]; exact used))

theorem changeSlot_free (h : s.plans.guarded.get (groupOf i) = false) (active : s.plans.active ≠ some i)
    (staged : s.plans.staged ≠ some i) :
    changeSlot i o (openFrame c s) = (.done [],
      { openFrame c s with plans := { s.plans with slots := Bank.put s.plans.slots i o } }) := by
  have free : ¬(openFrame c s).inUse i = true := by
    rw [inUse_iff, openFrame_plans]
    exact not_or.2 ⟨active, staged⟩
  refine (if_neg (by simp [State.guardedSlot, h])).trans ((if_neg free).trans ?_)
  rw [setSlot, State.modPlans, openFrame_plans]

end

theorem actWritePlan_data {p : Plan} (h : p.valid = true) (held : HeldSet) (s : State) :
    actWritePlan p.data held s = changeSlot (held.slot.getD 0) (some p) s := by
  unfold actWritePlan
  rw [planArgs_data h]
  exact if_pos h

theorem actWritePlan_invalid {args : List Byte} (h : ∃ p, planArgs args = some p ∧ p.valid = false) (held : HeldSet)
    (s : State) : actWritePlan args held s = (.range, s) := by
  obtain ⟨p, hp, invalid⟩ := h
  unfold actWritePlan
  rw [hp]
  exact if_neg (by simp [invalid])

/-- WRITE-PLAN of a valid record is answered as the change of the slot is. -/
theorem writePlan_answers {p : Plan} {s : State} {a : Answer} {f : State → State} (valid : p.valid = true)
    (hp : s.passes .writePlan p.data = true)
    (h : changeSlot (s.link.held.slot.getD 0) (some p) (openFrame .writePlan s) = (a, f (openFrame .writePlan s))) :
    Answers (exec (.writePlan p.data) s) .writePlan s a f :=
  answers_of_act rfl hp ((actWritePlan_data valid _ _).trans h)

/-- ERASE-PLAN is answered as the change of the slot to EMPTY is. -/
theorem erasePlan_answers {s : State} {a : Answer} {f : State → State} (hp : s.passes .erasePlan [] = true)
    (h : changeSlot (s.link.held.slot.getD 0) none (openFrame .erasePlan s) = (a, f (openFrame .erasePlan s))) :
    Answers (exec (.erasePlan []) s) .erasePlan s a f := answers_of_act (act := actErasePlan) rfl hp h

/-- Settles O24: both commands change one slot behind the same two refusals, and an invalid record meets neither. -/
theorem plansAreWrittenAndErased : Obligations.PlansAreWrittenAndErased := by
  rintro s i rfl
  refine ⟨fun p valid hp => ⟨fun guarded => ?_, fun unguarded used => ?_, fun unguarded active staged => ?_⟩,
    fun iHi iLo fHi fLo n w0 w1 w2 w3 every hp h => ?_,
    fun hp => ⟨fun guarded => ?_, fun unguarded used => ?_, fun unguarded active staged => ?_⟩,
    fun b q j => Bank.at_put b _ j q⟩
  · exact writePlan_answers valid hp (changeSlot_guarded _ _ guarded)
  · exact writePlan_answers valid hp (changeSlot_inUse _ _ unguarded used)
  · exact writePlan_answers valid hp (changeSlot_free _ _ unguarded active staged)
  · exact answers_of_act rfl hp (actWritePlan_invalid (planArgs_invalid h) _ _)
  · exact erasePlan_answers hp (changeSlot_guarded _ _ guarded)
  · exact erasePlan_answers hp (changeSlot_inUse _ _ unguarded used)
  · exact erasePlan_answers hp (changeSlot_free _ _ unguarded active staged)

/-! ### SELECT-PLAN and READ-PLAN (R118, R122, R123) -/

@[simp] theorem openFrame_slot (c : Cmd) (s : State) (i : Slot) : (openFrame c s).slot i = s.slot i := by
  simp [State.slot]

theorem selectSlot_metering (i : Slot) {s : State} (h : s.site.state = .metering) :
    selectSlot i s = { s with plans := { s.plans with staged := if s.plans.active = some i then none else some i } } :=
  if_pos ((metering_iff s).2 h)

/-- Outside METERING the slot is active at once, and every credit is clamped to its weight (R101, R122). -/
theorem selectSlot_outside {i : Slot} {p : Plan} {s : State} (h : s.site.state ≠ .metering) (hi : s.slot i = some p) :
    selectSlot i s = { s with
      plans := { s.plans with active := some i, staged := none }
      arb := { s.arb with
        credit := Quad.tab (fun l =>
          if s.desc.priority = some l then s.arb.credit.get l else min (s.arb.credit.get l) (p.weights.get l)) } } := by
  have activated : selectSlot i s = s.activated i := if_neg (by rwa [metering_iff])
  have weight : ∀ l, (s.modPlans (fun q => { q with active := some i, staged := none })).weight l = p.weights.get l :=
    weight_active (s := s.modPlans (fun q => { q with active := some i, staged := none })) rfl hi
  rw [activated]
  unfold State.activated clampCredits creditAll
  simp only [weight]
  rfl

section

variable {s : State} {i : Slot} {p : Plan} (held : HeldSet)

theorem actSelectPlan_slot (hs : held.slot = some i) (hi : s.slot i = some p) (args : List Byte) :
    actSelectPlan args held s = (.done [], selectSlot i s) := by
  unfold actSelectPlan
  simp only [hs, hi]

theorem actSelectPlan_empty (hs : held.slot = some i) (hi : s.slot i = none) (args : List Byte) :
    actSelectPlan args held s = (.refused .emptySlot, s) := by
  unfold actSelectPlan
  simp only [hs, hi]

theorem actSelectPlan_clear (hs : held.slot = none) (args : List Byte) :
    actSelectPlan args held s = (.done [], clearStaged s) := by
  unfold actSelectPlan
  simp only [hs]

theorem actReadPlan_slot (hs : held.slot = some i) (hi : s.slot i = some p) (args : List Byte) :
    actReadPlan args held s = (.done p.data, s) := by
  unfold actReadPlan
  simp only [hs, hi]

end

/-- SELECT-PLAN of a slot that holds a plan is a selection of the slot, whatever protects it. -/
theorem selectPlan_answers {s : State} {i : Slot} {p : Plan} (hp : s.passes .selectPlan [] = true)
    (hs : s.link.held.slot = some i) (hi : s.slot i = some p) :
    Answers (exec (.selectPlan []) s) .selectPlan s (.done []) (selectSlot i) :=
  answers_of_act rfl hp (actSelectPlan_slot _ hs (by rwa [openFrame_slot]) [])

/-- Settles O25: the three answers of the act, and the selection in METERING and outside it. -/
theorem selectPlanSelectsOrStages : Obligations.SelectPlanSelectsOrStages := by
  refine fun s hp => ⟨fun i hs hi => ?_, fun hs => ?_, fun i p hs hi metering => ?_, fun i p hs hi outside => ?_⟩
  · exact answers_of_act rfl hp (actSelectPlan_empty _ hs (by rwa [openFrame_slot]) [])
  · refine answers_of_act rfl hp ((actSelectPlan_clear _ hs []).trans ?_)
    rw [clearStaged, State.modPlans, openFrame_plans]
  · refine (selectPlan_answers hp hs hi).trans ?_
    rw [selectSlot_metering i (by rwa [openFrame_site]), openFrame_plans]
  · refine (selectPlan_answers hp hs hi).trans ?_
    rw [selectSlot_outside (by rwa [openFrame_site]) (by rwa [openFrame_slot])]
    simp only [openFrame_plans, openFrame_arb, openFrame_desc]

/-! ### Protection (R120) -/

theorem numArg_val {n : Nat} {b : Byte} (g : Fin n) (h : b.toNat = g.val) : numArg n b = some g := by
  unfold numArg
  rw [dif_pos (h ▸ g.isLt)]
  exact congrArg some (Fin.ext h)

theorem guardGroup_range (on : Bool) {b : Byte} (h : 4 ≤ b.toNat) (s : State) : guardGroup on [b] s = (.range, s) := by
  unfold guardGroup
  simp only [numArg_high h]

theorem guardGroup_group (on : Bool) {b : Byte} (g : Fin 4) (h : b.toNat = g.val) (s : State) (c : Cmd) :
    guardGroup on [b] (openFrame c s) = (.done [],
      { openFrame c s with plans := { s.plans with guarded := s.plans.guarded.set g on } }) := by
  unfold guardGroup
  simp only [numArg_val g h]
  rw [setGuard, State.modPlans, openFrame_plans]

/-- The state with other protection flags. -/
def State.withGuards (s : State) (q : Quad Bool) : State := { s with plans := { s.plans with guarded := q } }

theorem selectSlot_withGuards (i : Slot) (s : State) (q : Quad Bool) :
    selectSlot i (s.withGuards q) = (selectSlot i s).withGuards q := by
  have metering : (s.withGuards q).metering = s.metering := rfl
  unfold selectSlot
  rw [metering]
  split <;> rfl

theorem unqueueAll_withGuards (ls : List Lane) (s : State) (q : Quad Bool) :
    forAll ls unqueue (s.withGuards q) = (forAll ls unqueue s).withGuards q := by
  induction ls generalizing s with
  | nil => rfl
  | cons l ls ih => exact ih (unqueue l s)

theorem promote_withGuards (l : Lane) (s : State) (q : Quad Bool) :
    promote l (s.withGuards q) = (promote l s).withGuards q := by
  cases hs : s.plans.staged with
  | none => rw [promote_none l hs, promote_none (s := s.withGuards q) l hs]
  | some i =>
    rw [promote_some l hs, promote_some (s := s.withGuards q) l hs]
    exact unqueueAll_withGuards _ (s.activated i) q

/-- Settles O26: the two acts set one flag; the refusals and the selection are those of the commands on a slot, and
neither a selection nor a promotion reads a flag. -/
theorem groupsAreProtectedAndUnprotected : Obligations.GroupsAreProtectedAndUnprotected := by
  refine fun s b => ⟨linkChecks s .protectGroup [b], linkChecks s .unprotectGroup [b],
    fun hp => ⟨fun high => ?_, fun g hg => ?_⟩, fun hp => ⟨fun high => ?_, fun g hg => ?_⟩, fun _ => rfl,
    fun p valid hp guarded => ?_, fun hp guarded => ?_, fun i p hs hi => ⟨fun hp => ?_, fun hp => ?_⟩, ?_⟩
  · exact answers_of_act (act := actProtectGroup) rfl hp (guardGroup_range true high _)
  · exact answers_of_act (act := actProtectGroup) rfl hp (guardGroup_group true g hg s _)
  · exact answers_of_act (act := actUnprotectGroup) rfl hp (guardGroup_range false high _)
  · exact answers_of_act (act := actUnprotectGroup) rfl hp (guardGroup_group false g hg s _)
  · exact writePlan_answers valid hp (changeSlot_guarded _ _ guarded)
  · exact erasePlan_answers hp (changeSlot_guarded _ _ guarded)
  · exact answers_of_act rfl hp (actReadPlan_slot _ hs (by rwa [openFrame_slot]) [])
  · exact selectPlan_answers hp hs hi
  · rintro f q (⟨i, rfl⟩ | ⟨l, rfl⟩)
    · exact selectSlot_withGuards i s q
    · exact promote_withGuards l s q

end Sys2Proof.Machine
end

section
/-! PROOFS. The override stack's content as a list: where a new entry stands, and what keeps the list ordered, its
identities distinct and its length at most four (R129, R130, R131, R136). -/

namespace Sys2Proof.Machine

set_option Elab.async false

/-! ### Identities and places (R129, R130) -/

theorem Entry.isId_iff {k : OvKind} {src : OvSource} {e : Entry} : e.isId k src = true ↔ e.kind = k ∧ e.source = src := by
  simp [Entry.isId]

theorem Entry.sameId_iff {e f : Entry} : e.sameId f = true ↔ f.kind = e.kind ∧ f.source = e.source := Entry.isId_iff

theorem Entry.sameId_symm {e f : Entry} (h : e.sameId f = false) : f.sameId e = false := by
  rw [← Bool.not_eq_true, Entry.sameId_iff] at h ⊢
  exact fun ⟨hk, hs⟩ => h ⟨hk.symm, hs.symm⟩

theorem stands_iff {s : State} {k : OvKind} {src : OvSource} :
    s.stands k src = true ↔ ∃ f ∈ s.ovr.entries, f.kind = k ∧ f.source = src := by
  simp only [State.stands, List.any_eq_true, Entry.isId_iff]

/-- A new entry parts the stack below the entries of higher rank (R130). -/
theorem placeEntry_eq (e : Entry) (es : List Entry) :
    placeEntry e es =
      es.takeWhile (fun f => decide (rankOf e.kind < rankOf f.kind)) ++
        e :: es.dropWhile (fun f => decide (rankOf e.kind < rankOf f.kind)) := by
  induction es with
  | nil => rfl
  | cons f fs ih =>
    unfold placeEntry
    by_cases h : rankOf e.kind < rankOf f.kind <;> simp [h, ih]

theorem placeEntry_perm (e : Entry) (es : List Entry) : (placeEntry e es).Perm (e :: es) := by
  rw [placeEntry_eq]
  exact List.perm_middle.trans (by rw [List.takeWhile_append_dropWhile])

theorem ranksFall_placeEntry (e : Entry) {es : List Entry} (h : ranksFall es) : ranksFall (placeEntry e es) := by
  induction es with
  | nil => exact List.pairwise_singleton _ _
  | cons f fs ih =>
    obtain ⟨below, rest⟩ := List.pairwise_cons.1 h
    unfold placeEntry
    split
    · refine List.pairwise_cons.2 ⟨fun g hg => ?_, ih rest⟩
      rcases List.mem_cons.1 ((placeEntry_perm e fs).mem_iff.1 hg) with rfl | hg
      · omega
      · exact below g hg
    · refine List.pairwise_cons.2 ⟨fun g hg => ?_, h⟩
      rcases List.mem_cons.1 hg with rfl | hg
      · omega
      · exact (below g hg).trans (by omega)

/-- A new entry stays distinct from the others where no duplicate of it stands. -/
theorem identitiesDiffer_placeEntry {e : Entry} {es : List Entry} (fresh : ∀ f ∈ es, e.sameId f = false)
    (h : identitiesDiffer es) : identitiesDiffer (placeEntry e es) :=
  ((placeEntry_perm e es).pairwise_iff Entry.sameId_symm).2 (List.pairwise_cons.2 ⟨fresh, h⟩)

/-! ### A sound content (R131) -/

/-- At most four entries, by rank from the top, no two of one identity (R131). -/
structure EntriesSound (es : List Entry) : Prop where
  room : es.length ≤ stackRoom
  ranks : ranksFall es
  ids : identitiesDiffer es

theorem stackSound_iff (s : State) : s.stackSound ↔ EntriesSound s.ovr.entries :=
  ⟨fun ⟨room, ranks, ids⟩ => ⟨room, ranks, ids⟩, fun h => ⟨h.room, h.ranks, h.ids⟩⟩

theorem entriesSound_nil : EntriesSound [] := ⟨Nat.zero_le _, List.Pairwise.nil, List.Pairwise.nil⟩

namespace EntriesSound

variable {es : List Entry} (h : EntriesSound es)
include h

/-- A removal, and an eviction, leave the order of the others (R130). -/
theorem sublist {fs : List Entry} (k : fs.Sublist es) : EntriesSound fs :=
  ⟨k.length_le.trans h.room, h.ranks.sublist k, h.ids.sublist k⟩

/-- A change of entries in their places that changes no identity. -/
theorem map {g : Entry → Entry} (hg : ∀ f, (g f).kind = f.kind ∧ (g f).source = f.source) : EntriesSound (es.map g) where
  room := by simpa using h.room
  ranks := h.ranks.map g fun a b hab => by rwa [(hg a).1, (hg b).1]
  ids := h.ids.map g fun a b hab => by
    rw [← Bool.not_eq_true, Entry.sameId_iff] at hab ⊢
    rwa [(hg a).1, (hg b).1, (hg a).2, (hg b).2]

/-- A replacement keeps the duplicate's place, and its rank and identity (R133). -/
theorem replace (e : Entry) : EntriesSound (replaceEntry e es) :=
  h.map fun f => by
    split
    · next same => exact ⟨(Entry.sameId_iff.1 same).1.symm, (Entry.sameId_iff.1 same).2.symm⟩
    · exact ⟨rfl, rfl⟩

theorem renew (e : Entry) : EntriesSound (renewLimit e es) := h.map fun f => by split <;> exact ⟨rfl, rfl⟩

theorem elapse (k : Nat) : EntriesSound (es.map (Entry.elapse k)) := h.map fun _ => ⟨rfl, rfl⟩

/-- A new entry is placed where there is room and no duplicate (R130). -/
theorem place {e : Entry} (room : es.length < stackRoom) (fresh : ∀ f ∈ es, e.sameId f = false) :
    EntriesSound (placeEntry e es) where
  room := by
    rw [(placeEntry_perm e es).length_eq]
    exact room
  ranks := ranksFall_placeEntry e h.ranks
  ids := identitiesDiffer_placeEntry fresh h.ids

/-- An automatic push renews, places, evicts the bottom entry first, or is dropped (R136). -/
theorem push (e : Entry) : EntriesSound (afterAutomaticPush e es) := by
  unfold afterAutomaticPush
  split
  · exact h.renew e
  · next fresh =>
    have fresh : ∀ f ∈ es, e.sameId f = false := by simpa [Entry.sameId] using fresh
    split
    · next room => exact h.place room fresh
    · next full =>
      split
      · split
        · have room : es.dropLast.length < stackRoom := by
            have := h.room
            rw [stackRoom_eq] at this ⊢
            rw [List.length_dropLast]
            omega
          exact (h.sublist (List.dropLast_sublist es)).place room fun f hf => fresh f (List.mem_of_mem_dropLast hf)
        · exact h
      · exact h

end EntriesSound

/-! ### The relation -/

/-- The stack is sound in `t` where it was in `s`. -/
def StackKept (s t : State) : Prop := EntriesSound s.ovr.entries → EntriesSound t.ovr.entries

theorem StackKept.refl (s : State) : StackKept s s := id

theorem StackKept.trans {s t u : State} (h : StackKept s t) (k : StackKept t u) : StackKept s u := k ∘ h

theorem StackKept.ite {s t u : State} {p : Prop} [Decidable p] (ht : p → StackKept s t) (hu : ¬p → StackKept s u) :
    StackKept s (if p then t else u) := by
  split
  · exact ht (by assumption)
  · exact hu (by assumption)

/-- An operation that leaves the entries alone. -/
theorem Only.stackKept {bs : List Part} {s t : State} (h : Only bs s t) (hb : Part.entries ∉ bs := by decide) :
    StackKept s t := by
  have entries : t.ovr.entries = s.ovr.entries := h _ hb
  exact fun hs => entries ▸ hs

/-- An act that leaves the entries alone. -/
theorem Act.Only.followsStack {bs : List Part} {act : Act} (h : Act.Only bs act) (hb : Part.entries ∉ bs := by decide) :
    act.Follows StackKept := fun args held s => (h args held s).stackKept hb

theorem stackKept_stepRel : StepRel StackKept where
  trans := StackKept.trans
  tenths k _ hs := hs.elapse k
  onLine h := h.stackKept

/-! ### The stack's own operations -/

theorem setStack_stackKept {es : List Entry} {s : State} (h : EntriesSound s.ovr.entries → EntriesSound es) :
    StackKept s (setStack es s) := fun hs => (setStack_entries es s).symm ▸ h hs

theorem removeEntry_stackKept (k : OvKind) (src : OvSource) (s : State) : StackKept s (removeEntry k src s) :=
  setStack_stackKept fun hs => hs.sublist List.filter_sublist

theorem automaticPush_stackKept (e : Entry) (s : State) : StackKept s (automaticPush e s) :=
  fun hs => (automaticPush_entries e s).symm ▸ hs.push e

theorem pushIfAsserted_stackKept (s : State) : StackKept s (pushIfAsserted s) :=
  StackKept.ite (fun _ => automaticPush_stackKept _ s) (fun _ => StackKept.refl s)

theorem dropAutomaticFlushes_stackKept (s : State) : StackKept s (dropAutomaticFlushes s) :=
  setStack_stackKept fun hs => hs.sublist List.filter_sublist

/-- The pre-emption filter's level is no part of the content. -/
theorem setPreLevel_stackKept (level : Bool) (s : State) : StackKept s (setPreLevel level s) := id

/-- A LINK push replaces, is placed, or is refused (R133). -/
theorem linkPush_stackKept {e : Entry} (he : e.source = .link) (s : State) : StackKept s (linkPush e s).2 := by
  unfold linkPush
  split
  · exact setStack_stackKept fun hs => hs.replace e
  · next fresh =>
    split
    · next room =>
      refine setStack_stackKept fun hs => hs.place room ?_
      rw [← he] at fresh
      simpa [State.stands, Entry.sameId] using fresh
    · exact StackKept.refl s

/-! ### The site's changes of state (R40, R45 to R50) -/

/-- Going dark empties the stack. -/
theorem darken_stackKept (r s : State) : StackKept r (darken s) := fun _ => (darken_entries s).symm ▸ entriesSound_nil

theorem powerUp_stackKept (r s : State) : StackKept r (powerUp s) := fun _ => entriesSound_nil

theorem enterFailsafe_stackKept (s : State) : StackKept s (enterFailsafe s) :=
  ((darken_stackKept s (enterSite .failsafe s)).trans (syncSign_only _).stackKept).trans (raise_only _ _).stackKept

theorem siteToDark_stackKept (s : State) : StackKept s (siteToDark s) := by
  have dark : StackKept s (syncSign (pushIfAsserted (darken (enterSite .dark s)))) :=
    ((darken_stackKept s _).trans (pushIfAsserted_stackKept _)).trans (syncSign_only _).stackKept
  exact StackKept.ite (fun _ => dark) (fun _ => dark.trans (raise_only _ _).stackKept)

theorem leaveMetering_stackKept (s : State) : StackKept s (leaveMetering s) :=
  (refreshMonitors_only s).stackKept.trans (dropAutomaticFlushes_stackKept _)

theorem makeForOpen_stackKept (l : Lane) (s : State) : StackKept s (makeForOpen l s) := by
  unfold makeForOpen
  cases (s.lane l).state with
  | green => exact (greenToOpen_only l s).stackKept
  | red => exact (settleRed_only l s).stackKept
  | off | warning | amber | opened => exact StackKept.refl s

theorem enterStopping_stackKept (s : State) : StackKept s (enterStopping s) := by
  have left : StackKept s (enterShut true (leaveMetering (enterSite .stopping s))) :=
    ((enterSite_only .stopping s).stackKept.trans (leaveMetering_stackKept _)).trans (enterShut_only true _).stackKept
  exact (left.trans (stackKept_stepRel.forAll makeForOpen_stackKept allLanes _)).trans
    ((syncSign_only _).stackKept.trans (armStopFlush_only _).stackKept)

theorem stopMetering_stackKept (s : State) : StackKept s (stopMetering s) := by
  unfold stopMetering
  cases s.site.state with
  | starting => exact (finishToDark_only s).stackKept
  | metering => exact enterStopping_stackKept s
  | start | lamptest | dark | stopping | failsafe => exact StackKept.refl s

theorem endLampTest_stackKept (s : State) : StackKept s (endLampTest s) :=
  StackKept.ite (fun _ => (enterDark_only s).stackKept.trans (pushIfAsserted_stackKept _))
    (fun _ => (modLamps_only s _).stackKept.trans (enterFailsafe_stackKept _))

theorem clearFailsafe_stackKept (s : State) : StackKept s (clearFailsafe s) :=
  ((modLamps_only s _).stackKept.trans (enterDark_only _).stackKept).trans (pushIfAsserted_stackKept _)

theorem takeReport_stackKept (s : State) : StackKept s (takeReport s) := by
  unfold takeReport
  cases s.site.state with
  | dark | starting | metering | stopping => exact enterFailsafe_stackKept s
  | failsafe => exact (raise_only _ s).stackKept
  | start | lamptest => exact StackKept.refl s

/-! ### The close of a period (R35, R148) -/

theorem localPlan_stackKept (i : Slot) (s : State) : StackKept s (localPlan i s) := by
  have selected : StackKept s (selectSlot i s) := (selectSlot_only i s).stackKept
  unfold localPlan
  cases s.site.state with
  | dark =>
    exact selected.trans (StackKept.ite (fun _ => (enterStarting_only _).stackKept) (fun _ => StackKept.refl _))
  | starting | metering | stopping | failsafe => exact selected
  | start | lamptest => exact StackKept.refl s

theorem localAct_stackKept (e : Option Slot) (s : State) : StackKept s (localAct e s) := by
  unfold localAct
  split
  · split
    · exact localPlan_stackKept _ s
    · exact StackKept.refl s
  · exact stopMetering_stackKept s

theorem selectorClose_stackKept (s : State) : StackKept s (selectorClose s) := by
  unfold selectorClose
  split
  · exact StackKept.refl s
  · exact StackKept.ite (fun _ => (modSel_only s _).stackKept.trans (localAct_stackKept _ _))
      (fun _ => (modSel_only s _).stackKept)

theorem periodCloses_stackKept (s : State) : StackKept s (periodCloses s) :=
  (closePeriod_only s).stackKept.trans (selectorClose_stackKept _)

/-- A new occupancy_period can close the period, and the local selector then can stop metering (R14). -/
theorem reachedAtChange_stackKept (p : Param) (s : State) : StackKept s (reachedAtChange p s) := by
  unfold reachedAtChange
  split
  · exact StackKept.ite (fun _ => (setMerge_only _ s).stackKept) (fun _ => StackKept.refl s)
  · exact StackKept.ite (fun _ => periodCloses_stackKept s) (fun _ => StackKept.refl s)
  · exact (Only.forAll straysOfLane_only allLanes s).stackKept
  · exact StackKept.refl s

/-! ### The stack's events -/

theorem queueTriggers_stackKept (l : Lane) (s : State) : StackKept s (queueTriggers l s) :=
  (modQueueMon_only l _ s).stackKept.trans (automaticPush_stackKept _ _)

theorem spillTriggers_stackKept (s : State) : StackKept s (spillTriggers s) :=
  (modSpillMon_only _ s).stackKept.trans (automaticPush_stackKept _ _)

theorem queueClears_stackKept (l : Lane) (s : State) : StackKept s (queueClears l s) := by
  have watching : StackKept s (s.modQueueMon l (fun m => { m with state := .watching })) :=
    (modQueueMon_only l _ s).stackKept
  exact StackKept.ite (fun _ => watching.trans (removeEntry_stackKept _ _ _)) (fun _ => watching)

theorem spillClears_stackKept (s : State) : StackKept s (spillClears s) := by
  have watching : StackKept s (s.modSpillMon (fun m => { m with state := .watching })) :=
    (modSpillMon_only _ s).stackKept
  exact StackKept.ite (fun _ => watching.trans (removeEntry_stackKept _ _ _)) (fun _ => watching)

theorem preemptAsserted_stackKept (s : State) : StackKept s (preemptAsserted s) :=
  StackKept.ite (fun _ => (setPreLevel_stackKept true s).trans (automaticPush_stackKept _ _))
    (fun _ => setPreLevel_stackKept true s)

theorem preemptReleased_stackKept (s : State) : StackKept s (preemptReleased s) :=
  StackKept.ite (fun _ => (setPreLevel_stackKept false s).trans (removeEntry_stackKept _ _ _))
    (fun _ => setPreLevel_stackKept false s)

/-- The pre-emption filter's input is no part of the content. -/
theorem preemptInput_stackKept {on : Bool} {s t : State} (h : execPreemptionInputChange on s = .next t) :
    StackKept s t := by
  unfold execPreemptionInputChange at h
  split at h <;> injection h with h <;> subst h
  · exact id
  · exact StackKept.ite (fun _ => StackKept.refl s) (fun _ => id)

/-! ### The acts of the command frames -/

theorem actSiteReset_followsStack : actSiteReset.Follows StackKept := by
  intro args held s
  unfold actSiteReset
  split
  · exact StackKept.refl s
  · exact siteToDark_stackKept s

theorem actSetTiming_followsStack : actSetTiming.Follows StackKept := by
  intro args held s
  unfold actSetTiming inWindow
  split
  · split
    · exact StackKept.ite (fun _ => StackKept.refl s)
        (fun _ => (modDesc_only s _).stackKept.trans (reachedAtChange_stackKept _ _))
    · exact StackKept.refl s
  · exact StackKept.refl s

theorem actClearFailsafe_followsStack : actClearFailsafe.Follows StackKept := by
  intro args held s
  unfold actClearFailsafe
  split
  · exact clearFailsafe_stackKept s
  · exact StackKept.refl s

/-- What a grant can change. -/
abbrev grantParts : List Part := [.site, .lanes, .lamps, .arb, .plans, .records, .counts, .notices, .stream, .handoffs]

theorem grantUnder_only (p : Plan) (l : Lane) (s : State) : Only grantParts s (grantUnder p l s) :=
  (((((modArb_only s _).mono (cs := grantParts)).step (unqueue_only l _)).step (countGrant_only l _)).step
    (takeGrant_only l _ _ _)).step (settleReds_only _)

theorem grantNow_only (s : State) : Only grantParts s (grantNow s) := by
  have refilled : Only grantParts s (refillCredits s) := (refillCredits_only s).mono
  unfold grantNow
  split
  · unfold makeGrant
    split
    · exact Only.refl _ s
    · refine Only.step (Only.step ?_ (promote_only _ _)) (grantUnder_only _ _ _)
      exact Only.ite (fun _ => refilled) (fun _ => Only.refl _ s)
  · exact Only.refl _ s

theorem actSelectPlan_only : Act.Only [.plans, .arb] actSelectPlan := by
  intro args held s
  unfold actSelectPlan
  split
  · split
    · exact selectSlot_only _ s
    · exact Only.refl _ s
  · exact (clearStaged_only s).mono

/-- PUSH-OVERRIDE asks for an entry of source LINK (R132). -/
theorem pushArgs_source {lane : Option Lane} {args : List Byte} {e : Entry} (h : pushArgs lane args = some e) :
    e.source = .link := by
  unfold pushArgs at h
  split at h
  · split at h
    · split at h
      · exact Option.some.inj h ▸ rfl
      · cases h
    · cases h
  · cases h

theorem actPushOverride_followsStack : actPushOverride.Follows StackKept := by
  intro args held s
  unfold actPushOverride
  split
  · exact StackKept.refl s
  · split
    · next he => exact linkPush_stackKept (pushArgs_source he) s
    · exact StackKept.refl s

theorem actRemoveOverride_followsStack : actRemoveOverride.Follows StackKept := by
  intro args held s
  unfold actRemoveOverride
  split
  · split
    · split
      · exact removeEntry_stackKept _ _ s
      · exact StackKept.refl s
    · exact StackKept.refl s
  · exact StackKept.refl s

/-! ### The rows of the table -/

theorem resetReleased_stackKept {s t : State} (h : execResetInputReleased s = .next t) : StackKept s t := by
  unfold execResetInputReleased at h
  split at h <;> injection h with h <;> subst h
  · exact powerUp_stackKept s _
  · exact StackKept.refl s

/-- Every row keeps the stack sound: the frames by their acts, the events by their operations. -/
theorem exec_stackKept (i : Instr) {s t : State} (h : exec i s = .next t) : StackKept s t := by
  have rel := stackKept_stepRel
  cases i with
  | powerOn | resetInputAsserted =>
    injection h with h
    exact h ▸ powerUp_stackKept s _
  | resetInputReleased => exact resetReleased_stackKept h
  | siteReset args => exact rel.hostFrame actSiteReset_followsStack h
  | setTiming args => exact rel.hostFrame actSetTiming_followsStack h
  | stopMetering args => exact rel.hostFrame (act := actStopMetering) (fun _ _ u => stopMetering_stackKept u) h
  | clearFailsafe args => exact rel.hostFrame actClearFailsafe_followsStack h
  | pushOverride args => exact rel.hostFrame actPushOverride_followsStack h
  | removeOverride args => exact rel.hostFrame actRemoveOverride_followsStack h
  | queueOnReached l => exact rel.timed (queueTriggers_stackKept l) h
  | queueOffReached l => exact rel.timed (queueClears_stackKept l) h
  | spillOnReached => exact rel.timed spillTriggers_stackKept h
  | spillOffReached => exact rel.timed spillClears_stackKept h
  | occupancyPeriodClose => exact rel.timed periodCloses_stackKept h
  | preemptionInputChange on => exact preemptInput_stackKept h
  | preemptionAssertion => exact rel.timed preemptAsserted_stackKept h
  | preemptionRelease => exact rel.timed preemptReleased_stackKept h
  | overrideLimitExpiry k src =>
    exact rel.timed (fun u => (removeEntry_stackKept k src u).trans (tellMonitor_only src _).stackKept) h
  | lampTestExpiry => exact rel.timed endLampTest_stackKept h
  | lampFailureReport => exact rel.taken (fun u => (takeOff_only _ u).stackKept.trans (takeReport_stackKept _)) h
  | beginCmd args => exact rel.hostFrame actBegin_only.followsStack h
  | takeNotice args => exact rel.hostFrame actTakeNotice_only.followsStack h
  | setNoticeMask args => exact rel.hostFrame actSetNoticeMask_only.followsStack h
  | setTime args => exact rel.hostFrame actSetTime_only.followsStack h
  | pfxLane args => exact rel.hostFrame actPfxLane_only.followsStack h
  | pfxPlan args => exact rel.hostFrame actPfxPlan_only.followsStack h
  | pfxChannel args => exact rel.hostFrame actPfxChannel_only.followsStack h
  | setLane args => exact rel.hostFrame actSetLane_only.followsStack h
  | setPriorityLane args => exact rel.hostFrame actSetPriorityLane_only.followsStack h
  | setChannel args => exact rel.hostFrame actSetChannel_only.followsStack h
  | resetChannel args => exact rel.hostFrame actResetChannel_only.followsStack h
  | startMetering args => exact rel.hostFrame actStartMetering_only.followsStack h
  | clearAmberFault args => exact rel.hostFrame actClearAmberFault_only.followsStack h
  | writePlan args => exact rel.hostFrame actWritePlan_only.followsStack h
  | readPlan args => exact rel.hostFrame actReadPlan_only.followsStack h
  | erasePlan args => exact rel.hostFrame actErasePlan_only.followsStack h
  | selectPlan args => exact rel.hostFrame actSelectPlan_only.followsStack h
  | protectGroup args => exact rel.hostFrame actProtectGroup_only.followsStack h
  | unprotectGroup args => exact rel.hostFrame actUnprotectGroup_only.followsStack h
  | mapFrom args => exact rel.hostFrame actMapFrom_only.followsStack h
  | mapTo args => exact rel.hostFrame actMapTo_only.followsStack h
  | mapSkip args => exact rel.hostFrame actMapSkip_only.followsStack h
  | mapAssign args => exact rel.hostFrame actMapAssign_only.followsStack h
  | streamLog args => exact rel.hostFrame actStreamLog_only.followsStack h
  | readLogState args => exact rel.hostFrame actReadLogState_only.followsStack h
  | clearCounts args => exact rel.hostFrame actClearCounts_only.followsStack h
  | readArbiter args => exact rel.hostFrame actReadArbiter_only.followsStack h
  | getStatus args | readConfig args | readChannel args | readLamps args | readOverrides args | readMap args
  | stopStream args | readCounts args => exact rel.hostFrame (reads_only _).followsStack h
  | undefinedCodeFrame code args => exact rel.taken (fun u => (takeUndefined_only code u).stackKept) h
  | badCheckFrame => exact rel.taken (fun u => (takeBadCheck_only u).stackKept) h
  | frameGapTimeout => exact rel.timed (fun u => (discardAll_only u).stackKept) h
  | lenOutOfRange len =>
    exact rel.taken (f := breakOff len) (fun u => (discardAll_only u).stackKept.trans (modLink_only _ _).stackKept) h
  | frameOverrun => exact rel.taken (fun u => (discardAll_only u).stackKept) h
  | prefixHoldExpiry => exact rel.timed (fun u => (discardHeld_only u).stackKept) h
  | linkLossExpiry =>
    exact rel.timed (f := loseLink) (fun u => (modLink_only u _).stackKept.trans (raise_only _ _).stackKept) h
  | recordFrameCompletion => exact rel.taken (fun u => (recordSent_only u).stackKept) h
  | detectorInputChange c on => exact (detectorInput_only h).stackKept
  | actuation c => exact rel.timed (fun u => (takeActuation_only c u).stackKept) h
  | clearing c => exact rel.timed (fun u => (takeClearing_only c u).stackKept) h
  | stuckOnExpiry c | stuckOffExpiry c => exact rel.timed (fun u => (becomeStuck_only c _ _ u).stackKept) h
  | noShowClaim l => exact rel.taken (fun u => (takeClaimOf_only l u).stackKept) h
  | mergeSettleExpiry => exact rel.timed (fun u => (setMerge_only _ u).stackKept) h
  | arbiterGoverningChange => exact rel.taken (fun u => (takeArbiterGov_only u).stackKept) h
  | laneGoverningChange l => exact rel.taken (fun u => (takeLaneGov_only l u).stackKept) h
  | warningExpiry => exact rel.timed (fun u => (enterMetering_only u).stackKept) h
  | stopFlushExpiry => exact rel.timed (fun u => (finishToDark_only u).stackKept) h
  | lampSenseChange l col on => exact (lampSense_only h).stackKept
  | provingWindowEnd l col => exact rel.timed (fun u => (attemptFailed_only l col u).stackKept) h
  | flashOnPhaseEnd l col => exact rel.timed (fun u => (phaseEnds_only l col u).stackKept) h
  | strayMeasureExpiry l col => exact rel.timed (fun u => (strayFound_only l col u).stackKept) h
  | lossOfProof l col => exact rel.timed (fun u => (proofLost_only l col u).stackKept) h
  | minGreenElapsed l =>
    exact rel.timed (fun u => (tryEndGreen_only l u).stackKept.trans (tryCloseOpen_only l _).stackKept) h
  | greenDurationElapsed l => exact rel.timed (fun u => (tryEndGreen_only l u).stackKept) h
  | amberTimeElapsed l => exact rel.timed (fun u => (goRed_only l u).stackKept) h
  | minRedElapsed l =>
    exact rel.timed (fun u => (modLane_only u l _).stackKept.trans (settleRed_only l _).stackKept) h
  | redGraceExpiry l => exact rel.timed (fun u => (modLane_only u l _).stackKept) h
  | releaseCut l => exact rel.taken (fun u => (takeOff_only _ u).stackKept.trans (takeBusy_only l _).stackKept) h
  | releaseEnd l => exact rel.taken (fun u => (takeReleaseEnd_only l u).stackKept) h
  | request l =>
    exact rel.taken (fun u => ((takeOff_only _ u).stackKept.trans (takeRequest_only l _).stackKept).trans
      (settleRed_only l _).stackKept) h
  | withdrawal l =>
    exact rel.taken (fun u => ((takeOff_only _ u).stackKept.trans (takeWithdrawal_only l _).stackKept).trans
      (settleRed_only l _).stackKept) h
  | mergeMonitorChange =>
    exact rel.taken (fun u => (takeOff_only _ u).stackKept.trans (settleIfLoose_only _).stackKept) h
  | intervalExpiry => exact rel.timed (fun u => (modArb_only u _).stackKept) h
  | grant => exact rel.taken (fun u => (grantNow_only u).stackKept) h
  | advanceActuation => exact rel.taken (fun u => (takeOff_only _ u).stackKept.trans (takeAdvance_only _).stackKept) h
  | reservationExpiry => exact rel.timed (fun u => (reservationOver_only u).stackKept) h
  | replyFrameTransmitted => exact rel.taken (fun u => (replySent_only u).stackKept) h

/-- Settles O54: every row keeps the stack sound, the passing of time too, and so does a step. -/
theorem everyStepKeepsTheStackSound : Obligations.EveryStepKeepsTheStackSound := fun s t sound h =>
  (stackSound_iff t).2 (stackKept_stepRel.step exec_stackKept h ((stackSound_iff s).1 sound))

end Sys2Proof.Machine
end

section
/-! PROOFS. PUSH-OVERRIDE and the automatic pushes (R130, R132, R133, R136), REMOVE-OVERRIDE (R139): the arguments, and
what each push and removal makes of the stack's content. -/

namespace Sys2Proof.Machine

set_option Elab.async false

/-! ### The arguments (R132) -/

theorem kindArg_code (k : OvKind) : kindArg (kindCode k) = some k := by cases k <;> rfl

/-- The codes of the kinds are 1 to 4. -/
theorem kindArg_range {b : Byte} (h : b = 0 ∨ 4 < b.toNat) : kindArg b = none := by
  unfold kindArg
  rcases h with rfl | h
  · rfl
  · split <;> first | omega | rfl

/-- The entry that a PUSH-OVERRIDE in range asks for (R132). -/
def linkEntryOf (k : OvKind) (lane : Option Lane) (limit fixed : Nat) : Entry :=
  { kind := k
    source := .link
    lanes := if k = .flush then lane else none
    limit := if limit = 0 then none else some limit
    fixed := if k = .fixed then some fixed else none }

section

variable {kind lHi lLo fHi fLo : Byte}

theorem pushArgs_entry {k : OvKind} (lane : Option Lane) (hk : kind = kindCode k)
    (hl : be16 lHi lLo = 0 ∨ (10 ≤ be16 lHi lLo ∧ be16 lHi lLo ≤ 60000))
    (hf : k = .fixed → 8 ≤ be16 fHi fLo ∧ be16 fHi fLo ≤ 600) :
    pushArgs lane [kind, lHi, lLo, fHi, fLo] = some (linkEntryOf k lane (be16 lHi lLo) (be16 fHi fLo)) := by
  unfold pushArgs
  simp only [hk, kindArg_code]
  exact if_pos ⟨decide_eq_true hl, hf⟩

theorem pushArgs_range (lane : Option Lane)
    (h : kind = 0 ∨ 4 < kind.toNat ∨ (0 < be16 lHi lLo ∧ be16 lHi lLo < 10) ∨ 60000 < be16 lHi lLo ∨
      (kind = 1 ∧ (be16 fHi fLo < 8 ∨ 600 < be16 fHi fLo))) :
    pushArgs lane [kind, lHi, lLo, fHi, fLo] = none := by
  unfold pushArgs
  cases hk : kindArg kind with
  | none => simp only [hk]
  | some k =>
    simp only [hk]
    refine if_neg fun ⟨hl, hf⟩ => ?_
    have hl : be16 lHi lLo = 0 ∨ (10 ≤ be16 lHi lLo ∧ be16 lHi lLo ≤ 60000) := of_decide_eq_true hl
    have inRange : ¬(kind = 0 ∨ 4 < kind.toNat) := fun out => by simp [kindArg_range out] at hk
    have fixed : kind = 1 → k = .fixed := by
      rintro rfl
      exact (Option.some.inj hk).symm
    rcases h with h | h | h | h | ⟨h1, hout⟩
    · exact inRange (.inl h)
    · exact inRange (.inr h)
    · omega
    · omega
    · have := hf (fixed h1)
      omega

end

/-! ### PUSH-OVERRIDE (R133) -/

theorem replaceEntry_eq (e : Entry) (es : List Entry) :
    replaceEntry e es = es.map (fun f => if f.kind = e.kind ∧ f.source = e.source then e else f) := by
  simp only [replaceEntry, Entry.sameId_iff]

theorem not_stands_iff {s : State} {k : OvKind} {src : OvSource} :
    s.stands k src = false ↔ ∀ f ∈ s.ovr.entries, f.kind = k → f.source ≠ src := by
  rw [← Bool.not_eq_true, stands_iff]
  exact ⟨fun h f hf hk hs => h ⟨f, hf, hk, hs⟩, fun h ⟨f, hf, hk, hs⟩ => h f hf hk hs⟩

theorem linkPush_duplicate {e : Entry} {s : State} (h : s.stands e.kind .link = true) :
    linkPush e s = (.done [], setStack (replaceEntry e s.ovr.entries) s) := if_pos h

theorem linkPush_room {e : Entry} {s : State} (h : s.stands e.kind .link = false) (room : s.ovr.entries.length < 4) :
    linkPush e s = (.done [], setStack (placeEntry e s.ovr.entries) s) := by
  unfold linkPush
  rw [if_neg (by simp [h]), stackRoom_eq, if_pos room]

theorem linkPush_full {e : Entry} {s : State} (h : s.stands e.kind .link = false) (full : 4 ≤ s.ovr.entries.length) :
    linkPush e s = (.refused .full, s) := by
  unfold linkPush
  rw [if_neg (by simp [h]), if_neg (by rw [stackRoom_eq]; omega)]

@[simp] theorem openFrame_stands (c : Cmd) (s : State) (k : OvKind) (src : OvSource) :
    (openFrame c s).stands k src = s.stands k src := by
  simp only [State.stands, openFrame_ovr]

section

variable {s : State} {args : List Byte} (hp : s.passes .pushOverride args = true)
include hp

theorem pushOverride_failsafe (h : s.site.state = .failsafe) :
    Answers (exec (.pushOverride args) s) .pushOverride s (.refused .wrongState) id :=
  answers_of_act (act := actPushOverride) rfl hp (if_pos (by rwa [openFrame_site]))

variable (outside : s.site.state ≠ .failsafe)
include outside

theorem pushOverride_range (h : pushArgs s.link.held.lane args = none) :
    Answers (exec (.pushOverride args) s) .pushOverride s .range id := by
  refine answers_of_act (act := actPushOverride) rfl hp ?_
  unfold actPushOverride
  rw [if_neg (by rwa [openFrame_site]), h]
  rfl

/-- A push outside FAILSAFE and in range is taken as a LINK push (R133). -/
theorem pushOverride_pushes {e : Entry} {a : Answer} {f : State → State} (h : pushArgs s.link.held.lane args = some e)
    (hl : linkPush e (openFrame .pushOverride s) = (a, f (openFrame .pushOverride s))) :
    Answers (exec (.pushOverride args) s) .pushOverride s a f := by
  refine answers_of_act (act := actPushOverride) rfl hp ?_
  unfold actPushOverride
  rw [if_neg (by rwa [openFrame_site]), h]
  exact hl

/-- A push that is not refused gives the stack the content that the push made. -/
theorem pushOverride_becomes {e : Entry} {es : List Entry} (h : pushArgs s.link.held.lane args = some e)
    (hl : linkPush e (openFrame .pushOverride s) = (.done [], setStack es (openFrame .pushOverride s))) :
    ∃ t, exec (.pushOverride args) s = .next (answer Cmd.pushOverride.code (.done []) t) ∧
      StackBecomes es (openFrame .pushOverride s) t :=
  ⟨_, pushOverride_pushes hp outside (f := setStack es) h hl, setStack_becomes es _⟩

end

/-! ### Automatic pushes (R136) -/

/-- With room, or a duplicate, the push is a change of content alone. -/
theorem automaticPush_taken {e : Entry} {s : State}
    (h : s.ovr.entries.length < 4 ∨ s.stands e.kind e.source = true) :
    automaticPush e s = setStack (afterAutomaticPush e s.ovr.entries) s := by
  have same : s.ovr.entries.any (fun f => f.isId e.kind e.source) = s.stands e.kind e.source := rfl
  unfold automaticPush afterAutomaticPush
  rw [same, stackRoom_eq]
  by_cases dup : s.stands e.kind e.source = true
  · rw [if_pos dup, if_pos dup]
  · have room : s.ovr.entries.length < 4 := h.resolve_right dup
    rw [if_neg dup, if_neg dup, if_pos room, if_pos room]

/-- At a full stack the bottom entry is evicted or the push is dropped, each with an OVERRIDE notice. -/
theorem automaticPush_full {e bottom : Entry} {s : State} (full : s.ovr.entries.length = 4)
    (fresh : s.stands e.kind e.source = false) (hb : s.ovr.entries.getLast? = some bottom) :
    automaticPush e s =
      if rankOf bottom.kind < rankOf e.kind then setStack (placeEntry e s.ovr.entries.dropLast) (raise .override s)
      else raise .override s := by
  unfold automaticPush
  rw [if_neg (by simp [fresh]), if_neg (by rw [full, stackRoom_eq]; omega), hb]

theorem full_getLast {es : List Entry} (h : es.length = 4) : ∃ bottom, es.getLast? = some bottom :=
  Option.isSome_iff_exists.1 (by rw [List.getLast?_isSome]; rintro rfl; cases h)

/-- Settles O27: a push from the link by its arguments and the stack it finds, an automatic push by the stack alone. -/
theorem pushesKeepTheStackOrdered : Obligations.PushesKeepTheStackOrdered := by
  refine ⟨fun s kind lHi lLo fHi fLo hp o ho => ⟨fun failsafe => ?_, fun outside => ⟨fun range => ?_,
    fun k e hk hl hf he => ?_⟩, rfl⟩, fun e s => ⟨automaticPush_only e s, automaticPush_entries e s, fun h => ?_,
    fun bottom u full fresh hb hu => ?_, fun full fresh => ?_⟩⟩
  · exact ho ▸ pushOverride_failsafe hp failsafe
  · exact ho ▸ pushOverride_range hp outside (pushArgs_range _ range)
  · have asked : pushArgs s.link.held.lane [kind, lHi, lLo, fHi, fLo] = some e := he ▸ pushArgs_entry _ hk hl hf
    have ekind : e.kind = k := by rw [he]
    have esource : e.source = .link := by rw [he]
    subst ho ekind
    refine ⟨fun dup => ?_, fun fresh room => ?_, fun fresh full => ?_⟩
    · have becomes := pushOverride_becomes hp outside asked
        (linkPush_duplicate (by rw [openFrame_stands]; exact stands_iff.2 dup))
      rwa [replaceEntry_eq, esource, openFrame_ovr] at becomes
    · have becomes := pushOverride_becomes hp outside asked
        (linkPush_room (by rw [openFrame_stands]; exact not_stands_iff.2 fresh) (by rwa [openFrame_ovr]))
      rwa [placeEntry_eq, openFrame_ovr] at becomes
    · exact pushOverride_pushes hp outside (f := id) asked
        (linkPush_full (by rw [openFrame_stands]; exact not_stands_iff.2 fresh) (by rwa [openFrame_ovr]))
  · rw [automaticPush_taken (h.imp_right stands_iff.2)]
    exact setStack_becomes _ s
  · have fresh : s.stands e.kind e.source = false := not_stands_iff.2 fun f hf hk hs => fresh f hf ⟨hk, hs⟩
    have raised : u = raise .override s := hu
    rw [automaticPush_full full fresh hb, ← raised]
    refine ⟨fun lower => ?_, fun notLower => if_neg (by omega)⟩
    rw [if_pos lower, ← placeEntry_eq]
    exact setStack_becomes _ u
  · have fresh : s.stands e.kind e.source = false := not_stands_iff.2 fun f hf hk hs => fresh f hf ⟨hk, hs⟩
    obtain ⟨bottom, hb⟩ := full_getLast full
    have raised : (raise .override s).link.notices &&& Notice.override.bit ≠ 0 := pending_raised _ _
    rw [automaticPush_full full fresh hb]
    split
    · rw [setStack_link]
      exact pending_or _ raised
    · exact raised

/-! ### REMOVE-OVERRIDE (R139) -/

section

variable {s : State} {b : Byte} (hp : s.passes .removeOverride [b] = true)
include hp

theorem removeOverride_range (h : b = 0 ∨ 4 < b.toNat) :
    Answers (exec (.removeOverride [b]) s) .removeOverride s .range id := by
  refine answers_of_act (act := actRemoveOverride) rfl hp ?_
  unfold actRemoveOverride
  simp only [kindArg_range h]
  rfl

theorem removeOverride_removes {k : OvKind} (hb : b = kindCode k) (h : s.stands k .link = true) :
    Answers (exec (.removeOverride [b]) s) .removeOverride s (.done []) (removeEntry k .link) := by
  refine answers_of_act (act := actRemoveOverride) rfl hp ?_
  unfold actRemoveOverride
  simp only [hb, kindArg_code]
  exact if_pos (by rwa [openFrame_stands])

theorem removeOverride_notFound {k : OvKind} (hb : b = kindCode k) (h : s.stands k .link = false) :
    Answers (exec (.removeOverride [b]) s) .removeOverride s (.refused .notFound) id := by
  refine answers_of_act (act := actRemoveOverride) rfl hp ?_
  unfold actRemoveOverride
  simp only [hb, kindArg_code]
  exact if_neg (by simp [h])

end

/-- A removal takes the entry of one identity out of the content, if it stands. -/
theorem removeEntry_becomes (k : OvKind) (src : OvSource) (s : State) :
    StackBecomes (s.ovr.entries.filter (fun f => !(f.kind == k && f.source == src))) s (removeEntry k src s) :=
  setStack_becomes _ s

/-- Settles O28: the kind's code, then whether a LINK entry of the kind stands. -/
theorem removeOverrideRemovesTheLinkEntry : Obligations.RemoveOverrideRemovesTheLinkEntry := by
  refine fun s b hp => ⟨removeOverride_range hp, fun k hb => ⟨fun stands => ?_, fun none => ?_⟩, rfl⟩
  · refine ⟨_, removeOverride_removes hp hb (stands_iff.2 stands), ?_⟩
    have becomes := removeEntry_becomes k .link (openFrame .removeOverride s)
    rwa [openFrame_ovr] at becomes
  · exact removeOverride_notFound hp hb (not_stands_iff.2 none)

end Sys2Proof.Machine
end

section
/-! PROOFS. The pre-emption input, its filter and its entry (R134, R135, R138), and the limits of entries, reported to the
monitors that pushed them (R32, R34, R137). -/

namespace Sys2Proof.Machine

set_option Elab.async false

/-! ### The pre-emption input (R134, R135) -/

theorem exec_preemptionInputChange (s : State) (level : Bool) :
    exec (.preemptionInputChange level) s =
      .next (if s.resetIn then preemptInReset level s else preemptInput level s) :=
  (apply_ite Host.Outcome.next _ _ _).symm

theorem takesPreempt_iff (s : State) :
    s.takesPreempt = true ↔ ¬(s.site.state = .start ∨ s.site.state = .lamptest ∨ s.site.state = .failsafe) := by
  unfold State.takesPreempt State.metering
  cases s.site.state <;> decide

/-- A level held for five tenths against the filtered one is due now. -/
theorem preemptIn_reached {s : State} {level : Bool} {t0 : Nat} (hl : s.ovr.preLevel ≠ level)
    (hf : s.ovr.preFrom = some t0) (ht : t0 + 5 ≤ s.now) : s.preemptIn level = some 0 := by
  unfold State.preemptIn State.until
  rw [if_neg hl, hf]
  exact congrArg some (Nat.sub_eq_zero_of_le ht)

/-- The filter takes its change; the stack follows in the states that take pre-emption events (R135). -/
theorem preemptAsserted_eq (s : State) :
    preemptAsserted s =
      if s.site.state = .start ∨ s.site.state = .lamptest ∨ s.site.state = .failsafe then setPreLevel true s
      else automaticPush preemptEntry (setPreLevel true s) := by
  unfold preemptAsserted
  simp only [takesPreempt_iff, ite_not]

theorem preemptReleased_eq (s : State) :
    preemptReleased s =
      if s.site.state = .start ∨ s.site.state = .lamptest ∨ s.site.state = .failsafe then setPreLevel false s
      else removeEntry .clearout .preempt (setPreLevel false s) := by
  unfold preemptReleased
  simp only [takesPreempt_iff, ite_not]

/-! ### The limits of entries (R137) -/

theorem exec_overrideLimitExpiry {s : State} {k : OvKind} {src : OvSource} (hr : s.resetIn = false)
    (h : s.limitIn k src = some 0) :
    exec (.overrideLimitExpiry k src) s = .next (tellMonitor src (removeEntry k src s)) :=
  timed_now (f := fun t => tellMonitor src (removeEntry k src t)) hr h

/-- The monitors hear of a removal by limit: the one that pushed the entry is spent, any other stays as it was (R32,
R34). -/
theorem tellMonitor_queue (src : OvSource) (s : State) (l : Lane) :
    (tellMonitor src s).det.queue.get l =
      if src = .queue l then (s.det.queue.get l).spend (s.par .queueOff) s.now else s.det.queue.get l := by
  cases src with
  | link | preempt | spill => simp [tellMonitor, State.modSpillMon]
  | queue m =>
    by_cases e : m = l
    · subst e
      simp [tellMonitor, State.modQueueMon]
    · simp [tellMonitor, State.modQueueMon, Quad.get_modify, e, Ne.symm e]

theorem tellMonitor_spill (src : OvSource) (s : State) :
    (tellMonitor src s).det.spill =
      if src = .spill then s.det.spill.spend (s.par .spillOff) s.now else s.det.spill := by
  cases src <;> simp [tellMonitor, State.modSpillMon, State.modQueueMon]

/-- The removal itself leaves the monitors, the moment and the parameters as they were. -/
theorem removeEntry_surroundings (k : OvKind) (src : OvSource) (s : State) :
    (removeEntry k src s).det = s.det ∧ (removeEntry k src s).now = s.now ∧
      ∀ p, (removeEntry k src s).par p = s.par p := by
  have only := removeEntry_only k src s
  have desc : (removeEntry k src s).desc = s.desc := only.same .desc
  exact ⟨only.det, only.now, fun p => by unfold State.par; rw [desc]⟩

/-- Settles O37: each row is due now; the filter's events push and remove as the site state says, and an expired limit
removes its entry and spends the monitor that pushed it. -/
theorem preemptionAndLimitsChangeTheStack : Obligations.PreemptionAndLimitsChangeTheStack := by
  refine ⟨fun s => ⟨fun hr level => ?_, fun hr level => ?_, fun t0 hr hf ht => ⟨fun released u hu => ?_,
    fun asserted u hu => ?_⟩⟩, fun s k src hr hl => ?_⟩
  · rw [exec_preemptionInputChange, if_neg (by simp [hr])]
    rfl
  · rw [exec_preemptionInputChange, if_pos hr]
    rfl
  · have taken : exec .preemptionAssertion s = .next (preemptAsserted s) :=
      timed_now hr (preemptIn_reached (by simp [released]) hf ht)
    rw [taken, preemptAsserted_eq, hu]
    rfl
  · have taken : exec .preemptionRelease s = .next (preemptReleased s) :=
      timed_now hr (preemptIn_reached (by simp [asserted]) hf ht)
    have leveled : setPreLevel false s = u := hu.symm
    rw [taken, preemptReleased_eq, leveled]
    refine ⟨fun ignores => by rw [if_pos ignores], fun hs hl hf => ⟨_, rfl, ?_⟩⟩
    rw [if_neg (by simp [hs, hl, hf])]
    have becomes := removeEntry_becomes .clearout .preempt u
    rwa [show u.ovr.entries = s.ovr.entries by rw [hu]] at becomes
  · obtain ⟨det, now, par⟩ := removeEntry_surroundings k src s
    refine ⟨_, _, exec_overrideLimitExpiry hr hl, removeEntry_becomes k src s, tellMonitor_only src _, fun l => ?_, ?_⟩
    · rw [tellMonitor_queue, det, now, par]
      refine ⟨?_, ?_⟩
      · rintro rfl triggered
        rw [if_pos rfl]
        exact ⟨fun _ => Monitor.spend_reached triggered, Monitor.spend_waits triggered⟩
      · rintro (other | idle)
        · exact if_neg other
        · rw [Monitor.spend_other _ _ idle, ite_self]
    · rw [tellMonitor_spill, det, now, par]
      refine ⟨?_, ?_⟩
      · rintro rfl triggered
        rw [if_pos rfl]
        exact ⟨fun _ => Monitor.spend_reached triggered, Monitor.spend_waits triggered⟩
      · rintro (other | idle)
        · exact if_neg other
        · rw [Monitor.spend_other _ _ idle, ite_self]

end Sys2Proof.Machine
end

section
/-! PROOFS. Right after reset every invariant holds (R7, R18, R53, R92, R101, R103, R116, R131, R155, R167). -/

namespace Sys2Proof.Machine

theorem reset_headsSound : State.reset.headsSound := fun l => by
  have dark : State.reset.head l = { red := LampRec.reset, amber := LampRec.reset, green := LampRec.reset } :=
    Quad.get_all _ l
  rw [dark]
  unfold Head.commandSound
  decide

theorem reset_mergeSound : State.reset.mergeSound := by
  refine ⟨fun l green => ?_, fun l g h => ?_, ?_⟩
  · rw [reset_lane] at green
    cases green
  · cases h
  · exact Nat.zero_le _

theorem reset_creditsSound : State.reset.creditsSound := fun l => by
  rw [show State.reset.arb.credit.get l = 0 from Quad.get_all _ l]
  exact Nat.zero_le _

theorem reset_arbiterSound : State.reset.arbiterSound :=
  ⟨fun _ => rfl, fun _ => ⟨rfl, rfl, rfl, rfl, rfl, rfl, rfl, rfl, rfl⟩⟩

theorem reset_channelsSound : State.reset.channelsSound := fun c => by
  rw [reset_chan]
  unfold Channel.healthSound
  decide

/-- Settles O53: the stores, the stack and the log are empty, the lanes and the lamps OFF, the channels GOOD, the
arbiter SHUT, and every parameter at its default. -/
theorem resetIsSound : Obligations.ResetIsSound := by
  obtain ⟨valid, used⟩ := (plansSound_iff State.reset).1 PlanStore.reset_sound
  exact {
    stack := (stackSound_iff _).2 entriesSound_nil
    log := ⟨Nat.zero_le _, Nat.zero_le _⟩
    plansValid := valid
    plansInUse := used
    heads := reset_headsSound
    merge := reset_mergeSound
    credits := reset_creditsSound
    arbiter := reset_arbiterSound
    channels := reset_channelsSound
    held := rfl
    timing := default_inRange }

end Sys2Proof.Machine
end

section
/-! PROOFS. The transmit line (R158, R165): what it takes when it is free, case by case; the opening of a good frame
(R145, R146, R151, R159, R165, R168) and the forming of its reply (R166). -/

namespace Sys2Proof.Machine

/-! ### What the line takes when it is free (R158, R165, log 28) -/

theorem lineBusy_of_sending {k : Link} (h : k.sending.isSome = true) : k.lineBusy = true := by simp [Link.lineBusy, h]

theorem lineBusy_free {k : Link} (hs : k.sending = none) (hf : ∀ st, k.stream = some st → st.flight = none) :
    k.lineBusy = false := by
  unfold Link.lineBusy
  cases hk : k.stream with
  | none => simp [hs]
  | some st => simp [hs, hf st hk]

theorem pump_busy {s : State} (h : s.link.lineBusy = true) : pump s = s := if_pos h

theorem sendNext_cons {s : State} {q : Reply} {qs : List Reply} (hw : s.link.waiting = q :: qs) :
    sendNext s = s.modLink (fun k => { k with sending := some q, waiting := qs }) := by
  unfold sendNext
  rw [hw]

/-- A waiting reply goes before a stream. -/
theorem pump_reply {s : State} {q : Reply} {qs : List Reply} (hb : s.link.lineBusy = false)
    (hw : s.link.waiting = q :: qs) :
    pump s = s.modLink (fun k => { k with sending := some q, waiting := qs }) := by
  unfold pump
  rw [if_neg (by simp [hb]), hw]
  exact sendNext_cons hw

theorem pump_streaming {s : State} {st : Stream} (hb : s.link.lineBusy = false) (hw : s.link.waiting = [])
    (hs : s.link.stream = some st) : pump s = streamStart st s := by
  unfold pump
  rw [if_neg (by simp [hb]), hw, hs]

theorem pump_resting {s : State} (hw : s.link.waiting = []) (hs : s.link.stream = none) : pump s = s := by
  unfold pump
  rw [hw, hs]
  exact ite_self s

theorem streamDone_iff (s : State) (st : Stream) :
    s.streamDone st = true ↔ (st.asked ≠ 0 ∧ st.asked ≤ st.delivered) ∨ s.log.records = [] := by
  simp [State.streamDone]

/-- A stream with nothing more to send puts its end frame on the line. -/
theorem streamStart_done {s : State} {st : Stream} (hw : s.link.waiting = [])
    (hd : (st.asked ≠ 0 ∧ st.asked ≤ st.delivered) ∨ s.log.records = []) :
    (streamStart st s).link.stream = none ∧
      (streamStart st s).link.outstanding =
        [{ code := 0x70, status := s.status .accepted, data := bytes16 st.delivered }] := by
  have hq : (endFrame st s).link.waiting =
      [{ code := 0x70, status := s.status .accepted, data := bytes16 st.delivered }] := by
    show s.link.waiting ++ _ = _
    rw [hw]
    rfl
  unfold streamStart
  rw [if_pos ((streamDone_iff s st).2 hd), sendNext_cons hq]
  exact ⟨rfl, rfl⟩

theorem streamStart_next {s : State} {st : Stream} {q : PassRec} {qs : List PassRec} (hs : s.link.stream = some st)
    (hr : s.log.records = q :: qs) (hn : st.asked = 0 ∨ st.delivered < st.asked) :
    streamStart st s = s.modLink (fun k =>
      { k with stream := some { st with flight := some { copy := q, overwritten := false } } }) := by
  have hd : ¬ s.streamDone st = true := by
    rw [streamDone_iff]
    rintro (⟨h0, hle⟩ | he)
    · omega
    · simp [hr] at he
  unfold streamStart startRecord
  rw [if_neg hd, hr]
  simp only [State.modLink, hs]
  rfl

/-- With a reply waiting and no stream the line is sending. -/
theorem pump_sends {s : State} (hs : s.link.stream = none) (hw : s.link.waiting ≠ []) :
    (pump s).link.sending.isSome = true := by
  obtain ⟨q, qs, hq⟩ := List.exists_cons_of_ne_nil hw
  cases hk : s.link.sending with
  | none =>
    have hb : s.link.lineBusy = false := lineBusy_free hk (by simp [hs])
    rw [pump_reply hb hq]
    rfl
  | some r =>
    have hr : s.link.sending.isSome = true := by rw [hk]; rfl
    rw [pump_busy (lineBusy_of_sending hr)]
    exact hr

/-! ### The link beside its transmit line -/

/-- The link controller's record with no reply waiting and none being sent: what the transmit line leaves alone. -/
def Link.offLine (k : Link) : Link := { k with waiting := [], sending := none }

/-- With no stream the free line moves one reply from the list to the line, and nothing else. -/
theorem pump_offLine {s : State} (hs : s.link.stream = none) : (pump s).link.offLine = s.link.offLine := by
  cases hb : s.link.lineBusy with
  | true => rw [pump_busy hb]
  | false =>
    cases hw : s.link.waiting with
    | nil => rw [pump_resting hw hs]
    | cons q qs =>
      rw [pump_reply hb hw]
      rfl

/-! ### The end of a stream (R159) -/

theorem endStream_none {s : State} (h : s.link.stream = none) : endStream s = s := by
  unfold endStream
  rw [h]

theorem endStream_some {s : State} {st : Stream} (h : s.link.stream = some st) :
    endStream s = pump (endFrame st s) := by
  unfold endStream
  rw [h]

/-- A stream ends with the DISCARD in its end frame (log 28). -/
theorem endStream_offLine (s : State) :
    (endStream s).link.offLine =
      { s.link with stream := none, discard := s.link.discard && s.link.stream.isNone }.offLine := by
  cases h : s.link.stream with
  | none =>
    rw [endStream_none h, Option.isNone_none, Bool.and_true, ← h]
  | some st =>
    rw [endStream_some h, pump_offLine rfl, Option.isNone_some, Bool.and_false]
    rfl

theorem endFrame_outstanding (st : Stream) (s : State) :
    (endFrame st s).link.outstanding =
      s.link.outstanding ++ [{ code := 0x70, status := s.status .accepted, data := bytes16 st.delivered }] :=
  (List.append_assoc _ _ _).symm

theorem endStream_outstanding (s : State) : (endStream s).link.outstanding = s.link.outstanding ++ s.endFrames := by
  unfold State.endFrames
  cases h : s.link.stream with
  | none => rw [endStream_none h, List.append_nil]
  | some st => rw [endStream_some h, pump_outstanding _ rfl, endFrame_outstanding]

/-! ### The opening of a good frame (R145, R146, R151, R165, R168) -/

/-- The pending notices after the link mode's return to CENTRAL (R146). -/
def Link.centralNotices (k : Link) : BitVec 8 :=
  if k.mode = .localMode then k.notices ||| Notice.link.bit else k.notices

theorem toCentral_link (s : State) :
    (toCentral s).link = { s.link with mode := .central, notices := s.link.centralNotices } := by
  unfold toCentral Link.centralNotices
  cases h : s.link.mode with
  | central => exact congrArg (fun m => { s.link with mode := m }) h
  | localMode => rfl

/-- A good frame before it ends a stream: the receiver hunts, the mode is CENTRAL, the link-loss time is 0. -/
def frameTaken (s : State) : State := restartLoss (toCentral (s.modLink (fun k => { k with receiver := .hunting })))

theorem goodFrame_eq (s : State) : goodFrame s = endStream (frameTaken s) := rfl

theorem frameTaken_only (s : State) : Only [.link, .notices] s (frameTaken s) := by
  refine Only.step (Only.step ?_ (toCentral_only _)) (restartLoss_only _)
  intro b hb; cases b <;> simp_all [agree]

theorem frameTaken_link (s : State) :
    (frameTaken s).link =
      { s.link with
        receiver := .hunting, mode := .central, notices := s.link.centralNotices
        lossFrom := if s.link.begun then some s.now else none } := by
  have hn : ∀ u : State, (toCentral u).now = u.now := fun u => ((toCentral_only u).same .env).2.1
  unfold frameTaken restartLoss
  rw [modLink_link, toCentral_link, hn]
  rfl

theorem frameTaken_startingFlag (s : State) : (frameTaken s).startingFlag = s.startingFlag := by
  unfold State.startingFlag State.startingUp
  rw [(frameTaken_only s).same .site]

/-- What a good frame leaves of the link, beside the line. -/
theorem goodFrame_offLine (s : State) :
    (goodFrame s).link.offLine =
      { s.link with
        receiver := .hunting, mode := .central, notices := s.link.centralNotices
        lossFrom := if s.link.begun then some s.now else none
        stream := none, discard := s.link.discard && s.link.stream.isNone }.offLine := by
  rw [goodFrame_eq, endStream_offLine, frameTaken_link]

theorem goodFrame_selection (s : State) : (goodFrame s).sel.sel = s.sel.sel := (goodFrame_only s).same .selection

/-- A good frame whose held prefixes are consumed, unless it adds to them (R165, R168). -/
def heldTaken (c : Cmd) (s : State) : State := if c.isPrefix then goodFrame s else consumeHeld (goodFrame s)

theorem openFrame_eq (c : Cmd) (s : State) :
    openFrame c s = if c.keepsSelection then heldTaken c s else discardSelection (heldTaken c s) := rfl

theorem heldTaken_offLine (c : Cmd) (s : State) :
    (heldTaken c s).link.offLine =
      { (goodFrame s).link with held := if c.isPrefix then s.link.held else HeldSet.empty }.offLine := by
  have kept : (goodFrame s).link.held = s.link.held := (congrArg Link.held (goodFrame_offLine s) :)
  unfold heldTaken
  cases c.isPrefix with
  | false => rfl
  | true => rw [← kept]; rfl

theorem heldTaken_outstanding (c : Cmd) (s : State) :
    (heldTaken c s).link.outstanding = (goodFrame s).link.outstanding := by
  unfold heldTaken
  split <;> rfl

theorem heldTaken_selection (c : Cmd) (s : State) : (heldTaken c s).sel.sel = s.sel.sel := by
  unfold heldTaken
  split <;> exact goodFrame_selection s

theorem openFrame_heldTaken_offLine (c : Cmd) (s : State) :
    (openFrame c s).link.offLine =
      { (heldTaken c s).link with
        discard := (heldTaken c s).link.discard || (!c.keepsSelection && s.sel.sel != MapSel.none) }.offLine := by
  rw [openFrame_eq]
  cases c.keepsSelection with
  | true => rw [Bool.not_true, Bool.false_and, Bool.or_false]; rfl
  | false => rw [← heldTaken_selection c s]; rfl

/-- What the opening leaves of the link, beside the line. -/
theorem openFrame_offLine (c : Cmd) (s : State) :
    (openFrame c s).link.offLine =
      { s.link with
        receiver := .hunting, mode := .central, notices := s.link.centralNotices
        lossFrom := if s.link.begun then some s.now else none
        stream := none, held := if c.isPrefix then s.link.held else HeldSet.empty
        discard := (s.link.discard && s.link.stream.isNone) ||
          (!c.keepsSelection && s.sel.sel != MapSel.none) }.offLine := by
  rw [openFrame_heldTaken_offLine]
  calc _
    _ = { (heldTaken c s).link.offLine with
          discard := (heldTaken c s).link.offLine.discard ||
            (!c.keepsSelection && s.sel.sel != MapSel.none) } := rfl
    _ = { (goodFrame s).link.offLine with
          held := if c.isPrefix then s.link.held else HeldSet.empty
          discard := (goodFrame s).link.offLine.discard ||
            (!c.keepsSelection && s.sel.sel != MapSel.none) } := by rw [heldTaken_offLine]; rfl
    _ = _ := by rw [goodFrame_offLine]; rfl

theorem openFrame_outstanding (c : Cmd) (s : State) :
    (openFrame c s).link.outstanding = s.link.outstanding ++ (frameTaken s).endFrames := by
  have opened : (openFrame c s).link.outstanding = (goodFrame s).link.outstanding := by
    rw [openFrame_eq, ← heldTaken_outstanding c s]
    split <;> rfl
  rw [opened, goodFrame_eq, endStream_outstanding, frameTaken_link]
  rfl

theorem openFrame_selection (c : Cmd) (s : State) :
    (openFrame c s).sel.sel = if c.keepsSelection then s.sel.sel else .none := by
  rw [openFrame_eq]
  cases c.keepsSelection with
  | true => exact heldTaken_selection c s
  | false => rfl

/-- The end frame of a stream speaks of the notices as the opening leaves them, and of the DISCARD before it
(log 28). -/
theorem frameTaken_endFrames (c : Cmd) (s : State) {st : Stream} (h : s.link.stream = some st) :
    (frameTaken s).endFrames =
      [{ code := 0x70
         status := s.startingFlag ||| s.discardFlag ||| (openFrame c s).attnFlag
         data := [BitVec.ofNat 8 (st.delivered / 256), BitVec.ofNat 8 st.delivered] }] := by
  have hst : (frameTaken s).link.stream = some st := by rw [frameTaken_link]; exact h
  have hd : (frameTaken s).discardFlag = s.discardFlag := by
    unfold State.discardFlag
    rw [frameTaken_link]
  have ha : (openFrame c s).attnFlag = (frameTaken s).attnFlag := by
    have he : (openFrame c s).link.offLine.attention = (frameTaken s).link.offLine.attention := by
      rw [openFrame_offLine, frameTaken_link]
      rfl
    exact congrArg (fun b : Bool => if b then (0x01 : Byte) else 0x00) he
  unfold State.endFrames State.status
  rw [hst, frameTaken_startingFlag, hd, ha]
  simp [Verdict.bits, bytes16]

/-! ### The reply (R165, R166) -/

theorem reply_outstanding {s : State} (code : Byte) (v : Verdict) (data : List Byte) (hs : s.link.stream = none) :
    (reply code v data s).link.outstanding =
      s.link.outstanding ++ [{ code := code, status := s.statusWith s.link.discard v, data := data }] :=
  (pump_outstanding (formReply code v data s) hs).trans (List.append_assoc _ _ _).symm

theorem reply_offLine {s : State} (code : Byte) (v : Verdict) (data : List Byte) (hs : s.link.stream = none) :
    (reply code v data s).link.offLine = { s.link with discard := false }.offLine :=
  pump_offLine (s := formReply code v data s) hs

theorem reply_sends {s : State} (code : Byte) (v : Verdict) (data : List Byte) (hs : s.link.stream = none) :
    (reply code v data s).link.sending.isSome = true :=
  pump_sends (s := formReply code v data s) hs (by simp [formReply])

theorem reply_only_link {s : State} (code : Byte) (v : Verdict) (data : List Byte) (hs : s.link.stream = none) :
    Only [.link] s (reply code v data s) := by
  intro b hb
  by_cases h : b = .stream
  · subst h
    exact (congrArg Link.stream (reply_offLine code v data hs) :)
  · exact reply_only code v data s b (by simp_all)

/-- What one reply does with no stream in progress: it joins the reply list, its DISCARD is cleared, and the line
sends. -/
theorem reply_forms {s : State} (code : Byte) (v : Verdict) (data : List Byte) (hs : s.link.stream = none) :
    Only [.link] s (reply code v data s) ∧
      (reply code v data s).link.outstanding =
        s.link.outstanding ++ [{ code := code, status := s.statusWith s.link.discard v, data := data }] ∧
      (reply code v data s).link.discard = false ∧ (reply code v data s).link.sending.isSome = true ∧
      { (reply code v data s).link with
        waiting := s.link.waiting, sending := s.link.sending, discard := s.link.discard } = s.link := by
  have hl := reply_offLine code v data hs
  refine ⟨reply_only_link code v data hs, reply_outstanding code v data hs, congrArg Link.discard hl,
    reply_sends code v data hs, ?_⟩
  exact congrArg (fun k : Link =>
    { k with waiting := s.link.waiting, sending := s.link.sending, discard := s.link.discard }) hl

theorem startingFlag_eq (s : State) :
    s.startingFlag = (if s.site.state = .start ∨ s.site.state = .lamptest then 0x80 else 0x00) := by
  simp [State.startingFlag, State.startingUp]

theorem attnFlag_eq (s : State) :
    s.attnFlag = (if s.link.notices &&& s.link.mask = 0 then 0x00 else 0x01) := by
  unfold State.attnFlag Link.attention
  by_cases h : s.link.notices &&& s.link.mask = 0 <;> simp [h]

/-- Settles O9: the opening is read off the link's record beside its line, the answer off one reply. -/
theorem framesAreOpenedAndAnswered : Obligations.FramesAreOpenedAndAnswered := by
  refine ⟨?_, ?_, fun s => ⟨startingFlag_eq s, attnFlag_eq s⟩, rfl, rfl⟩
  · rintro c s u rfl
    have hl := openFrame_offLine c s
    refine ⟨openFrame_only c s, congrArg Link.receiver hl, congrArg Link.mode hl, (congrArg Link.begun hl :),
      (congrArg Link.mask hl :), congrArg Link.lossFrom hl, congrArg Link.stream hl, congrArg Link.notices hl,
      congrArg Link.held hl, openFrame_selection c s, congrArg Link.discard hl, ?_⟩
    rw [openFrame_outstanding]
    cases hs : s.link.stream with
    | none =>
      have : (frameTaken s).link.stream = none := by rw [frameTaken_link]; exact hs
      unfold State.endFrames
      rw [this]
    | some st => rw [frameTaken_endFrames c s hs]
  · intro code a s hs ha
    cases a with
    | done data => exact ⟨_, rfl, reply_forms code .accepted data hs⟩
    | range => exact ⟨_, rfl, reply_forms code .range [] hs⟩
    | order => exact ⟨_, rfl, reply_forms code .order [] hs⟩
    | refused r => exact ⟨_, rfl, reply_forms code .refused [r.code] hs⟩
    | streaming => exact absurd rfl ha

end Sys2Proof.Machine
end

section
/-! PROOFS. The link's timers, and the frames sent whole (R145, R158, R165, R168). -/

namespace Sys2Proof.Machine

/-! ### The hold time of the prefixes and the link-loss time (R145, R168) -/

theorem execPrefixHoldExpiry_due {s : State} {t0 : Nat} (hr : s.resetIn = false) (hh : s.link.held.since = some t0)
    (hd : t0 + s.par .prefixHold ≤ s.now) : execPrefixHoldExpiry s = .next (discardHeld s) :=
  timed_now hr (by rw [State.prefixIn, hh, Option.map_some, until_due hd])

theorem execLinkLossExpiry_due {s : State} {t0 : Nat} (hr : s.resetIn = false) (hl : s.link.lossFrom = some t0)
    (hp : s.par .linkLoss ≠ 0) (hd : t0 + s.par .linkLoss ≤ s.now) : execLinkLossExpiry s = .next (loseLink s) :=
  timed_now hr (by rw [State.lossIn, if_neg hp, hl, Option.map_some, until_due hd])

theorem execLinkLossExpiry_off {s : State} (hp : s.par .linkLoss = 0) : execLinkLossExpiry s = .next s :=
  timed_none (by rw [State.lossIn, if_pos hp])

/-! ### A record frame sent whole (R158) -/

/-- The stream after its record frame: one more record delivered, none in flight. -/
def Stream.sentOne (st : Stream) : Stream := { st with delivered := min 65535 (st.delivered + 1), flight := none }

/-- A record frame sent whole, before the free line takes its next frame. -/
def recordDelivered (st : Stream) (f : Flight) (s : State) : State :=
  { s with
    log := { s.log with records := if f.overwritten then s.log.records else s.log.records.tail }
    link := { s.link with stream := some st.sentOne } }

theorem recordSent_eq {s : State} {st : Stream} {f : Flight} (hs : s.link.stream = some st) (hf : st.flight = some f) :
    recordSent s = pump (recordDelivered st f s) := by
  unfold recordSent
  rw [hs]
  dsimp only
  rw [hf]
  dsimp only
  unfold recordDelivered
  cases f.overwritten <;> rfl

theorem recordSent_log {s : State} {st : Stream} {f : Flight} (hs : s.link.stream = some st) (hf : st.flight = some f) :
    (recordSent s).log.records = (if f.overwritten then s.log.records else s.log.records.tail) ∧
      (recordSent s).log.lost = s.log.lost := by
  rw [recordSent_eq hs hf]
  exact (pump_only (recordDelivered st f s)).same .records

/-- With no reply waiting the stream goes on where it stands. -/
theorem recordSent_streams {s : State} {st : Stream} {f : Flight} (hs : s.link.stream = some st)
    (hf : st.flight = some f) (hk : s.link.sending = none) (hw : s.link.waiting = []) :
    recordSent s = streamStart st.sentOne (recordDelivered st f s) := by
  have free : (recordDelivered st f s).link.lineBusy = false := by
    refine lineBusy_free hk fun st' h => ?_
    obtain rfl : st.sentOne = st' := Option.some.inj h
    rfl
  rw [recordSent_eq hs hf]
  exact pump_streaming free hw rfl

theorem recordSent_ends {s : State} {st : Stream} {f : Flight} (hs : s.link.stream = some st)
    (hf : st.flight = some f) (hk : s.link.sending = none) (hw : s.link.waiting = [])
    (hd : (st.asked ≠ 0 ∧ st.asked ≤ min 65535 (st.delivered + 1)) ∨ (recordSent s).log.records = []) :
    (recordSent s).link.stream = none ∧
      (recordSent s).link.outstanding =
        [{ code := 0x70, status := s.status .accepted, data := bytes16 (min 65535 (st.delivered + 1)) }] := by
  rw [(recordSent_log hs hf).1] at hd
  rw [recordSent_streams hs hf hk hw]
  exact streamStart_done hw hd

theorem recordSent_goesOn {s : State} {st : Stream} {f : Flight} {q : PassRec} {qs : List PassRec}
    (hs : s.link.stream = some st) (hf : st.flight = some f) (hk : s.link.sending = none) (hw : s.link.waiting = [])
    (hq : (recordSent s).log.records = q :: qs) (hn : st.asked = 0 ∨ min 65535 (st.delivered + 1) < st.asked) :
    (recordSent s).link.outstanding = [] ∧
      (recordSent s).link.stream =
        some { st.sentOne with flight := some { copy := q, overwritten := false } } := by
  rw [(recordSent_log hs hf).1] at hq
  rw [recordSent_streams hs hf hk hw, streamStart_next (st := st.sentOne) rfl hq hn]
  refine ⟨?_, rfl⟩
  show s.link.outstanding = []
  rw [Link.outstanding, hk, hw]
  rfl

theorem execRecordFrameCompletion_inFlight {s : State} {st : Stream} {f : Flight} (hr : s.resetIn = false)
    (hs : s.link.stream = some st) (hf : st.flight = some f) :
    execRecordFrameCompletion s = .next (recordSent s) :=
  taken_now hr (by simp [State.inFlight, hs, hf])

/-! ### A reply sent whole (R165) -/

/-- The line is free of the reply it has sent. -/
theorem replySent_free {s : State} (hf : ∀ st, s.link.stream = some st → st.flight = none) :
    (s.modLink (fun k => { k with sending := none })).link.lineBusy = false := lineBusy_free rfl hf

theorem replySent_reply {s : State} {q : Reply} {qs : List Reply} (hw : s.link.waiting = q :: qs)
    (hf : ∀ st, s.link.stream = some st → st.flight = none) :
    replySent s = s.modLink (fun k => { k with sending := some q, waiting := qs }) :=
  pump_reply (replySent_free hf) hw

theorem replySent_streams {s : State} {st : Stream} {q : PassRec} {qs : List PassRec} (hw : s.link.waiting = [])
    (hs : s.link.stream = some st) (hf : st.flight = none) (hr : s.log.records = q :: qs)
    (hn : st.asked = 0 ∨ st.delivered < st.asked) :
    replySent s = s.modLink (fun k =>
      { k with sending := none, stream := some { st with flight := some { copy := q, overwritten := false } } }) := by
  have free : ∀ st', s.link.stream = some st' → st'.flight = none := fun st' h => by
    obtain rfl : st = st' := Option.some.inj (hs.symm.trans h)
    exact hf
  exact (pump_streaming (replySent_free free) hw hs).trans (streamStart_next hs hr hn)

theorem replySent_rests {s : State} (hw : s.link.waiting = []) (hs : s.link.stream = none) :
    replySent s = s.modLink (fun k => { k with sending := none }) := pump_resting hw hs

theorem execReplyFrameTransmitted_sending {s : State} {r : Reply} (hr : s.resetIn = false)
    (hk : s.link.sending = some r) : execReplyFrameTransmitted s = .next (replySent s) :=
  taken_now hr (by rw [hk]; rfl)

/-- Settles O10: each row is taken at its moment, and the free line takes what `pump` says of its three cases. -/
theorem theLinkTimersAndTheLineRun : Obligations.TheLinkTimersAndTheLineRun := by
  refine ⟨fun s hr => ⟨fun t0 => execPrefixHoldExpiry_due hr, fun t0 => execLinkLossExpiry_due hr,
    execLinkLossExpiry_off⟩, fun s hr => ⟨fun st f hs hf => ?_, fun r hk => ?_⟩⟩
  · obtain ⟨hrec, hlost⟩ := recordSent_log hs hf
    exact ⟨_, execRecordFrameCompletion_inFlight hr hs hf, (recordSent_only s).mono, hrec, hlost, fun hk hw =>
      ⟨recordSent_ends hs hf hk hw, fun q qs => recordSent_goesOn hs hf hk hw⟩⟩
  · refine ⟨_, execReplyFrameTransmitted_sending hr hk, (replySent_only s).mono, fun q qs hw hf => ?_,
      fun st q qs hw hs hf hq hn => ?_, fun hw hs => ?_⟩
    · rw [replySent_reply hw hf]
      exact ⟨rfl, rfl, rfl⟩
    · rw [replySent_streams hw hs hf hq hn]
      exact ⟨hw, rfl⟩
    · rw [replySent_rests hw hs]
      exact ⟨hw, hs⟩

end Sys2Proof.Machine
end

section
/-! PROOFS. The band map's editing (R149, R150, R151): a map command's band and its move of the selection, and
MAP-ASSIGN's write. -/

namespace Sys2Proof.Machine

theorem Bank.at_tab {α : Type} (f : Fin 16 → α) (i : Fin 16) : Bank.at (Bank.tab f) i = f i := by
  fin_cases i <;> rfl

/-! ### The selection under the opening of a map command's frame (R151) -/

theorem openFrame_sel {c : Cmd} (hc : c.keepsSelection = true) (s : State) : (openFrame c s).sel = s.sel := by
  have hs : (openFrame c s).sel.sel = s.sel.sel := by rw [openFrame_selection, if_pos hc]
  calc (openFrame c s).sel
    _ = ⟨(openFrame c s).sel.map, (openFrame c s).sel.lastBand, (openFrame c s).sel.sel⟩ := rfl
    _ = s.sel := by rw [openFrame_map, openFrame_lastBand, hs]

/-- The opening of a map command's frame, and then another selection: the map and the last band stay. -/
theorem setSelection_openFrame {c : Cmd} (hc : c.keepsSelection = true) (m : MapSel) (s : State) :
    setSelection m (openFrame c s) = { openFrame c s with sel := { s.sel with sel := m } } := by
  unfold setSelection State.modSel
  rw [openFrame_sel hc]

theorem setSelection_same {s : State} {m : MapSel} (h : s.sel.sel = m) : setSelection m s = s := by
  subst h
  rfl

/-! ### A map command's band (R149; log 26) -/

theorem onBand_inRange (g : Band → State → Answer × State) {b : Byte} {d : Band} (hb : b.toNat = d.val) (s : State) :
    onBand g [b] s = g d s := by
  simp only [onBand, numArg_val d hb]

theorem onBand_high (g : Band → State → Answer × State) {b : Byte} (hb : 16 ≤ b.toNat) (s : State) :
    onBand g [b] s = (.range, setSelection .none s) := by
  simp only [onBand, numArg_high hb]

/-- A map command whose act answers `a` and makes the selection `m`. -/
theorem mapCommand_answers {c : Cmd} {act : Act} {args : List Byte} {s : State} {o : Out} {a : Answer} {m : MapSel}
    (ho : o = hostFrame c act args s) (hc : c.keepsSelection = true) (hp : s.passes c args = true)
    (ha : act args s.link.held (openFrame c s) = (a, setSelection m (openFrame c s))) :
    Answers o c s a (fun u => { u with sel := { s.sel with sel := m } }) :=
  answers_of_act ho hp (ha.trans (congrArg (Prod.mk a) (setSelection_openFrame hc m s)))

theorem bandCommand_answers {c : Cmd} {g : Band → State → Answer × State} {b : Byte} {d : Band} {s : State} {o : Out}
    {a : Answer} {m : MapSel} (ho : o = hostFrame c (fun args _ => onBand g args) [b] s) (hb : b.toNat = d.val)
    (hc : c.keepsSelection = true) (hp : s.passes c [b] = true)
    (hg : g d (openFrame c s) = (a, setSelection m (openFrame c s))) :
    Answers o c s a (fun u => { u with sel := { s.sel with sel := m } }) :=
  mapCommand_answers ho hc hp ((onBand_inRange g hb _).trans hg)

theorem bandCommand_range {c : Cmd} {g : Band → State → Answer × State} {b : Byte} {s : State} {o : Out}
    (ho : o = hostFrame c (fun args _ => onBand g args) [b] s) (hb : 16 ≤ b.toNat) (hc : c.keepsSelection = true)
    (hp : s.passes c [b] = true) : Answers o c s .range (fun u => { u with sel := { s.sel with sel := .none } }) :=
  mapCommand_answers ho hc hp (onBand_high g hb _)

/-! ### The moves of the selection (R149) -/

theorem mapTo_inOrder {s : State} {f d : Band} (hs : s.sel.sel = .fromHeld f) (h : f ≤ d) :
    mapTo d s = (.done [], setSelection (.rangeHeld f d (Bank.fill false)) s) := by
  simp only [mapTo, hs, if_pos h]

theorem mapTo_outOfOrder {s : State} {d : Band} (h : ∀ f, s.sel.sel = .fromHeld f → d < f) :
    mapTo d s = outOfOrder s := by
  unfold mapTo
  split
  next f hs => exact if_neg (not_le.2 (h f hs))
  next => rfl
  next => rfl

theorem mapSkip_inOrder {s : State} {f t d : Band} {k : Bank Bool} (hs : s.sel.sel = .rangeHeld f t k) (hf : f ≤ d)
    (ht : d ≤ t) : mapSkip d s = (.done [], setSelection (.rangeHeld f t (Bank.put k d true)) s) := by
  simp only [mapSkip, hs, if_pos (And.intro hf ht)]

theorem mapSkip_outOfOrder {s : State} {d : Band} (h : ∀ f t k, s.sel.sel = .rangeHeld f t k → d < f ∨ t < d) :
    mapSkip d s = outOfOrder s := by
  unfold mapSkip
  split
  next f t k hs =>
    refine if_neg fun ⟨hf, ht⟩ => ?_
    rcases h f t k hs with hlt | hlt
    · exact absurd hf (not_le.2 hlt)
    · exact absurd ht (not_le.2 hlt)
  next => rfl
  next => rfl

/-! ### MAP-ASSIGN (R150) -/

theorem actMapAssign_high {b : Byte} (hb : 16 ≤ b.toNat) (hn : b ≠ 0xFF) (held : HeldSet) (s : State) :
    actMapAssign [b] held s = (.range, setSelection .none s) := by
  simp only [actMapAssign, optArg_high hb hn]

theorem actMapAssign_entry (e : Option Slot) (held : HeldSet) (s : State) :
    actMapAssign [optByte e] held s =
      if s.sel.sel = .none then outOfOrder s else (.done [], assignMap e s) := by
  simp only [actMapAssign, optArg_optByte e (by decide)]

theorem mapAssign_answers_order {e : Option Slot} {s : State} (hp : s.passes .mapAssign [optByte e] = true)
    (hs : s.sel.sel = .none) : Answers (exec (.mapAssign [optByte e]) s) .mapAssign s .order id := by
  have hu : (openFrame .mapAssign s).sel.sel = .none := by rw [openFrame_sel rfl, hs]
  refine answers_of_act rfl hp ((actMapAssign_entry e _ _).trans ((if_pos hu).trans ?_))
  exact congrArg (Prod.mk Answer.order) (setSelection_same hu)

theorem mapAssign_answers_done {e : Option Slot} {s : State} (hp : s.passes .mapAssign [optByte e] = true)
    (hs : s.sel.sel ≠ .none) :
    Answers (exec (.mapAssign [optByte e]) s) .mapAssign s (.done []) (assignMap e) := by
  have hu : (openFrame .mapAssign s).sel.sel ≠ .none := by rwa [openFrame_sel rfl]
  exact answers_of_act rfl hp ((actMapAssign_entry e _ _).trans (if_neg hu))

theorem assignMap_at (e : Option Slot) (s : State) (d : Band) :
    Bank.at (assignMap e s).sel.map d = if s.sel.sel.selects d then e else Bank.at s.sel.map d :=
  Bank.at_tab _ d

theorem selects_fromHeld (f d : Band) : (MapSel.fromHeld f).selects d = true ↔ d = f := beq_iff_eq

theorem selects_rangeHeld (f g : Band) (k : Bank Bool) (d : Band) :
    (MapSel.rangeHeld f g k).selects d = true ↔ f ≤ d ∧ d ≤ g ∧ Bank.at k d = false := by
  simp [MapSel.selects, and_assoc]

/-- What MAP-ASSIGN writes, as the selection stood: one band, or the bands of a range that are not skipped. -/
theorem mapAssign_writes (e : Option Slot) (s : State) :
    (∀ f, s.sel.sel = .fromHeld f →
      ∀ d, Bank.at (assignMap e s).sel.map d = if d = f then e else Bank.at s.sel.map d) ∧
    (∀ f g k, s.sel.sel = .rangeHeld f g k →
      ∀ d, Bank.at (assignMap e s).sel.map d =
        if f ≤ d ∧ d ≤ g ∧ Bank.at k d = false then e else Bank.at s.sel.map d) := by
  refine ⟨fun f hs d => ?_, fun f g k hs d => ?_⟩ <;> rw [assignMap_at, hs]
  · simp only [selects_fromHeld]
  · simp only [selects_rangeHeld]

/-- Settles O29: the band in range or not, then each command's move of the selection, in its order or out of it. -/
theorem theMapIsEditedInOrder : Obligations.TheMapIsEditedInOrder := by
  refine fun s b => ⟨fun d hb => ⟨fun hp => ?_, fun hp => ⟨fun f hs hf => ?_, fun hf => ?_⟩,
    fun hp => ⟨fun f t k hs hf ht => ?_, fun hk => ?_⟩⟩,
    fun hb => ⟨bandCommand_range rfl hb rfl, bandCommand_range rfl hb rfl, bandCommand_range rfl hb rfl,
      fun hn hp => ?_⟩,
    fun e he hp => ⟨fun hs => ?_, fun hs => ?_⟩⟩
  · exact bandCommand_answers rfl hb rfl hp rfl
  · exact bandCommand_answers rfl hb rfl hp (mapTo_inOrder (by rw [openFrame_sel rfl, hs]) hf)
  · exact bandCommand_answers rfl hb rfl hp (mapTo_outOfOrder (by rwa [openFrame_sel rfl]))
  · exact bandCommand_answers rfl hb rfl hp (mapSkip_inOrder (by rw [openFrame_sel rfl, hs]) hf ht)
  · exact bandCommand_answers rfl hb rfl hp (mapSkip_outOfOrder (by rwa [openFrame_sel rfl]))
  · exact mapCommand_answers rfl rfl hp (actMapAssign_high hb hn _ _)
  · subst he
    exact mapAssign_answers_order hp hs
  · subst he
    have hw := mapAssign_writes e (openFrame .mapAssign s)
    rw [openFrame_sel rfl] at hw
    exact ⟨_, mapAssign_answers_done hp hs, assignMap_only e _, rfl, openFrame_lastBand _ s, hw⟩

end Sys2Proof.Machine
end

section
/-! PROOFS. The stream's start (R158) and its stop (R159); the reading and the clearing of the log's state and of the
counters (R157, R161). -/

namespace Sys2Proof.Machine

/-! ### A stream starts (R158, log 28) -/

/-- A fresh stream is in progress, before the free line takes its first frame. -/
def freshStream (n : Nat) (s : State) : State := s.modLink (fun k => { k with stream := some (Stream.fresh n) })

theorem startStream_eq (n : Nat) (s : State) : startStream n s = pump (freshStream n s) := rfl

theorem freshStream_only (n : Nat) (s : State) : Only [.link, .stream] s (freshStream n s) := by
  intro b hb; cases b <;> simp_all [agree, freshStream]

theorem startStream_only (n : Nat) (s : State) : Only [.link, .stream] s (startStream n s) :=
  (freshStream_only n s).andThen (pump_only _)

/-- A fresh stream has no record in flight, so it leaves a free line free. -/
theorem freshStream_free {n : Nat} {s : State} (hk : s.link.sending = none) :
    (freshStream n s).link.lineBusy = false := by
  refine lineBusy_free hk fun st h => ?_
  obtain rfl : Stream.fresh n = st := Option.some.inj h
  rfl

theorem outstanding_nil_iff (k : Link) : k.outstanding = [] ↔ k.sending = none ∧ k.waiting = [] := by
  simp [Link.outstanding]

/-- On a free line with no reply waiting the oldest record is in flight at once. -/
theorem startStream_idle {n : Nat} {s : State} {r : PassRec} {rs : List PassRec} (hr : s.log.records = r :: rs)
    (ho : s.link.outstanding = []) :
    startStream n s = s.modLink (fun k =>
      { k with stream := some { Stream.fresh n with flight := some { copy := r, overwritten := false } } }) := by
  obtain ⟨hk, hw⟩ := (outstanding_nil_iff s.link).1 ho
  rw [startStream_eq, pump_streaming (freshStream_free hk) hw rfl]
  exact streamStart_next rfl hr (Nat.eq_zero_or_pos n)

/-- While replies are outstanding the stream waits for the line, which goes on with them. -/
theorem startStream_waits {n : Nat} {s : State} (ho : s.link.outstanding ≠ []) :
    (startStream n s).link.stream = some (Stream.fresh n) ∧
      (startStream n s).link.outstanding = s.link.outstanding ∧
      (startStream n s).link.discard = s.link.discard := by
  rw [startStream_eq]
  cases hk : s.link.sending with
  | some q =>
    have sending : (freshStream n s).link.sending.isSome = true := by
      show s.link.sending.isSome = true
      rw [hk]; rfl
    rw [pump_busy (lineBusy_of_sending sending)]
    exact ⟨rfl, rfl, rfl⟩
  | none =>
    obtain ⟨q, qs, hw⟩ := List.exists_cons_of_ne_nil fun hw => ho ((outstanding_nil_iff s.link).2 ⟨hk, hw⟩)
    rw [pump_reply (freshStream_free hk) hw]
    refine ⟨rfl, ?_, rfl⟩
    show q :: qs = s.link.sending.toList ++ s.link.waiting
    rw [hk, hw]
    rfl

/-- The stream that STREAM-LOG starts, whatever the line is doing. -/
theorem startStream_forms {n : Nat} {s : State} {r : PassRec} {rs : List PassRec} (hr : s.log.records = r :: rs) :
    (startStream n s).link.outstanding = s.link.outstanding ∧ (startStream n s).link.discard = s.link.discard ∧
      ∃ f, (startStream n s).link.stream = some { asked := n, delivered := 0, flight := f } ∧
        (s.link.outstanding = [] → f = some { copy := r, overwritten := false }) ∧
        (s.link.sending ≠ none → f = none) := by
  by_cases ho : s.link.outstanding = []
  · have hk : s.link.sending = none := ((outstanding_nil_iff s.link).1 ho).1
    rw [startStream_idle hr ho]
    exact ⟨rfl, rfl, _, rfl, fun _ => rfl, fun h => absurd hk h⟩
  · obtain ⟨stream, outstanding, discard⟩ := startStream_waits (n := n) ho
    exact ⟨outstanding, discard, none, stream, fun h => absurd h ho, fun _ => rfl⟩

/-! ### STREAM-LOG and STOP-STREAM (R158, R159) -/

theorem actStreamLog_empty (n : Byte) (held : HeldSet) {s : State} (h : s.log.records = []) :
    actStreamLog [n] held s = (.done [0, 0], s) := if_pos (List.isEmpty_iff.2 h)

theorem actStreamLog_records (n : Byte) (held : HeldSet) {s : State} (h : s.log.records ≠ []) :
    actStreamLog [n] held s = (.streaming, startStream n.toNat s) := if_neg (mt List.isEmpty_iff.1 h)

/-- With records in the log STREAM-LOG forms no reply: it leaves the state in which the stream has started. -/
theorem streamLog_starts {n : Byte} {s : State} (hp : s.passes .streamLog [n] = true) (h : s.log.records ≠ []) :
    exec (.streamLog [n]) s = .next (startStream n.toNat (openFrame .streamLog s)) :=
  answers_of_act (a := .streaming) (f := startStream n.toNat) rfl hp
    (actStreamLog_records n _ (by rwa [openFrame_log]))

/-- Settles O30: STREAM-LOG's act on an empty log and on one with records, where the line is idle or has replies to
send; STOP-STREAM's act changes nothing. -/
theorem streamsAreStartedAndStopped : Obligations.StreamsAreStartedAndStopped := by
  refine fun s => ⟨fun hp => answers_of_act rfl hp rfl, fun n hp => ⟨fun he => ?_, fun r rs hr => ?_⟩⟩
  · exact answers_of_act rfl hp (actStreamLog_empty n _ (by rwa [openFrame_log]))
  · have started := startStream_forms (n := n.toNat) (s := openFrame .streamLog s) (by rwa [openFrame_log])
    exact ⟨_, streamLog_starts hp (by simp [hr]), startStream_only _ _, started⟩

/-! ### The log's state (R157) -/

theorem actReadLogState_openFrame (c : Cmd) (s : State) (args : List Byte) (held : HeldSet) :
    actReadLogState args held (openFrame c s) =
      (.done s.logData, { openFrame c s with log := { s.log with lost := 0 } }) := by
  unfold actReadLogState State.logData State.modLog
  rw [openFrame_log]

/-! ### The counters (R161) -/

theorem countsData_lane (s : State) (l : Lane) :
    s.countsData (some l) =
      [(s.log.lanes.get l).grants, (s.log.lanes.get l).passages, (s.log.lanes.get l).noShows,
        (s.log.lanes.get l).violations].flatMap (fun c => bytes16 c.toNat) := rfl

theorem countsData_slip (s : State) :
    s.countsData none =
      [s.log.slip.grants, s.log.slip.cuts, s.log.slip.yields, s.log.slip.expired].flatMap
        (fun c => bytes16 c.toNat) := rfl

@[simp] theorem openFrame_countsData (c : Cmd) (s : State) : (openFrame c s).countsData = s.countsData := by
  funext o
  cases o <;> simp only [State.countsData, openFrame_log]

theorem readCounts_answers {s : State} (hp : s.passes .readCounts [] = true) :
    Answers (exec (.readCounts []) s) .readCounts s (.done (s.countsData s.link.held.lane)) id :=
  answers_of_act rfl hp (by rw [actReadCounts, openFrame_countsData, id])

theorem clearCounts_lane (c : Cmd) (s : State) (l : Lane) :
    clearCounts (some l) (openFrame c s) =
      { openFrame c s with log := { s.log with lanes := s.log.lanes.set l LaneCounts.zero } } := by
  unfold clearCounts State.modLog
  rw [openFrame_log]

theorem clearCounts_all (c : Cmd) (s : State) :
    clearCounts none (openFrame c s) =
      { openFrame c s with log := { s.log with lanes := Quad.all LaneCounts.zero, slip := SlipCounts.zero } } := by
  unfold clearCounts State.modLog
  rw [openFrame_log]

theorem clearCounts_answers {s : State} {o : Option Lane} {f : State → State}
    (hp : s.passes .clearCounts [] = true) (ho : s.link.held.lane = o)
    (hf : clearCounts o (openFrame .clearCounts s) = f (openFrame .clearCounts s)) :
    Answers (exec (.clearCounts []) s) .clearCounts s (.done []) f :=
  answers_of_act (act := actClearCounts) rfl hp (congrArg (Prod.mk (Answer.done [])) (ho ▸ hf))

/-- Settles O31: one answer each of READ-LOG-STATE, READ-COUNTS and CLEAR-COUNTS, with a LANE prefix or none, and a
write into the log with room and at a full log. -/
theorem theLogStateAndTheCountsAreRead : Obligations.TheLogStateAndTheCountsAreRead := by
  refine ⟨fun s hp => ?_, fun s => ⟨fun hp => ⟨fun l hl => ?_, fun hl => ?_⟩, fun hp => ⟨fun l hl => ?_, fun hl => ?_⟩⟩,
    ?_⟩
  · exact answers_of_act rfl hp (actReadLogState_openFrame _ s _ _)
  · rw [← countsData_lane, ← hl]
    exact readCounts_answers hp
  · rw [← countsData_slip, ← hl]
    exact readCounts_answers hp
  · exact clearCounts_answers hp hl (clearCounts_lane _ s l)
  · exact clearCounts_answers hp hl (clearCounts_all _ s)
  · rintro r s t rfl
    refine ⟨writeRec_only r s, fun room => ?_, fun full => ?_⟩
    · obtain ⟨log, link⟩ := writeRec_room (r := r) room
      rw [log, link]
      exact ⟨rfl, rfl, rfl, rfl⟩
    · obtain ⟨log, link⟩ := writeRec_full (r := r) full
      rw [log, link]
      exact ⟨rfl, rfl, rfl, rfl⟩

end Sys2Proof.Machine
end

section
/-! PROOFS. What the part does by itself (log 1 to 5): the passing of a tenth, read back block by block, and a row given
before its moment or without one. -/

namespace Sys2Proof.Machine

/-! ### The passing of time (R23, R24, R35, R79, R99, R110, R137, R172) -/

theorem advance_only (k : Nat) (s : State) : Only [.env, .chans, .lamps, .arb, .entries] s (advance k s) := by
  intro b hb; cases b <;> simp_all [agree, advance]

theorem advance_lamp (k : Nat) (s : State) (l : Lane) (col : Colour) :
    (advance k s).lamp l col = (s.lamp l col).elapse (s.now + k) := by
  have h : (advance k s).head l = (s.head l).map (LampRec.elapse (s.now + k)) := Quad.get_map _ _ l
  unfold State.lamp
  rw [h, Head.get_map]

/-- A lamp in FLASH whose sense reads ON as its on-phase begins is proved by it (R79). -/
theorem LampRec.elapse_proves {now e : Nat} {r : LampRec} (flash : r.commanded = .flash) (on : r.sensed = true)
    (proving : r.proving = .proving) (phase : r.phaseEnd = some e) (begun : e ≤ now + 5) :
    r.elapse now = { r with proving := .proven, phaseSeen := true } := by
  unfold LampRec.elapse
  rw [phase]
  exact if_pos ⟨flash, on, proving, begun⟩

theorem LampRec.elapse_stands {now : Nat} {r : LampRec}
    (h : r.commanded ≠ .flash ∨ r.sensed = false ∨ r.proving ≠ .proving ∨ ∀ e, r.phaseEnd = some e → now + 5 < e) :
    r.elapse now = r := by
  unfold LampRec.elapse
  cases phase : r.phaseEnd with
  | none => rfl
  | some e =>
    refine if_neg fun ⟨flash, on, proving, begun⟩ => ?_
    rcases h with h | h | h | h
    · exact h flash
    · exact absurd (h.symm.trans on) Bool.false_ne_true
    · exact h proving
    · exact absurd begun (Nat.not_le.2 (h e phase))

theorem Channel.elapse_tenth (s : State) (r : Channel) :
    r.elapse s.metering 1 = { r with
      contOccupied := if r.occupied then min 65535 (r.contOccupied + 1) else r.contOccupied
      sinceActuation := if s.site.state = .metering ∧ r.health = .good then
          min 65535 (r.sinceActuation + 1) else r.sinceActuation
      occupiedPeriod := if r.role = .mainline ∧ r.reading = true then
          min 65535 (r.occupiedPeriod + 1) else r.occupiedPeriod } := by
  simp only [Channel.elapse, satAdd, State.metering, Bool.and_eq_true, beq_iff_eq]

theorem Arbiter.elapse_tenth (a : Arbiter) :
    a.elapse 1 = { a with
      elapsed := if a.armed = none then a.elapsed else min 65535 (a.elapsed + 1)
      reserveLeft := if a.reservation = .pending then a.reserveLeft - 1 else a.reserveLeft } := by
  unfold Arbiter.elapse satAdd
  cases a.armed <;> rfl

/-- Site time returns to 0 after its largest value (R172). -/
theorem siteTime_wraps {t : BitVec 24} (h : t.toNat = 16777215) : (t + 1).toNat = 0 := by
  rw [BitVec.toNat_add, h]
  rfl

/-! ### A step on an empty queue (log 1, 2, 5) -/

/-- On an empty queue the one move that can come next is run. -/
theorem step_oneMove {s : State} {m : Move} (hq : s.pending = []) (hr : s.resetIn = false) (hm : s.moves = [m]) :
    step s = runMove m s := by
  unfold step idle
  rw [hq]
  dsimp only
  rw [if_neg (by simp [hr]), hm]

theorem moves_tenth {s : State} (hd : s.dueNow = []) (hl : s.lineMoves = []) : s.moves = [.tenth] := by
  rw [State.moves, hd, hl]
  rfl

/-! ### A row given before its moment, or with none (log 3, 4) -/

theorem timed_dueIn_of_taken {i : Instr} {c : State → Bool} {f : State → State} (hx : ∀ s, exec i s = taken (c s) f s)
    (hd : ∀ s, dueIn i s = atOnce (c s)) : ∃ f, ∀ s, exec i s = timed (dueIn i s) f s :=
  ⟨f, fun s => by rw [hx, hd, taken_eq_timed]⟩

/-- A row whose event can be due is taken at the moment `dueIn` gives it; FRAME_GAP_TIMEOUT alone has a moment
besides (log 18). -/
theorem exec_timed_dueIn {i : Instr} {u : State} (hd : (dueIn i u).isSome = true) (hg : i ≠ .frameGapTimeout) :
    ∃ f, ∀ s, exec i s = timed (dueIn i s) f s := by
  cases i with
  | frameGapTimeout => exact absurd rfl hg
  | prefixHoldExpiry | linkLossExpiry | actuation | clearing | stuckOnExpiry | stuckOffExpiry | mergeSettleExpiry
  | queueOnReached | queueOffReached | spillOnReached | spillOffReached | occupancyPeriodClose | preemptionAssertion
  | preemptionRelease | overrideLimitExpiry | lampTestExpiry | warningExpiry | stopFlushExpiry | provingWindowEnd
  | flashOnPhaseEnd | strayMeasureExpiry | lossOfProof | minGreenElapsed | greenDurationElapsed | amberTimeElapsed
  | minRedElapsed | redGraceExpiry | intervalExpiry | reservationExpiry =>
    exact ⟨_, fun _ => rfl⟩
  | noShowClaim | arbiterGoverningChange | laneGoverningChange | lampFailureReport | releaseCut | releaseEnd | request
  | withdrawal | mergeMonitorChange | grant | advanceActuation =>
    exact timed_dueIn_of_taken (fun _ => rfl) (fun _ => rfl)
  | _ => exact absurd hd Bool.false_ne_true

/-- The missing tenths pass first, and the event is then taken. -/
theorem timed_early (k : Nat) (f : State → State) {s : State} (hr : s.resetIn = false) :
    timed (some (k + 1)) f s = timed (some 0) f (advance (k + 1) s) := by
  rw [timed_now (s := advance (k + 1) s) hr rfl]
  exact if_neg (by simp [hr])

theorem execFrameGapTimeout_dueIn {s : State} {n : Nat} (hd : dueIn .frameGapTimeout s = some n) :
    exec .frameGapTimeout s = timed (some n) discardAll s := by
  have gap : s.gapIn = some n := hd
  show timed (some (s.gapIn.getD 6)) discardAll s = _
  rw [gap, Option.getD_some]

theorem exec_early {i : Instr} {s : State} {k : Nat} (hr : s.resetIn = false) (hd : dueIn i s = some (k + 1))
    (hk : dueIn i (advance (k + 1) s) = some 0) : exec i s = exec i (advance (k + 1) s) := by
  by_cases hg : i = .frameGapTimeout
  · subst hg
    rw [execFrameGapTimeout_dueIn hd, execFrameGapTimeout_dueIn hk, timed_early k _ hr]
  · obtain ⟨f, hf⟩ := exec_timed_dueIn (by rw [hd]; rfl) hg
    rw [hf, hf, hd, hk, timed_early k f hr]

theorem exec_notDue {i : Instr} {s u : State} (hu : (dueIn i u).isSome = true) (hg : i ≠ .frameGapTimeout)
    (hd : dueIn i s = none) : exec i s = .next s := by
  obtain ⟨f, hf⟩ := exec_timed_dueIn hu hg
  rw [hf, timed_none hd]

/-- Settles O3: the one move that can come is run, a tenth is read back block by block, and a row is timed by the moment
its event is due. -/
theorem thePartRunsByItself : Obligations.ThePartRunsByItself := by
  refine ⟨fun s hq hr => ⟨fun i hm => step_oneMove hq hr hm, fun hd hl => ?_⟩,
    fun i s hr => ⟨fun k => exec_early hr, fun ⟨u, hu⟩ => exec_notDue hu⟩⟩
  refine ⟨_, step_oneMove hq hr (moves_tenth hd hl), rfl, rfl, siteTime_wraps, rfl, rfl, rfl, rfl, advance_only 1 s, rfl, rfl,
    ?_, fun c => ?_, Arbiter.elapse_tenth _, rfl⟩
  · rintro l col r rfl
    rw [advance_lamp]
    exact ⟨fun e => LampRec.elapse_proves, LampRec.elapse_stands⟩
  · rw [advance_chan, Channel.elapse_tenth]

end Sys2Proof.Machine
end

section
/-! PROOFS. The frame check (R164), and the receiver over the bytes of a command frame (R163, R165). -/

namespace Sys2Proof

/-! ### The check (R164) -/

theorem crc8_append (bs : List Byte) (b : Byte) : crc8 (bs ++ [b]) = crcByte (crc8 bs) b := by
  unfold crc8
  rw [List.foldl_append]
  rfl

/-- A byte equal to the register leaves the register at 0. -/
theorem crcByte_self (r : Byte) : crcByte r r = 0 := by
  unfold crcByte
  rw [BitVec.xor_self]
  rfl

theorem crc8_check (bs : List Byte) : crc8 (bs ++ [crc8 bs]) = 0 := by rw [crc8_append, crcByte_self]

/-- The registers of the manual's two examples, byte by byte (R164). -/
theorem crc8_len1 : crc8 [0x01] = 0x07 := rfl

theorem crc8_begin : crc8 [0x01, 0x01] = 0x12 := by
  calc crc8 [0x01, 0x01]
    _ = crcByte (crc8 [0x01]) 0x01 := crc8_append [0x01] 0x01
    _ = 0x12 := by rw [crc8_len1]; rfl

theorem crc8_len2 : crc8 [0x02] = 0x0E := rfl

theorem crc8_code : crc8 [0x02, 0x01] = 0x2D := by
  calc crc8 [0x02, 0x01]
    _ = crcByte (crc8 [0x02]) 0x01 := crc8_append [0x02] 0x01
    _ = 0x2D := by rw [crc8_len2]; rfl

theorem crc8_status : crc8 [0x02, 0x01, 0x00] = 0xC3 := by
  calc crc8 [0x02, 0x01, 0x00]
    _ = crcByte (crc8 [0x02, 0x01]) 0x00 := crc8_append [0x02, 0x01] 0x00
    _ = 0xC3 := by rw [crc8_code]; rfl

/-! ### The receiver over a command frame (R163) -/

theorem receiveBytes_quiet {r q : Receiver} {b : Byte} (h : receiveByte r b = (q, .nothing)) (bs : List Byte) :
    receiveBytes r (b :: bs) = receiveBytes q bs := by
  simp only [receiveBytes, h, if_true, List.nil_append]

theorem receiveByte_sync : receiveByte .hunting 0xD5 = (.length, .nothing) := rfl

theorem receiveByte_noise {b : Byte} (h : b ≠ 0xD5) : receiveByte .hunting b = (.hunting, .nothing) := by
  unfold receiveByte hunt
  rw [if_neg h]

theorem lenInRange_iff (b : Byte) : lenInRange b = true ↔ 1 ≤ b.toNat ∧ b.toNat ≤ 48 := decide_eq_true_iff

theorem lenInRange_not {b : Byte} (h : b.toNat = 0 ∨ 48 < b.toNat) : lenInRange b = false := by
  unfold lenInRange
  rw [decide_eq_false_iff_not]
  omega

theorem receiveByte_len {b : Byte} (h1 : 1 ≤ b.toNat) (h48 : b.toNat ≤ 48) :
    receiveByte .length b = (.body b [], .nothing) := if_pos ((lenInRange_iff b).2 ⟨h1, h48⟩)

theorem receiveByte_badLen {b : Byte} (h : b.toNat = 0 ∨ 48 < b.toNat) :
    receiveByte .length b = (hunt b, .badLength b) := if_neg (by simp [lenInRange_not h])

theorem receiveByte_body {len : Byte} {got : List Byte} (b : Byte) (h : got.length < len.toNat) :
    receiveByte (.body len got) b = (.body len (got ++ [b]), .nothing) := if_pos h

theorem receiveByte_last {len : Byte} {got : List Byte} (b : Byte) (h : len.toNat ≤ got.length) :
    receiveByte (.body len got) b = (.hunting, .frame len (got ++ [b])) := if_neg (Nat.not_lt.2 h)

/-- The bytes that LEN counts are kept, and the one after them completes the frame. -/
theorem receiveBytes_body {len : Byte} (check : Byte) (bs got : List Byte) (h : got.length + bs.length = len.toNat) :
    receiveBytes (.body len got) (bs ++ [check]) = (.hunting, [.frame len (got ++ bs ++ [check])]) := by
  induction bs generalizing got with
  | nil =>
    simp only [List.nil_append, receiveBytes, receiveByte_last check (Nat.le_of_eq h.symm), List.append_nil]
    rfl
  | cons b bs ih =>
    rw [List.length_cons] at h
    rw [List.cons_append, receiveBytes_quiet (receiveByte_body b (by omega)),
      ih (got ++ [b]) (by rw [List.length_append, List.length_singleton]; omega), List.append_assoc got [b] bs]
    rfl

/-- LEN as the frame of a code and arguments carries it (R163). -/
def lenByte (args : List Byte) : Byte := BitVec.ofNat 8 (args.length + 1)

theorem lenByte_toNat {args : List Byte} (h : args.length ≤ 47) : (lenByte args).toNat = args.length + 1 :=
  Nat.mod_eq_of_lt (by omega)

theorem frameBytes_eq (code : Byte) (args : List Byte) :
    frameBytes code args =
      0xD5 :: lenByte args :: (code :: args ++ [crc8 (lenByte args :: code :: args)]) := rfl

/-- The bytes of a frame, to a receiver that hunts, are one complete frame. -/
theorem receiveBytes_frame (code : Byte) {args : List Byte} (h : args.length ≤ 47) :
    receiveBytes .hunting (frameBytes code args) =
      (.hunting, [.frame (lenByte args) (code :: args ++ [crc8 (lenByte args :: code :: args)])]) := by
  have hn := lenByte_toNat h
  rw [frameBytes_eq, receiveBytes_quiet receiveByte_sync,
    receiveBytes_quiet (receiveByte_len (b := lenByte args) (by omega) (by omega)),
    receiveBytes_body _ (code :: args) [] (by rw [hn, List.length_nil, List.length_cons]; omega)]
  rfl

/-! ### The command a frame spells (R165) -/

theorem ofCode_code (c : Cmd) : Cmd.ofCode c.code = some c := by cases c <;> rfl

theorem frameInstr_frame (c : Cmd) (len : Byte) (args : List Byte) :
    frameInstr len (c.code :: args ++ [crc8 (len :: c.code :: args)]) = c.instr args := by
  have check : crc8 (len :: (c.code :: args ++ [crc8 (len :: c.code :: args)])) = 0 := crc8_check (len :: c.code :: args)
  unfold frameInstr
  rw [if_neg (not_not_intro check), List.dropLast_concat]
  dsimp only
  rw [ofCode_code]

/-- Settles O5: the receiver keeps the bytes of the body one by one, and the check over them and itself is 0. -/
theorem theReceiverReadsBackEveryCommandFrame : Obligations.TheReceiverReadsBackEveryCommandFrame :=
  fun c args h => ⟨_, _, receiveBytes_frame c.code h, frameInstr_frame c (lenByte args) args⟩

end Sys2Proof

namespace Sys2Proof.Machine

/-! ### The reply to BEGIN in DARK (R39, R164, R166) -/

/-- With nothing to report in its flags an accepted frame has status 0. -/
theorem reply_quiet {s : State} (code : Byte) (data : List Byte) (stream : s.link.stream = none)
    (up : s.startingUp = false) (discard : s.link.discard = false) (notices : s.link.notices = 0) :
    (reply code .accepted data s).link.outstanding = s.link.outstanding ++ [{ code := code, status := 0, data := data }] := by
  have quiet : s.statusWith s.link.discard .accepted = 0 := by
    have masked : (0 : BitVec 8) &&& s.link.mask = 0 := BitVec.zero_and
    rw [State.statusWith, attnFlag_eq, State.startingFlag, up, discard, notices, masked]
    rfl
  rw [reply_outstanding code .accepted data stream, quiet]

/-- The opening of a frame that finds nothing to do on the link but to consume what is not held. -/
theorem openFrame_quiet {s : State} (c : Cmd) (notices : s.link.notices = 0) (discard : s.link.discard = false)
    (mode : s.link.mode = .central) (sel : s.sel.sel = .none) (stream : s.link.stream = none) :
    (openFrame c s).link.stream = none ∧ (openFrame c s).link.discard = false ∧ (openFrame c s).link.notices = 0 ∧
      (openFrame c s).link.outstanding = s.link.outstanding := by
  have hl := openFrame_offLine c s
  refine ⟨congrArg Link.stream hl, (congrArg Link.discard hl).trans ?_, (congrArg Link.notices hl).trans ?_, ?_⟩
  · show (s.link.discard && _ || _) = _
    rw [discard, sel]
    exact Bool.and_false _
  · show s.link.centralNotices = 0
    rw [Link.centralNotices, mode, notices]
    rfl
  · have taken : (frameTaken s).link.stream = none := by rw [frameTaken_link]; exact stream
    rw [openFrame_outstanding, State.endFrames, taken, List.append_nil]

theorem begin_dark {s : State} (hp : s.passes .beginCmd [] = true) (dark : s.site.state = .dark)
    (notices : s.link.notices = 0) (discard : s.link.discard = false) (mode : s.link.mode = .central)
    (sel : s.sel.sel = .none) (stream : s.link.stream = none) :
    ∃ t, exec (.beginCmd []) s = .next t ∧
      t.link.outstanding = s.link.outstanding ++ [{ code := 0x01, status := 0x00, data := [] }] := by
  obtain ⟨hstream, hdiscard, hnotices, houtstanding⟩ := openFrame_quiet .beginCmd notices discard mode sel stream
  have act : actBegin [] s.link.held (openFrame .beginCmd s) = (.done [], markBegun (openFrame .beginCmd s)) := by
    unfold actBegin
    rw [openFrame_site, dark]
    rfl
  have up : (markBegun (openFrame .beginCmd s)).startingUp = false := by
    show (openFrame .beginCmd s).startingUp = false
    rw [openFrame_startingUp, State.startingUp, dark]
    rfl
  refine ⟨_, done_of_act rfl hp act, ?_⟩
  rw [← houtstanding]
  exact reply_quiet (s := markBegun (openFrame .beginCmd s)) 0x01 [] hstream up hdiscard hnotices

theorem frameBytes_begin : frameBytes 0x01 [] = [0xD5, 0x01, 0x01, 0x12] := by
  show [0xD5, 0x01, 0x01, crc8 [0x01, 0x01]] = _
  rw [crc8_begin]

theorem bytes_accepted :
    ({ code := 0x01, status := 0x00, data := [] } : Reply).bytes = [0x5D, 0x02, 0x01, 0x00, 0xC3] := by
  show [0x5D, 0x02, 0x01, 0x00, crc8 [0x02, 0x01, 0x00]] = _
  rw [crc8_status]

/-- Settles O6: the check and the frames by their definitions, the check over bytes and their check by `crc8_check`, the
examples register by register, and the reply to BEGIN by the one reply its frame forms. -/
theorem theCheckIsTheCrcOfTheManual : Obligations.TheCheckIsTheCrcOfTheManual :=
  ⟨rfl, crc8_append, fun _ _ => rfl, fun _ => rfl, fun _ _ => rfl, fun _ => rfl, fun _ => rfl, crc8_check,
    frameBytes_begin, crc8_len1, crc8_begin, bytes_accepted, crc8_len2, crc8_code, crc8_status,
    fun _ hp dark notices discard mode _ sel stream => begin_dark hp dark notices discard mode sel stream⟩

end Sys2Proof.Machine
end

section
/-! PROOFS. The bytes the receiver takes from the line, what breaks a frame off (R163), and the answers to a frame whose
check or whose code is bad (R165). -/

namespace Sys2Proof.Machine

/-! ### The byte taken from the line (R163, log 18) -/

/-- The state with the byte off the line and its move of the receiver made, where `u` is what the gap has left. -/
def byteTaken (now : Nat) (b : Byte) (rest : List Byte) (u : State) : State :=
  { u with
    rxLine := rest
    link := { u.link with receiver := (receiveByte u.link.receiver b).1, lastByte := now } }

/-- A byte moves the receiver; a frame or a LEN out of range that it completes is then taken as its row. -/
theorem takeByte_cons {s u : State} {b : Byte} {rest : List Byte} (hl : s.rxLine = b :: rest) (hu : breakAtGap s = u) :
    ((receiveByte u.link.receiver b).2 = .nothing → takeByte s = .next (byteTaken s.now b rest u)) ∧
    (∀ len body, (receiveByte u.link.receiver b).2 = .frame len body →
      takeByte s = exec (frameInstr len body) (byteTaken s.now b rest u)) ∧
    (∀ len, (receiveByte u.link.receiver b).2 = .badLength len →
      takeByte s = exec (.lenOutOfRange len) (byteTaken s.now b rest u)) := by
  subst hu
  unfold takeByte
  rw [hl]
  dsimp only
  refine ⟨fun h => ?_, fun len body h => ?_, fun len h => ?_⟩ <;> rw [h] <;> rfl

/-- In time, or with no frame in progress, nothing is broken off; after the gap the frame is (R163). -/
theorem breakAtGap_eq {s u : State}
    (h : (u = s ∧ (s.link.receiver = .hunting ∨ s.now ≤ s.link.lastByte + 5)) ∨
      (u = s.brokenOff ∧ s.link.receiver ≠ .hunting ∧ s.link.lastByte + 5 < s.now)) : breakAtGap s = u := by
  rcases h with ⟨rfl, hunting | inTime⟩ | ⟨rfl, frame, late⟩
  · exact breakAtGap_hunting hunting
  · exact breakAtGap_inTime inTime
  · exact breakAtGap_late frame late

/-! ### A frame broken off, and an overrun (R163) -/

theorem gapIn_late {s : State} (frame : s.link.receiver ≠ .hunting) (late : s.link.lastByte + 5 < s.now) :
    s.gapIn = some 0 := by
  have due : s.until (s.link.lastByte + 6) = 0 := until_due late
  unfold State.gapIn
  cases hr : s.link.receiver with
  | hunting => exact absurd hr frame
  | length => exact congrArg some due
  | body len got => exact congrArg some due

theorem execFrameGapTimeout_late {s : State} (hr : s.resetIn = false) (frame : s.link.receiver ≠ .hunting)
    (late : s.link.lastByte + 5 < s.now) : exec .frameGapTimeout s = .next (discardAll s) :=
  (execFrameGapTimeout_dueIn (gapIn_late frame late)).trans (timed_now hr rfl)

theorem execLenOutOfRange_breaksOff {s : State} {len : Byte} (hr : s.resetIn = false)
    (h : len.toNat = 0 ∨ 48 < len.toNat) :
    exec (.lenOutOfRange len) s =
      .next { discardAll s with link := { (discardAll s).link with receiver := hunt len, lastByte := s.now } } :=
  taken_now hr (by rw [lenInRange_not h]; rfl)

theorem listFull_iff (s : State) : s.listFull = true ↔ 8 ≤ s.link.waiting.length := decide_eq_true_iff

theorem listFull_not {s : State} (h : s.link.waiting.length < 8) : ¬ s.listFull = true := by
  rw [listFull_iff]
  omega

theorem execFrameOverrun_full {s : State} (hr : s.resetIn = false) (full : s.listFull = true) :
    exec .frameOverrun s = .next (discardAll s) := taken_now hr full

theorem execBadCheckFrame_full {s : State} (hr : s.resetIn = false) (full : s.listFull = true) :
    exec .badCheckFrame s = .next (discardAll s) :=
  (taken_now hr rfl).trans (congrArg Host.Outcome.next (if_pos full))

theorem execUndefinedCodeFrame_full {s : State} {code : Byte} (args : List Byte) (hr : s.resetIn = false)
    (hc : Cmd.ofCode code = none) (full : s.listFull = true) :
    exec (.undefinedCodeFrame code args) s = .next (discardAll s) :=
  (taken_now hr (by rw [hc]; rfl)).trans (congrArg Host.Outcome.next (if_pos full))

theorem exec_instr_full {s : State} (c : Cmd) (args : List Byte) (hr : s.resetIn = false) (full : s.listFull = true) :
    exec (c.instr args) s = .next (discardAll s) := by
  obtain ⟨act, hx⟩ := exec_instr c
  rw [hx, hostFrame, if_neg (by simp [hr]), takeFrame, if_pos full]

/-- Settles O7: the receiver's table move by move, the byte from the line by `takeByte_cons`, and each row that breaks a
frame off or finds the reply list full. -/
theorem theReceiverTakesAndBreaksOffFrames : Obligations.TheReceiverTakesAndBreaksOffFrames := by
  refine ⟨⟨receiveByte_sync, fun b => receiveByte_noise, fun b => receiveByte_len, fun b h hb => ?_,
    receiveByte_badLen (.inr (by decide)), fun len got b => receiveByte_body b, fun len got b => receiveByte_last b, ?_⟩, ?_⟩
  · rw [receiveByte_badLen h, hunt, if_neg hb]
  · rintro s u b rest hl hu t rfl
    exact takeByte_cons hl (breakAtGap_eq hu)
  · rintro s hr t rfl
    rw [← discardAll_brokenOff]
    refine ⟨execFrameGapTimeout_late hr, fun len h hb => ?_, execLenOutOfRange_breaksOff hr (.inr (by decide)),
      fun waiting => ?_⟩
    · rw [execLenOutOfRange_breaksOff hr h, hunt, if_neg hb]
      rfl
    · have full := (listFull_iff s).2 waiting
      exact ⟨execFrameOverrun_full hr full, execBadCheckFrame_full hr full, fun c args => exec_instr_full c args hr full,
        fun code args hc => execUndefinedCodeFrame_full args hr hc full⟩

/-! ### A frame whose check is bad (R159, R165, R166, log 28) -/

/-- The status byte speaks of the site state, the pending notices and the mask. -/
theorem statusWith_congr {s t : State} (site : t.site = s.site) (notices : t.link.notices = s.link.notices)
    (mask : t.link.mask = s.link.mask) (d : Bool) (v : Verdict) : t.statusWith d v = s.statusWith d v := by
  unfold State.statusWith State.startingFlag State.startingUp State.attnFlag Link.attention
  rw [site, notices, mask]

/-- A frame with a bad check before its reply: its stream ended, then the prefixes and the selection discarded. -/
def checkFailed (s : State) : State := discardAll (endStream s)

theorem execBadCheckFrame_room {s : State} (hr : s.resetIn = false) (room : s.link.waiting.length < 8) :
    exec .badCheckFrame s = .next (reply 0x00 .check [] (checkFailed s)) := by
  have answered : takeBadCheck s = reply 0x00 .check [] (checkFailed s) := if_neg (listFull_not room)
  rw [← answered]
  exact taken_now hr rfl

theorem checkFailed_only (s : State) : Only [.link, .stream, .selection] s (checkFailed s) :=
  ((endStream_only s).mono (cs := [.link, .stream, .selection])).step (discardAll_only _)

theorem checkFailed_offLine (s : State) :
    (checkFailed s).link.offLine =
      { s.link with
        receiver := .hunting, stream := none, held := HeldSet.empty
        discard := (s.link.discard && s.link.stream.isNone) || s.link.held.any || s.sel.sel != MapSel.none }.offLine := by
  have sel : (endStream s).sel.sel = s.sel.sel := (endStream_only s).same .selection
  calc _
    _ = { (endStream s).link.offLine with
          receiver := .hunting, held := HeldSet.empty
          discard := (endStream s).link.offLine.discard || (endStream s).link.offLine.held.any ||
            (endStream s).sel.sel != MapSel.none } := rfl
    _ = _ := by rw [endStream_offLine, sel]; rfl

theorem discardAll_outstanding (s : State) : (discardAll s).link.outstanding = s.link.outstanding := rfl

theorem checkFailed_outstanding (s : State) :
    (checkFailed s).link.outstanding = s.link.outstanding ++ s.endFrames :=
  (discardAll_outstanding (endStream s)).trans (endStream_outstanding s)

theorem checkFailed_statusWith (s : State) (d : Bool) (v : Verdict) :
    (checkFailed s).statusWith d v = s.statusWith d v :=
  statusWith_congr ((checkFailed_only s).same .site) ((checkFailed_only s).same .notices)
    (congrArg Link.mask (checkFailed_offLine s) :) d v

theorem badCheck_answered {s : State} (hr : s.resetIn = false) (room : s.link.waiting.length < 8) :
    ∃ t, exec .badCheckFrame s = .next t ∧ Only [.link, .stream, .selection] s t ∧
      t.link.outstanding = s.link.outstanding ++ s.endFrames ++
        [{ code := 0x00
           status := s.statusWith
             ((s.link.discard && s.link.stream.isNone) || s.link.held.any || s.sel.sel != .none) .check
           data := [] }] ∧
      t.link.stream = none ∧ t.link.held = HeldSet.empty ∧ t.sel.sel = .none ∧ t.link.discard = false ∧
      t.link.receiver = .hunting ∧ t.link.mode = s.link.mode ∧ t.link.lossFrom = s.link.lossFrom ∧
      t.link.mask = s.link.mask ∧ t.link.begun = s.link.begun := by
  have failed := checkFailed_offLine s
  have stream : (checkFailed s).link.stream = none := congrArg Link.stream failed
  have discard := congrArg Link.discard failed
  have hl : (reply 0x00 .check [] (checkFailed s)).link.offLine =
      { s.link with receiver := .hunting, stream := none, held := HeldSet.empty, discard := false }.offLine :=
    (reply_offLine 0x00 .check [] stream).trans (congrArg (fun k : Link => { k with discard := false }) failed)
  refine ⟨_, execBadCheckFrame_room hr room, (checkFailed_only s).step (reply_only _ _ _ _), ?_, congrArg Link.stream hl,
    congrArg Link.held hl, ?_, congrArg Link.discard hl, congrArg Link.receiver hl, (congrArg Link.mode hl :),
    (congrArg Link.lossFrom hl :), (congrArg Link.mask hl :), (congrArg Link.begun hl :)⟩
  · rw [reply_outstanding 0x00 .check [] stream, checkFailed_outstanding, checkFailed_statusWith]
    exact congrArg (fun d => s.link.outstanding ++ s.endFrames ++
      [({ code := 0x00, status := s.statusWith d .check, data := [] } : Reply)]) discard
  · exact (reply_only 0x00 .check [] (checkFailed s)).same .selection

/-! ### A frame of an undefined code (R145, R146, R165) -/

/-- Its opening is that of any command that adds no prefix and keeps no selection. -/
theorem execUndefinedCodeFrame_room {s : State} {code : Byte} (args : List Byte) (hr : s.resetIn = false)
    (room : s.link.waiting.length < 8) (hc : Cmd.ofCode code = none) :
    exec (.undefinedCodeFrame code args) s = .next (reply code .unknown [] (openFrame .readConfig s)) := by
  have answered : takeUndefined code s = reply code .unknown [] (openFrame .readConfig s) := if_neg (listFull_not room)
  rw [← answered]
  exact taken_now hr (by rw [hc]; rfl)

theorem undefinedCode_answered {s : State} {code : Byte} (args : List Byte) (hr : s.resetIn = false)
    (room : s.link.waiting.length < 8) (hc : Cmd.ofCode code = none) :
    ∃ t, exec (.undefinedCodeFrame code args) s = .next t ∧ Only frameParts s t ∧
      (∃ u, openFrame .readConfig s = u ∧ t.link.outstanding =
        u.link.outstanding ++ [{ code := code, status := u.status .unknown, data := [] }]) ∧
      t.link.stream = none ∧ t.link.held = HeldSet.empty ∧ t.sel.sel = .none ∧ t.link.discard = false ∧
      t.link.receiver = .hunting ∧ t.link.mode = .central ∧ t.link.mask = s.link.mask ∧ t.link.begun = s.link.begun ∧
      t.link.notices = s.link.centralNotices ∧ t.link.lossFrom = (if s.link.begun then some s.now else none) := by
  have opened := openFrame_offLine .readConfig s
  have stream : (openFrame .readConfig s).link.stream = none := congrArg Link.stream opened
  have hl := (reply_offLine code .unknown [] stream).trans
    (congrArg (fun k : Link => { k with discard := false }) opened)
  refine ⟨_, execUndefinedCodeFrame_room args hr room hc, (openFrame_only _ s).step (reply_only _ _ _ _),
    ⟨_, rfl, reply_outstanding code .unknown [] stream⟩, congrArg Link.stream hl, congrArg Link.held hl, ?_,
    congrArg Link.discard hl, congrArg Link.receiver hl, congrArg Link.mode hl, (congrArg Link.mask hl :),
    (congrArg Link.begun hl :), congrArg Link.notices hl, congrArg Link.lossFrom hl⟩
  have kept : (reply code .unknown [] (openFrame .readConfig s)).sel.sel = (openFrame .readConfig s).sel.sel :=
    (reply_only code .unknown [] _).same .selection
  exact kept.trans (openFrame_selection .readConfig s)

/-- Settles O8: the replies to a bad check and to an undefined code, and checks 3, 4 and 5 by `linkChecks`. -/
theorem theLinkChecksEveryFrame : Obligations.TheLinkChecksEveryFrame :=
  ⟨fun _ hr room => ⟨badCheck_answered hr room, fun _ args => undefinedCode_answered args hr room⟩,
    fun c args s => linkChecks s c args⟩

end Sys2Proof.Machine
end

section
/-! PROOFS. The notices, their mask and ATTN (R169, R170), site time (R172), and the prefix frames (R167). -/

namespace Sys2Proof.Machine

/-! ### The highest notice (R169, R170) -/

/-- The classes that stand before a class in the order of priority have smaller codes. -/
theorem byPriority_split (n : Notice) :
    ∃ before after, Notice.byPriority = before ++ n :: after ∧ ∀ m ∈ before, m.code < n.code := by
  cases n
  case failsafe => exact ⟨[], _, rfl, by decide⟩
  case lamp => exact ⟨[.failsafe], _, rfl, by decide⟩
  case detector => exact ⟨[.failsafe, .lamp], _, rfl, by decide⟩
  case override => exact ⟨[.failsafe, .lamp, .detector], _, rfl, by decide⟩
  case priority => exact ⟨[.failsafe, .lamp, .detector, .override], _, rfl, by decide⟩
  case site => exact ⟨[.failsafe, .lamp, .detector, .override, .priority], _, rfl, by decide⟩
  case link => exact ⟨[.failsafe, .lamp, .detector, .override, .priority, .site], _, rfl, by decide⟩
  case log => exact ⟨[.failsafe, .lamp, .detector, .override, .priority, .site, .link], _, rfl, by decide⟩

/-- The first class in order that is pending and in the mask, with none of a smaller code, is the one taken. -/
theorem topNotice_highest {s : State} {n : Notice} (stands : s.link.notices &&& s.link.mask &&& n.bit ≠ 0)
    (first : ∀ m : Notice, m.code < n.code → s.link.notices &&& s.link.mask &&& m.bit = 0) :
    s.topNotice = some n := by
  obtain ⟨before, after, order, smaller⟩ := byPriority_split n
  unfold State.topNotice
  refine List.find?_eq_some_iff_append.2 ⟨bne_iff_ne.2 stands, before, after, order, fun m hm => ?_⟩
  rw [first m (smaller m hm)]
  rfl

theorem topNotice_none {s : State} (h : s.link.notices &&& s.link.mask = 0) : s.topNotice = none := by
  have zero : ∀ b : BitVec 8, 0 &&& b = 0 := fun _ => BitVec.zero_and
  refine List.find?_eq_none.2 fun n _ => ?_
  rw [h, zero]
  decide

theorem actTakeNotice_takes {s : State} {n : Notice} (h : s.topNotice = some n) (args : List Byte) (held : HeldSet) :
    actTakeNotice args held s = (.done [n.code, s.link.notices &&& ~~~n.bit], clearNotice n s) := by
  unfold actTakeNotice
  rw [h]
  rfl

theorem actTakeNotice_none {s : State} (h : s.topNotice = none) (args : List Byte) (held : HeldSet) :
    actTakeNotice args held s = (.done [0, s.link.notices], s) := by
  unfold actTakeNotice
  rw [h]

theorem attn_iff (s : State) : s.attn = true ↔ s.resetIn = false ∧ s.link.notices &&& s.link.mask ≠ 0 := by
  simp [State.attn, Link.attention]

/-! ### Site time (R172) -/

theorem toNat_append_byte {n : Nat} (x : BitVec n) (b : Byte) : (x ++ b).toNat = x.toNat * 256 + b.toNat := by
  rw [BitVec.toNat_append, ← Nat.shiftLeft_add_eq_or_of_lt b.isLt, Nat.shiftLeft_eq]

/-- The three bytes of SET-TIME side by side are the site time, most significant byte first. -/
theorem timeArg_append (b2 b1 b0 : Byte) : timeArg b2 b1 b0 = b2 ++ b1 ++ b0 := by
  refine BitVec.eq_of_toNat_eq ?_
  rw [timeArg, toNat_append_byte, toNat_append_byte, BitVec.toNat_ofNat]
  omega

/-- A start time keeps its distance from site time when site time is set. -/
theorem entryTime_distance (s : State) (v : BitVec 24) (l : Lane) :
    { s with siteTime := v }.entryTime l - v = s.entryTime l - s.siteTime := by
  show v - BitVec.ofNat 24 (s.now - (s.lane l).entryAt) - v =
    s.siteTime - BitVec.ofNat 24 (s.now - (s.lane l).entryAt) - s.siteTime
  generalize BitVec.ofNat 24 (s.now - (s.lane l).entryAt) = d
  ring

/-- Settles O13: the notice taken is the first of `byPriority_split`, the mask and the site time are written by their
acts, and the words for notices are their tables. -/
theorem noticesAndSiteTimeAreSet : Obligations.NoticesAndSiteTimeAreSet := by
  refine ⟨fun s => ⟨?_, fun m hp => answers_of_act rfl hp rfl, attn_iff s⟩,
    ⟨rfl, rfl, fun n s => ⟨rfl, raise_only n s⟩⟩, fun b2 b1 b0 s hp => ?_, entryTime_distance⟩
  · rintro hp u rfl
    exact ⟨fun n stands first => answers_of_act rfl hp (actTakeNotice_takes (topNotice_highest stands first) _ _),
      fun nothing => answers_of_act rfl hp (actTakeNotice_none (topNotice_none nothing) _ _)⟩
  · rw [← timeArg_append]
    exact answers_of_act rfl hp rfl

/-! ### Prefix frames (R167) -/

/-- What the act of a prefix frame does, for a kind of prefix with `n` numbers: `get` reads its designation among those
held, `put` writes it. -/
structure PrefixAct (n : Nat) (act : Act) (get : HeldSet → Option (Fin n)) (put : Fin n → HeldSet → HeldSet) : Prop where
  inRange : ∀ {b : Byte} {i : Fin n}, b.toNat = i.val → ∀ held s,
    act [b] held s = takePrefix (get s.link.held).isSome (put i) s
  outOfRange : ∀ {b : Byte}, n ≤ b.toNat → ∀ held s, act [b] held s = (.range, s)

theorem actPfxLane_prefix : PrefixAct 4 actPfxLane HeldSet.lane (fun l h => { h with lane := some l }) where
  inRange hb _ s := by simp only [actPfxLane, numArg_val _ hb]
  outOfRange hb _ s := by simp only [actPfxLane, numArg_high hb]

theorem actPfxPlan_prefix : PrefixAct 16 actPfxPlan HeldSet.slot (fun i h => { h with slot := some i }) where
  inRange hb _ s := by simp only [actPfxPlan, numArg_val _ hb]
  outOfRange hb _ s := by simp only [actPfxPlan, numArg_high hb]

theorem actPfxChannel_prefix : PrefixAct 16 actPfxChannel HeldSet.chan (fun c h => { h with chan := some c }) where
  inRange hb _ s := by simp only [actPfxChannel, numArg_val _ hb]
  outOfRange hb _ s := by simp only [actPfxChannel, numArg_high hb]

/-- What is held once a prefix is taken: the prefix-hold time runs from the first one (R167). -/
def heldWith (f : HeldSet → HeldSet) (now : Nat) (h : HeldSet) : HeldSet :=
  { f h with since := if h.any then h.since else some now }

theorem takePrefix_holds (f : HeldSet → HeldSet) (s : State) :
    takePrefix false f s =
      (.done [optByte (heldWith f s.now s.link.held).lane, optByte (heldWith f s.now s.link.held).slot,
        optByte (heldWith f s.now s.link.held).chan, 0],
        { s with link := { s.link with held := heldWith f s.now s.link.held } }) := rfl

theorem takePrefix_ignores (f : HeldSet → HeldSet) (s : State) :
    takePrefix true f s =
      (.done [optByte s.link.held.lane, optByte s.link.held.slot, optByte s.link.held.chan, 1], s) := rfl

/-- The opening of a prefix frame consumes nothing that is held (R165, R168). -/
theorem openFrame_held {c : Cmd} (hc : c.isPrefix = true) (s : State) : (openFrame c s).link.held = s.link.held := by
  have hl : (openFrame c s).link.held = if c.isPrefix then s.link.held else HeldSet.empty :=
    congrArg Link.held (openFrame_offLine c s)
  rw [hl, if_pos hc]

theorem keepsSelection_of_isPrefix {c : Cmd} (hc : c.isPrefix = true) : c.keepsSelection = true := by
  simp [Cmd.keepsSelection, hc]

theorem openFrame_stream (c : Cmd) (s : State) : (openFrame c s).link.stream = none :=
  congrArg Link.stream (openFrame_offLine c s)

/-- A prefix frame that passes its checks: out of range, held, or ignored. -/
theorem prefixFrame_answers {n : Nat} {c : Cmd} {act : Act} {get : HeldSet → Option (Fin n)}
    {put : Fin n → HeldSet → HeldSet} {b : Byte} {s : State} {o : Out} (k : PrefixAct n act get put)
    (ho : o = hostFrame c act [b] s) (hc : c.isPrefix = true) (hp : s.passes c [b] = true) :
    (n ≤ b.toNat → Answers o c s .range id) ∧
    ∀ i : Fin n, b.toNat = i.val →
      (get s.link.held = none → ∀ h, h = heldWith (put i) s.now s.link.held →
        Answers o c s (.done [optByte h.lane, optByte h.slot, optByte h.chan, 0])
          (fun u => { u with link := { u.link with held := h } })) ∧
      (∀ j, get s.link.held = some j → Answers o c s
        (.done [optByte s.link.held.lane, optByte s.link.held.slot, optByte s.link.held.chan, 1]) id) := by
  have held := openFrame_held hc s
  refine ⟨fun hb => answers_of_act ho hp (k.outOfRange hb _ _), fun i hb => ⟨?_, fun j hj => ?_⟩⟩
  · rintro hj h rfl
    refine answers_of_act ho hp ((k.inRange hb _ _).trans ?_)
    rw [held, hj, Option.isSome_none, takePrefix_holds, held, openFrame_now]
  · refine answers_of_act ho hp ((k.inRange hb _ _).trans ?_)
    rw [held, hj, Option.isSome_some, takePrefix_ignores, held, id]

/-- Settles O14: the checks by `linkChecks`, the opening by its link, and the three kinds by `prefixFrame_answers`. -/
theorem prefixFramesHoldOnePrefixOfEachKind : Obligations.PrefixFramesHoldOnePrefixOfEachKind := fun s _ =>
  ⟨fun args => ⟨linkChecks s .pfxLane args, linkChecks s .pfxPlan args, linkChecks s .pfxChannel args⟩,
    fun c hc => ⟨openFrame_held hc s, openFrame_sel (keepsSelection_of_isPrefix hc) s, openFrame_stream c s⟩,
    prefixFrame_answers actPfxLane_prefix rfl rfl, prefixFrame_answers actPfxPlan_prefix rfl rfl,
    prefixFrame_answers actPfxChannel_prefix rfl rfl⟩

end Sys2Proof.Machine
end

section
/-! PROOFS. The sets of bits in the replies (R174), and the reading commands with their layouts (R16, R28, R87, R114, R118,
R141, R152, R154, R171). -/

namespace Sys2Proof

theorem Bank.list_eq_map {α : Type} (b : Bank α) : Bank.list b = allSixteen.map (Bank.at b) := rfl

end Sys2Proof

namespace Sys2Proof.Machine

/-! ### Sets of bits (R174) -/

/-- Powers of two, one for each bit that is set, sum to the number of those bits. -/
theorem sum_bits {n : Nat} (f : Fin n → Bool) :
    ((List.finRange n).map (fun b => if f b then 2 ^ b.val else 0)).sum = Nat.ofBits f := by
  induction n with
  | zero => rfl
  | succ n ih =>
    have low : (if f 0 then 2 ^ (0 : Fin (n + 1)).val else 0) = (f 0).toNat := by cases f 0 <;> rfl
    have high : ∀ b : Fin n, (if f b.succ then 2 ^ b.succ.val else 0) = 2 * (if f b.succ then 2 ^ b.val else 0) := by
      intro b
      rw [Fin.val_succ, pow_succ, mul_comm, mul_ite, mul_zero]
    rw [List.finRange_succ, List.map_cons, List.map_map, List.sum_cons, low, Nat.ofBits_succ, ← ih, add_comm,
      ← List.sum_map_mul_left]
    simp only [Function.comp_def, high]

/-- The two bytes of a number, side by side, are the number in sixteen bits. -/
theorem bytes16_append (n : Nat) :
    (BitVec.ofNat 8 (n / 256) ++ BitVec.ofNat 8 n : BitVec 16) = BitVec.ofNat 16 n := by
  refine BitVec.eq_of_toNat_eq ?_
  rw [toNat_append_byte, BitVec.toNat_ofNat, BitVec.toNat_ofNat, BitVec.toNat_ofNat]
  omega

/-- Bit `i` of the two bytes of a set is member `i`. -/
theorem getLsbD_ofBits {n : Nat} (f : Fin n → Bool) {i : Nat} (hi : i < n) (hn : n ≤ 16) :
    (BitVec.ofNat 8 (Nat.ofBits f / 256) ++ BitVec.ofNat 8 (Nat.ofBits f) : BitVec 16).getLsbD i = f ⟨i, hi⟩ := by
  rw [bytes16_append, BitVec.getLsbD_ofNat, Nat.testBit_ofBits_lt f i hi, decide_eq_true (by omega), Bool.true_and]

theorem setBytes_eq (f : Fin 16 → Bool) : setBytes f = bytes16 (Nat.ofBits f) := congrArg bytes16 (sum_bits f)

theorem setBytes_members (f : Fin 16 → Bool) :
    ∃ hi lo, setBytes f = [hi, lo] ∧ ∀ c, (hi ++ lo : BitVec 16).getLsbD c.val = f c :=
  ⟨_, _, setBytes_eq f, fun c => getLsbD_ofBits f c.isLt (le_refl 16)⟩

/-- The colours in the order of the lamp fault set. -/
def colourAt : Nat → Colour
  | 0 => .red
  | 1 => .amber
  | _ => .green

/-- Bit lane × 3 + colour of the lamp fault set (R171, R174). -/
def State.faultBit (s : State) (i : Fin 12) : Bool :=
  (s.lamp ⟨i.val / 3, by omega⟩ (colourAt (i.val % 3))).fault != .none

theorem faultBit_lamp (s : State) (l : Lane) {k : Nat} (hk : k < 3) (h : l.val * 3 + k < 12) :
    s.faultBit ⟨l.val * 3 + k, h⟩ = ((s.lamp l (colourAt k)).fault != .none) := by
  have lane : (⟨(l.val * 3 + k) / 3, by omega⟩ : Lane) = l := Fin.ext (by show (l.val * 3 + k) / 3 = l.val; omega)
  have colour : (l.val * 3 + k) % 3 = k := by omega
  unfold State.faultBit
  dsimp only
  rw [lane, colour]

theorem faultSet_eq (s : State) : s.faultSet = bytes16 (Nat.ofBits s.faultBit) := by
  have bit : ∀ (f : LampFault) (n : Nat), (if f = .none then 0 else n) = if f != .none then n else 0 := by
    intro f n
    cases f <;> rfl
  unfold State.faultSet
  rw [← sum_bits]
  simp only [bit, allLanes, List.map_cons, List.sum_cons, List.map_nil, List.sum_nil, add_assoc]
  rfl

theorem faultSet_members (s : State) :
    ∃ hi lo, s.faultSet = [hi, lo] ∧ (hi ++ lo : BitVec 16).toNat < 4096 ∧
      ∀ l : Lane, (hi ++ lo : BitVec 16).getLsbD (l.val * 3) = ((s.lamp l .red).fault != .none) ∧
        (hi ++ lo : BitVec 16).getLsbD (l.val * 3 + 1) = ((s.lamp l .amber).fault != .none) ∧
        (hi ++ lo : BitVec 16).getLsbD (l.val * 3 + 2) = ((s.lamp l .green).fault != .none) := by
  have lamp : ∀ (l : Lane) (k : Nat), k < 3 →
      (BitVec.ofNat 8 (Nat.ofBits s.faultBit / 256) ++ BitVec.ofNat 8 (Nat.ofBits s.faultBit) : BitVec 16).getLsbD
        (l.val * 3 + k) = ((s.lamp l (colourAt k)).fault != .none) := fun l k hk => by
    rw [getLsbD_ofBits s.faultBit (by omega) (by decide), faultBit_lamp s l hk]
  refine ⟨_, _, faultSet_eq s, ?_, fun l => ⟨lamp l 0 (by decide), lamp l 1 (by decide), lamp l 2 (by decide)⟩⟩
  have bound : Nat.ofBits s.faultBit < 4096 := Nat.ofBits_lt_two_pow s.faultBit
  rw [bytes16_append, BitVec.toNat_ofNat]
  omega

/-! ### The layouts (R174) -/

theorem lampsData_lane (s : State) (l : Lane) :
    s.lampsData (some l) = [Colour.red, .amber, .green].flatMap (fun col => (s.lamp l col).data) ++ [s.lamps.sign.code] :=
  rfl

theorem lampsData_all (s : State) :
    s.lampsData none =
      [0, 1, 2, 3].flatMap (fun m => [Colour.red, .amber, .green].flatMap (fun col => (s.lamp m col).data)) ++
        [s.lamps.sign.code] := rfl

/-- An entry of READ-OVERRIDES, from the bytes of its source's lane and of its two optional values. -/
theorem Entry.data_eq {e : Entry} {lane : Byte} {limit fixed : List Byte} (hs : optByte (sourceLane e.source) = lane)
    (hl : optBytes16 0xFFFF e.limit = limit) (hf : optBytes16 0 e.fixed = fixed) :
    e.data = [kindCode e.kind, sourceCode e.source, lane, optByte e.lanes] ++ limit ++ fixed := by
  subst hs hl hf
  rfl

theorem overridesData_eq {f : Entry → List Byte} (h : ∀ e, Entry.data e = f e) (s : State) :
    s.overridesData = byte1 s.ovr.entries.length :: s.ovr.entries.flatMap f ++ [flagByte s.ovr.preLevel] := by
  obtain rfl : Entry.data = f := funext h
  rfl

theorem mapData_eq (s : State) :
    s.mapData = allSixteen.map (fun b => optByte (Bank.at s.sel.map b)) ++ [optByte s.sel.lastBand] ++
      [s.sel.sel.code, optByte s.sel.sel.fromBand, optByte s.sel.sel.toBand] ++ setBytes s.sel.sel.skipped := rfl

/-- With no range held no band is in the skipped set. -/
theorem setBytes_empty : setBytes (fun _ => false) = [0, 0] := rfl

theorem mapData_fields (s : State) :
    ∃ codes skips : List Byte,
      s.mapData = allSixteen.map (fun b => optByte (Bank.at s.sel.map b)) ++ [optByte s.sel.lastBand] ++ codes ++ skips ∧
      (s.sel.sel = .none → codes = [0, 0xFF, 0xFF] ∧ skips = [0, 0]) ∧
      (∀ f, s.sel.sel = .fromHeld f → codes = [1, byte1 f.val, 0xFF] ∧ skips = [0, 0]) ∧
      (∀ f g k, s.sel.sel = .rangeHeld f g k →
        codes = [2, byte1 f.val, byte1 g.val] ∧ skips = setBytes (Bank.at k)) := by
  refine ⟨_, _, mapData_eq s, fun h => ?_, fun f h => ?_, fun f g k h => ?_⟩ <;> rw [h]
  · exact ⟨rfl, setBytes_empty⟩
  · exact ⟨rfl, setBytes_empty⟩
  · exact ⟨rfl, rfl⟩

/-- The open release in three bytes; with none its number is a free value (log 14). -/
theorem openData_fields (s : State) :
    ∃ hi lo, s.openData = [optByte (s.arb.openRelease.map Prod.fst), hi, lo] ∧
      ∀ l g, s.arb.openRelease = some (l, g) → [hi, lo] = bytes16 g.toNat := by
  unfold State.openData
  cases h : s.arb.openRelease with
  | none => exact ⟨_, _, rfl, fun _ _ k => nomatch k⟩
  | some p =>
    obtain ⟨l, g⟩ := p
    refine ⟨_, _, rfl, fun m g' k => ?_⟩
    obtain ⟨rfl, rfl⟩ := Prod.mk.inj (Option.some.inj k)
    rfl

theorem arbiterData_fields (s : State) :
    ∃ hi lo, s.arbiterData =
      [s.arb.own.code, optByte s.arb.owner, s.arb.holdCause.code, optByte s.arb.holdLane, byte1 s.arb.queue.length] ++
      s.arb.queue.map (fun l => byte1 l.val) ++ [flagByte s.arb.prioWaiting] ++ bytes16 (s.arb.armed.getD 0) ++
      bytes16 s.arb.elapsed ++ [flagByte s.arb.expired] ++ bytes16 (s.intervalInForce.getD 0) ++
      [optByte (s.arb.openRelease.map Prod.fst), hi, lo] ++
      [0, 1, 2, 3].map (fun l => if s.desc.priority = some l then 0xFF else byte1 (s.arb.credit.get l)) ++
      [byte1 s.arb.prioCount, s.arb.reservation.code] ++ bytes16 s.arb.reserveLeft ++ bytes16 s.arb.grantNo.toNat ++
      [s.det.merge.state.code] ∧
      ∀ l g, s.arb.openRelease = some (l, g) → [hi, lo] = bytes16 g.toNat := by
  obtain ⟨hi, lo, release, number⟩ := openData_fields s
  refine ⟨hi, lo, ?_, number⟩
  rw [State.arbiterData, release]
  rfl

/-- The interval in force is the smaller of the armed and the governing interval (R99). -/
theorem intervalInForce_cases (s : State) :
    (s.arb.armed = none → s.intervalInForce = none) ∧
    (∀ n, s.arb.armed = some n → s.governingInterval = none → s.intervalInForce = some n) ∧
    (∀ n m, s.arb.armed = some n → s.governingInterval = some m → s.intervalInForce = some (min n m)) := by
  refine ⟨fun ha => ?_, fun n ha hg => ?_, fun n m ha hg => ?_⟩
  · simp only [State.intervalInForce, ha]
  · simp only [State.intervalInForce, ha, hg]
  · simp only [State.intervalInForce, ha, hg]

theorem governingCode_empty {s : State} (h : s.ovr.entries = []) : s.governingCode = 0 := by
  rw [State.governingCode, State.topGov, h]
  rfl

theorem governingCode_top {s : State} {e : Entry} {es : List Entry} (h : s.ovr.entries = e :: es) :
    s.governingCode = kindCode e.kind := by
  rw [State.governingCode, State.topGov, h]
  rfl

theorem occupancyByte_unknown {s : State} (h : s.det.occupancy = none) : s.occupancyByte = 0xFF := by
  rw [State.occupancyByte, h]

theorem occupancyByte_known {s : State} {n : Nat} (h : s.det.occupancy = some n) :
    s.occupancyByte = BitVec.ofNat 8 n := by
  rw [State.occupancyByte, h]
  rfl

/-! ### What a reading reports stands through the opening of its frame -/

section

variable (c : Cmd) (s : State)

theorem openFrame_configData : (openFrame c s).configData = s.configData := by
  simp only [State.configData, openFrame_mode, openFrame_desc, openFrame_par]

theorem openFrame_lampsData (l : Option Lane) : (openFrame c s).lampsData l = s.lampsData l := by
  simp only [State.lampsData, openFrame_head, openFrame_lamps]

theorem openFrame_summary : (openFrame c s).summary = s.summary := by
  simp only [State.summary, openFrame_plans]

theorem openFrame_overridesData : (openFrame c s).overridesData = s.overridesData := by
  simp only [State.overridesData, openFrame_ovr]

theorem openFrame_mapData (hc : c.keepsSelection = true) : (openFrame c s).mapData = s.mapData := by
  simp only [State.mapData, openFrame_sel hc]

theorem openFrame_intervalInForce : (openFrame c s).intervalInForce = s.intervalInForce := by
  have slot : (openFrame c s).slot = s.slot := funext (openFrame_slot c s)
  simp only [State.intervalInForce, State.governingInterval, State.activePlan, openFrame_arb, openFrame_plans, slot]

theorem openFrame_arbiterData : (openFrame c s).arbiterData = s.arbiterData := by
  simp only [State.arbiterData, State.openData, State.creditData, openFrame_intervalInForce, openFrame_arb, openFrame_desc,
    openFrame_det, openFrame_freeCount]

end

/-! ### The reading commands (R171) -/

/-- A command whose act reports `data` and changes nothing, where the opening leaves `data` as it was. -/
theorem reading_answers {c : Cmd} {act : Act} {s : State} {o : Out} {data : State → List Byte}
    (ho : o = hostFrame c act [] s) (hp : s.passes c [] = true)
    (ha : act [] s.link.held (openFrame c s) = (.done (data (openFrame c s)), openFrame c s))
    (hd : data (openFrame c s) = data s) : Answers o c s (.done (data s)) id :=
  answers_of_act ho hp (hd ▸ ha)

theorem actReadPlan_empty {s : State} {held : HeldSet} {i : Slot} (hs : held.slot = some i) (hi : s.slot i = none)
    (args : List Byte) : actReadPlan args held s = (.refused .emptySlot, s) := by
  simp only [actReadPlan, hs, hi]

theorem actReadPlan_store {held : HeldSet} (hs : held.slot = none) (args : List Byte) (s : State) :
    actReadPlan args held s = (.done s.summary, s) := by
  simp only [actReadPlan, hs]

theorem readPlan_answers {s : State} (hp : s.passes .readPlan [] = true) :
    (∀ i p, s.link.held.slot = some i → s.slot i = some p →
      Answers (exec (.readPlan []) s) .readPlan s (.done p.data) id) ∧
    (∀ i, s.link.held.slot = some i → s.slot i = none →
      Answers (exec (.readPlan []) s) .readPlan s (.refused .emptySlot) id) ∧
    (s.link.held.slot = none → Answers (exec (.readPlan []) s) .readPlan s (.done s.summary) id) := by
  refine ⟨fun i p hs hi => ?_, fun i hs hi => ?_, fun hs => ?_⟩
  · exact answers_of_act rfl hp (actReadPlan_slot _ hs (by rwa [openFrame_slot]) [])
  · exact answers_of_act rfl hp (actReadPlan_empty hs (by rwa [openFrame_slot]) [])
  · exact reading_answers (data := State.summary) rfl hp (actReadPlan_store hs [] _) (openFrame_summary _ s)

/-- READ-ARBITER uses a free value exactly while no release is open (log 14). -/
theorem readArbiter_answers {s : State} (hp : s.passes .readArbiter [] = true) :
    (s.arb.openRelease ≠ none → Answers (exec (.readArbiter []) s) .readArbiter s (.done s.arbiterData) id) ∧
    (s.arb.openRelease = none → Answers (exec (.readArbiter []) s) .readArbiter s (.done s.arbiterData)
      (fun u => { u with freeCount := s.freeCount + 1 })) := by
  refine ⟨fun h => answers_of_act (act := actReadArbiter) rfl hp ?_,
    fun h => answers_of_act (act := actReadArbiter) rfl hp ?_⟩
  · have standing : (openFrame .readArbiter s).arb.openRelease ≠ none := by rwa [openFrame_arb]
    rw [actReadArbiter, openFrame_arbiterData, if_neg standing, id]
  · have closed : (openFrame .readArbiter s).arb.openRelease = none := by rwa [openFrame_arb]
    rw [actReadArbiter, openFrame_arbiterData, if_pos closed, useFree, openFrame_freeCount]

/-- Settles O12: each reading by its act; the layouts, the codes and the sets by the lemmas above. -/
theorem readingsChangeNothingAndHaveTheirLayouts : Obligations.ReadingsChangeNothingAndHaveTheirLayouts := by
  refine ⟨fun s => ⟨?_, fun hp => ?_, fun hp => ?_, fun hp => ?_, readPlan_answers, fun hp => ?_, fun hp => ?_,
    readArbiter_answers⟩, ⟨fun _ => rfl, fun _ => rfl, fun s => ⟨rfl, rfl⟩, fun r => rfl, ?_, fun p => rfl, fun s => rfl,
    overridesData_eq fun e => ?_, mapData_fields, arbiterData_fields, intervalInForce_cases, fun r => ?_⟩, ?_,
    fun n => ⟨rfl, rfl⟩, fun n => be16_bytes, ⟨rfl, rfl⟩, ⟨fun _ => rfl, rfl, fun _ => rfl, rfl⟩, setBytes_members,
    faultSet_members, fun s => ⟨governingCode_empty, fun e es => governingCode_top, occupancyByte_unknown,
      fun n => occupancyByte_known⟩⟩
  · rintro hp u rfl
    exact answers_of_act rfl hp rfl
  · exact reading_answers (data := State.configData) rfl hp rfl (openFrame_configData _ s)
  · exact reading_answers (data := fun u => (u.chan (s.link.held.chan.getD 0)).data) rfl hp rfl
      (congrArg Channel.data (openFrame_chan _ s _))
  · exact reading_answers (data := fun u => u.lampsData s.link.held.lane) rfl hp rfl (openFrame_lampsData _ s _)
  · exact reading_answers (data := State.overridesData) rfl hp rfl (openFrame_overridesData _ s)
  · exact reading_answers (data := State.mapData) rfl hp rfl (openFrame_mapData _ s rfl)
  · rintro s l lampBytes rfl
    exact ⟨lampsData_lane s l, lampsData_all s⟩
  · exact Entry.data_eq (by cases e.source <;> rfl) (by cases e.limit <;> rfl) (by cases e.fixed <;> rfl)
  · obtain ⟨time, lane, kind, plan, grant, shortfall⟩ := r
    cases grant <;> cases shortfall <;> rfl
  · exact ⟨rfl, rfl, rfl, rfl, rfl, rfl, rfl, rfl, rfl, rfl, rfl, rfl, rfl, rfl, rfl, rfl, rfl⟩

end Sys2Proof.Machine
end

section
/-! PROOFS. A step on a queue with a command in it (log 1); `step_oneMove` is its counterpart on an empty queue. -/

namespace Sys2Proof.Machine

/-- The command at the front leaves the queue before it acts. -/
theorem step_front {s : State} {c : Instr} {rest : List Instr} (hq : s.pending = c :: rest) :
    step s = exec c { s with pending := rest } := by
  unfold step
  rw [hq]

/-- Settles O1: the queue of the state is the one it is given, and its front is taken by `step_front`. -/
theorem stepTakesTheFrontCommand : Obligations.StepTakesTheFrontCommand := by
  intro c rest s
  have queue : { s with pending := c :: rest }.pending = c :: rest := rfl
  exact step_front queue

end Sys2Proof.Machine
end
